-- ==== Sys2Proof/Word.lean ====
section
/-! DEFINITION. The unit in which a host and the ET316 exchange everything (R161, R178): one byte. -/

namespace Sys2Proof

/-- One byte of a frame (R161, R178). -/
abbrev Byte := BitVec 8

end Sys2Proof
end

