-- ==== Sys2Proof/Syntax.lean ====
section
/-! DEFINITION. The commands and events of the ET316: one constructor of `Instr` for each row of the opcode table.
A command carries the port it came in on and the fields of its payload as the host sends them (R180, R182): bytes that
its meaning judges (R178). -/

namespace Sys2Proof

/-- The three host ports (R159). -/
inductive Port
  | a | b | c
  deriving DecidableEq, Repr

/-- The two excitation outputs (R130). -/
inductive OutputId
  | exa | exb
  deriving DecidableEq, Repr

/-- The ten payload bytes of PROFILE_WRITE, in the order of R182. -/
structure WriteFields where
  number : Byte
  positive : Byte
  negative : Byte
  reference : Byte
  gain : Byte
  osr : Byte
  order : Byte
  method : Byte
  need : Byte
  autoRecal : Byte
  deriving DecidableEq, Repr

/-- The twelve payload bytes of SUBMIT, in the order of R182; the two limits are signed 24 fields. -/
structure SubmitFields where
  tag : Byte
  number : Byte
  kind : Byte
  count : Byte
  run : Byte
  window : Byte
  low : BitVec 24
  high : BitVec 24
  deriving DecidableEq, Repr

/-- The levels of the strap pins when a device reset samples them (R148, R170); `true` is high. -/
structure Straps where
  supsel : Bool
  adr1 : Bool
  adr0 : Bool
  deriving DecidableEq, Repr

/-- An edge of SCL, the clock of port C's bus (R173). -/
inductive ClockEdge
  | rising | falling
  deriving DecidableEq, Repr

/-- How a transaction opens (R167, R169, R171, R172), with the whole bytes received in it up to the next event at the
port: chip select A or B falls, or a START or repeated START is followed by an address byte (7-bit address, direction) on
the bus of port C. There the row carries the edges of SCL after the acknowledge of the address byte, too. -/
inductive Opening
  | chipSelectA (received : List Byte)
  | chipSelectB (received : List Byte)
  | start (address : BitVec 7) (read : Bool) (received : List Byte) (edges : List ClockEdge)
  deriving DecidableEq, Repr

/-- The commands and events: one constructor for each row of spec/opcode_table.json, in the table's order. -/
inductive Instr
  | nop (p : Port)
  | status (p : Port)
  | portReset (p : Port)
  | alertConfig (p : Port) (choice : Byte)
  | profileClaim (p : Port) (wanted : Byte)
  | profileWrite (p : Port) (fields : WriteFields)
  | profileRead (p : Port) (number : Byte)
  | profileShare (p : Port) (number : Byte) (share : Byte)
  | profileRetire (p : Port) (number : Byte)
  | profileRelease (p : Port) (number : Byte)
  | submit (p : Port) (fields : SubmitFields)
  | cancel (p : Port) (tag : Byte)
  | query (p : Port) (tag : Byte)
  | fetch (p : Port) (n : Byte)
  | readNotices (p : Port) (n : Byte)
  | exciteVote (p : Port) (output : Byte) (vote : Byte)
  | engineStart (p : Port)
  | engineHalt (p : Port)
  | setQuota (p : Port) (target : Byte) (reserve : Byte) (ceiling : Byte)
  | setWeight (p : Port) (target : Byte) (weight : Byte)
  | setAffinity (p : Port) (limit : Byte)
  | setAllowance (p : Port) (target : Byte) (allowance : Byte)
  | setCombine (p : Port) (output : Byte) (mode : Byte) (designated : Byte)
  | setExciteTiming (p : Port) (output : Byte) (warmUp : Byte) (linger : Byte)
  | clearLockout (p : Port) (output : Byte)
  | setCalPolicy (p : Port) (interval : Byte) (maxAge : Byte) (maxDelta : BitVec 16)
  | forceRelease (p : Port) (number : Byte)
  | handoverOffer (p : Port) (target : Byte)
  | handoverAccept (p : Port)
  | frameError (p : Port) (rest : List Byte)
  | unknownCommand (p : Port) (rest : List Byte)
  | emptyTransaction (p : Port) (rest : List Byte)
  | busTimeout
  | deviceReset (straps : Straps)
  | startTimerExpiry
  | intervalTimerExpiry
  | outputPeriodEnd (raw : Int) (overload : Bool)
  | warmUpExpiry (o : OutputId)
  | lingerExpiry (o : OutputId)
  | holdOffExpiry (o : OutputId)
  | readyDwellExpiry (o : OutputId)
  | overcurrentTrip (o : OutputId)
  | offerLapse
  | transactionOpen (opening : Opening)
  deriving DecidableEq, Repr

end Sys2Proof
end

