-- ==== Sys2Proof/Decode.lean ====
section
/-! DEFINITION. The command a numbered word spells. The table gives no row any bits ("fields" is empty in every row of
spec/opcode_table.json), so no word spells a command (log 12). The commands' own byte frames (R161, R180, R182) are read
and written in Machine/Frames.lean. -/

namespace Sys2Proof

/-- The command spelled by the table's bits: none, since the table gives no row any. -/
def decodeTableWord (_nbits _w : Nat) : Option Instr := none

end Sys2Proof
end

