-- ==== Sys2Proof/Config.lean ====
section
/-! DEFINITION. What is fixed for each part and not given in the manual. -/

namespace Sys2Proof

/-- The characteristic of the internal temperature sense pair: a raw output of the converter to hundredths of a degree
Celsius, before the clamp of R6. "fixed for each part and is not given in this manual" (R6): a free value, log 5. -/
opaque Config.dieTemperature : Int → Int

end Sys2Proof
end

