-- ==== Sys2Proof/Machine/Straps.lean ====
section
/-! DEFINITION. What the strap pins select when a device reset samples them. -/

namespace Sys2Proof.Machine

/-- Port C's target address: 0x62 plus ADR1 ADR0 read as a two-bit number, ADR1 the higher bit (R170). -/
def strapAddress (straps : Straps) : BitVec 7 :=
  0x62#7 + (if straps.adr1 then 2#7 else 0#7) + (if straps.adr0 then 1#7 else 0#7)

/-- The port that SUPSEL makes the supervisor (R148). -/
def strapSupervisor (straps : Straps) : Port := if straps.supsel then .c else .a

end Sys2Proof.Machine
end

