-- ==== Sys2Proof/Machine/State.lean ====
section
/-! DEFINITION. The state of the ET316 as plain data, the reasons a step can stop, and the state after device reset.
INVENTORY.md lists each field with the rule that names it. -/

namespace Sys2Proof.Machine

/-- The spec describes no fault of this block. -/
inductive Fault
  /-- Raised by nothing: the host's interface asks for a type. Safe. -/
  | noneDescribed
  deriving DecidableEq, Repr

/-- Reasons a command has no meaning. -/
inductive Refusal
  /-- Raised by an arm of `exec` that has no meaning yet: there is none. Safe. -/
  | notModelled (mnemonic : String)
  deriving DecidableEq, Repr

/-- One item for each port. -/
structure PerPort (α : Type) where
  a : α
  b : α
  c : α
  deriving DecidableEq, Repr

/-- One item for each excitation output. -/
structure PerOutput (α : Type) where
  exa : α
  exb : α
  deriving DecidableEq, Repr

/-- A timer is stopped, or running with the duration it was started with, in milliseconds (log 1). -/
inductive Timer
  | stopped
  | running (ms : Nat)
  deriving DecidableEq, Repr

/-- The originator of a request, and the owner of a profile: a port, or M (the Calibration Monitor). -/
inductive Source
  | port (p : Port)
  | monitor
  deriving DecidableEq, Repr

/-! ## Profiles (R1 to R6) -/

inductive ProfileState
  | free | claimed | active | retiring
  deriving DecidableEq, Repr

/-- The input pins; `sense` is the internal temperature sense pair of profile 0 (R5). -/
inductive Input
  | ain (n : Fin 12)
  | common
  | sense
  deriving DecidableEq, Repr

inductive Reference
  | internal | external | ratioA | ratioB
  deriving DecidableEq, Repr

inductive Gain
  | x1 | x2 | x4 | x8 | x16 | x32 | x64 | x128
  deriving DecidableEq, Repr

inductive Osr
  | r64 | r128 | r256 | r512 | r1024 | r2048 | r4096 | r8192
  deriving DecidableEq, Repr

inductive FilterOrder
  | two | three | four
  deriving DecidableEq, Repr

inductive Method
  | none | stored | chop
  deriving DecidableEq, Repr

/-- The analog setup (R3). -/
structure AnalogSetup where
  positive : Input
  negative : Input
  reference : Reference
  gain : Gain
  osr : Osr
  order : FilterOrder
  deriving DecidableEq, Repr

/-- The offset record (R4). -/
structure OffsetRecord where
  value : Int
  calTemperature : Int
  age : Nat
  stale : Bool
  deriving DecidableEq, Repr

/-- A profile record (R1); its number is its place in the table. -/
structure Profile where
  state : ProfileState
  owner : Option Source
  share : PerPort Bool
  setup : AnalogSetup
  method : Method
  need : PerOutput Bool
  autoRecal : Bool
  record : Option OffsetRecord
  refCount : Nat
  deriving DecidableEq, Repr

/-! ## Requests (R25) -/

inductive Kind
  | measure | zero
  deriving DecidableEq, Repr

inductive Run
  | contiguous | interleaved
  deriving DecidableEq, Repr

inductive RequestState
  | queued | inFlight
  deriving DecidableEq, Repr

inductive WindowSide
  | unknown | inside | below | above
  deriving DecidableEq, Repr

structure Window where
  low : Int
  high : Int
  deriving DecidableEq, Repr

/-- Reasons of a termination (R29). -/
inductive Reason
  | completed | cancelled | retired | revoked | excitationFault | portReset
  deriving DecidableEq, Repr

/-- A live request (R25). `tag` is absent for source M; `side` is present when `window` is. -/
structure Request where
  source : Source
  tag : Option Byte
  profile : Fin 32
  kind : Kind
  count : Nat
  run : Run
  window : Option Window
  state : RequestState
  delivered : Nat
  side : Option WindowSide
  finalMark : Bool
  deriving DecidableEq, Repr

/-! ## Results and notices (R112, R113, R121, R122) -/

/-- The flag set of a result (R113). -/
structure ResultFlags where
  last : Bool
  overrange : Bool
  offsetStale : Bool
  offsetAbsent : Bool
  windowLow : Bool
  windowHigh : Bool
  zero : Bool
  deriving DecidableEq, Repr

/-- A result record (R112). -/
structure ResultRecord where
  tag : Byte
  profile : Fin 32
  sequence : BitVec 16
  index : Byte
  flags : ResultFlags
  value : Int
  deriving DecidableEq, Repr

inductive HighWater
  | armed | fired
  deriving DecidableEq, Repr

inductive EngineState
  | down | starting | running | halting
  deriving DecidableEq, Repr

inductive OutputPhase
  | off | warming | ready | linger | tripped | lockedOut
  deriving DecidableEq, Repr

/-- The criterion of an OFFSET_STALE notice (R100). -/
inductive Criterion
  | age | temperature | both
  deriving DecidableEq, Repr

/-- A notice with the fields its kind carries (R122). -/
inductive Notice
  | requestEnded (tag : Byte) (reason : Reason)
  | window (tag : Byte) (side : WindowSide)
  | offsetUpdated (profile : Fin 32) (source : Source)
  | offsetStale (profile : Fin 32) (criterion : Criterion)
  | profileRetired (profile : Fin 32)
  | profileRevoked (profile : Fin 32)
  | ringHigh (entries : Nat)
  | excitation (output : OutputId) (phase : OutputPhase)
  | engine (state : EngineState)
  | supervisor (p : Port)
  | offer (offering : Port)
  | offerLapsed (target : Port)
  | offerWithdrawn (other : Port)
  deriving DecidableEq, Repr

/-! ## Port interfaces (R159, R161, R181) -/

/-- The status of a response (R181). -/
inductive Status
  | ok | frameError | unknownCommand | badField | notSupervisor | notOwner | noAccess | profileState | profileRetiring
  | inUse | allowance | quota | duplicateTag | unknownTag | excitationLocked | quotaConflict | noOffer | notApplicable
  | engineState | noResponse
  deriving DecidableEq, Repr

/-- A response frame (R161); its payload length is the length of `payload`. -/
structure Response where
  status : Status
  code : Byte
  payload : List Byte
  crc : Byte
  deriving DecidableEq, Repr

/-- A transaction under way: its direction, the whole bytes received so far, the response latched to be shifted out
(R167, R172), and how many data bytes port C has acknowledged (R171; 0 on port A and B, which have no acknowledge). -/
structure OpenTransaction where
  read : Bool
  received : List Byte
  latched : Response
  acknowledged : Nat
  deriving DecidableEq, Repr

inductive Transaction
  | closed
  | opened (t : OpenTransaction)
  deriving DecidableEq, Repr

/-- Everything the ET316 holds for one port. -/
structure PortState where
  transaction : Transaction
  holder : Response
  ring : List ResultRecord
  reservations : Nat
  nextSeq : BitVec 16
  highWater : HighWater
  notices : List Notice
  lost : Bool
  ringAlert : Bool
  alertLow : Bool
  queue : List Request
  used : Nat
  reserve : Nat
  ceiling : Nat
  credit : Int
  weight : Nat
  allowance : Nat
  owned : Nat
  deriving DecidableEq, Repr

/-! ## Arbiter, engine, monitor (R49, R67, R91) -/

structure Arbiter where
  pointer : Port
  streak : Nat
  limit : Nat
  deriving DecidableEq, Repr

inductive ChopPhase
  | none | plus | minus
  deriving DecidableEq, Repr

/-- The loaded setup, when there is one (R67). -/
structure LoadedSetup where
  setup : AnalogSetup
  shorted : Bool
  phase : ChopPhase
  deriving DecidableEq, Repr

/-- The operation steps (R67). -/
inductive OpStep
  | settling | output | chopPlusSettling | chopPlusOutput | chopMinusSettling | chopMinusOutput | zeroSettling
  | zeroAveraging
  deriving DecidableEq, Repr

/-- The held partial (R67): the phase + output with the overload of its filter span, or the sum and number of averaged
ZERO outputs with the overload of their spans (R78, R83). -/
inductive Held
  | none
  | plus (output : Int) (overload : Bool)
  | average (sum : Int) (number : Nat) (overload : Bool)
  deriving DecidableEq, Repr

/-- Which live request is in flight: the head of a port's queue, or the monitor entry against a profile. -/
inductive Flight
  | port (p : Port)
  | monitor (n : Fin 32)
  deriving DecidableEq, Repr

/-- The Conversion Engine (R67). `marks` holds the overload marks newest first. -/
structure Engine where
  state : EngineState
  startTimer : Timer
  loaded : Option LoadedSetup
  progress : Nat
  inFlight : Option Flight
  step : Option OpStep
  held : Held
  marks : List Bool
  deriving DecidableEq, Repr

/-- The Calibration Monitor (R91) and the monitor queue (R37). -/
structure Monitor where
  temperature : Int
  valid : Bool
  intervalTimer : Timer
  sampleInterval : Nat
  maxAge : Nat
  maxDelta : Nat
  queue : List Request
  deriving DecidableEq, Repr

/-! ## Excitation and supervisor (R130, R147) -/

inductive CombineMode
  | any | all | designated
  deriving DecidableEq, Repr

/-- Everything held for one excitation output (R130). -/
structure OutputState where
  state : OutputPhase
  warmUpTime : Nat
  lingerTime : Nat
  warmUpTimer : Timer
  lingerTimer : Timer
  holdOffTimer : Timer
  dwellTimer : Timer
  tripCount : Nat
  combine : CombineMode
  designated : Port
  votes : PerPort Bool
  requestDemand : Bool
  deriving DecidableEq, Repr

/-- A pending handover offer (R147). -/
structure Offer where
  offering : Port
  target : Port
  deriving DecidableEq, Repr

/-- The whole machine. `pending` is the model's own: the commands and events that wait to be taken (log 8). -/
structure State where
  ports : PerPort PortState
  profiles : Vector Profile 32
  outputs : PerOutput OutputState
  engine : Engine
  arbiter : Arbiter
  monitor : Monitor
  supervisor : Port
  offer : Option Offer
  offerTimer : Timer
  targetAddress : BitVec 7
  busTimer : Timer
  pending : List Instr
  deriving DecidableEq, Repr

/-! ## Access by port and by output -/

/-- The item of a port. -/
def PerPort.get {α : Type} (x : PerPort α) : Port → α
  | .a => x.a
  | .b => x.b
  | .c => x.c

/-- Replace the item of a port. -/
def PerPort.set {α : Type} (x : PerPort α) (p : Port) (v : α) : PerPort α :=
  match p with
  | .a => { x with a := v }
  | .b => { x with b := v }
  | .c => { x with c := v }

/-- The same item for each port. -/
def PerPort.all {α : Type} (v : α) : PerPort α := ⟨v, v, v⟩

/-- Change the items of all ports. -/
def PerPort.map {α β : Type} (f : α → β) (x : PerPort α) : PerPort β := ⟨f x.a, f x.b, f x.c⟩

/-- The item of an output. -/
def PerOutput.get {α : Type} (x : PerOutput α) : OutputId → α
  | .exa => x.exa
  | .exb => x.exb

/-- Replace the item of an output. -/
def PerOutput.set {α : Type} (x : PerOutput α) (o : OutputId) (v : α) : PerOutput α :=
  match o with
  | .exa => { x with exa := v }
  | .exb => { x with exb := v }

/-- The same item for both outputs. -/
def PerOutput.all {α : Type} (v : α) : PerOutput α := ⟨v, v⟩

/-! ## Device reset -/

/-- The analog setup of the default contents (R1). -/
def AnalogSetup.default : AnalogSetup :=
  { positive := .ain 0, negative := .common, reference := .internal, gain := .x1, osr := .r1024, order := .three }

/-- A FREE user profile with the default contents (R1, R7). -/
def Profile.default : Profile :=
  { state := .free, owner := none, share := .all false, setup := .default, method := .none, need := .all false,
    autoRecal := false, record := none, refCount := 0 }

/-- The die-temperature profile with no live request (R5). -/
def Profile.dieTemperature : Profile :=
  { state := .active, owner := some .monitor, share := .all true,
    setup := { positive := .sense, negative := .sense, reference := .internal, gain := .x1, osr := .r1024, order := .three },
    method := .none, need := .all false, autoRecal := false, record := none, refCount := 0 }

/-- What every response holder holds after device reset (R165, R179): the frame 0xFF 0x00 0x00 0x00. -/
def Response.afterReset : Response :=
  { status := .noResponse, code := 0x00#8, payload := [], crc := 0x00#8 }

/-- A port after device reset (R159, R111, R121, R126, R32, R47, R49, R21). -/
def PortState.reset : PortState :=
  { transaction := .closed, holder := .afterReset, ring := [], reservations := 0, nextSeq := 0, highWater := .armed,
    notices := [], lost := false, ringAlert := false, alertLow := false, queue := [], used := 0, reserve := 4,
    ceiling := 16, credit := 2, weight := 2, allowance := 10, owned := 0 }

/-- An output after device reset (R130, R146). -/
def OutputState.reset : OutputState :=
  { state := .off, warmUpTime := 10, lingerTime := 20, warmUpTimer := .stopped, lingerTimer := .stopped,
    holdOffTimer := .stopped, dwellTimer := .stopped, tripCount := 0, combine := .any, designated := .a,
    votes := .all false, requestDemand := false }

/-- The engine after device reset (R67, R90). -/
def Engine.reset : Engine :=
  { state := .down, startTimer := .stopped, loaded := none, progress := 0, inFlight := none, step := none, held := .none,
    marks := [] }

/-- The monitor after device reset (R91, R92, R37). -/
def Monitor.reset : Monitor :=
  { temperature := 0, valid := false, intervalTimer := .stopped, sampleInterval := 10, maxAge := 60, maxDelta := 500,
    queue := [] }

/-- The machine after a device reset that samples the given straps (R23, R47, R66, R90, R109, R128, R146, R148, R177). -/
def State.resetWith (straps : Straps) : State :=
  { ports := .all .reset, profiles := (Vector.replicate 32 Profile.default).set 0 Profile.dieTemperature,
    outputs := .all .reset, engine := .reset, arbiter := { pointer := .a, streak := 0, limit := 4 }, monitor := .reset,
    supervisor := strapSupervisor straps, offer := none, offerTimer := .stopped, targetAddress := strapAddress straps,
    busTimer := .stopped, pending := [] }

/-- The machine right after device reset, with the three straps tied low (log 4). -/
def State.reset : State := State.resetWith { supsel := false, adr1 := false, adr0 := false }

end Sys2Proof.Machine
end

