-- ==== Sys2Proof/WellFormed.lean ====
section
/-! DEFINITION. Which terms of `Instr` the hardware can present. Every byte of a command's payload may hold any pattern
(its meaning judges it, R178), so only three events carry operands that are limited. -/

namespace Sys2Proof

/-- The highest value of a result or of a converter output (R74, R80); the lowest is its negative. -/
def outputLimit : Int := 4194303

/-- A converter output lies in −4,194,303 … +4,194,303 (R74). -/
def outputInRange (raw : Int) : Bool :=
  decide (-outputLimit ≤ raw ∧ raw ≤ outputLimit)

/-- The edge that follows this one on the same line. -/
def ClockEdge.next : ClockEdge → ClockEdge
  | .rising => .falling
  | .falling => .rising

/-- The edges follow one another on a line whose next edge is the given one. -/
def ClockEdge.alternate : ClockEdge → List ClockEdge → Bool
  | _, [] => true
  | first, e :: rest => decide (e = first) && ClockEdge.alternate first.next rest

/-- A read transaction on port C carries no byte from the host (R172). SCL is low when port C acknowledges its address, so
its edges alternate from a rising one. -/
def Opening.wellFormed : Opening → Bool
  | .chipSelectA _ => true
  | .chipSelectB _ => true
  | .start _ read received edges => (!read || received.isEmpty) && ClockEdge.alternate .rising edges

/-- The check a command or event passes when the hardware can present it. A transaction that carries no frame byte
brings only fill bytes on ports A and B and no byte on port C (R163, R168, R171). -/
def Instr.wellFormed : Instr → Bool
  | .outputPeriodEnd raw _ => outputInRange raw
  | .transactionOpen opening => opening.wellFormed
  | .emptyTransaction .c rest => rest.isEmpty
  | .emptyTransaction _ rest => rest.all (· == 0xFF#8)
  | .frameError _ _ | .unknownCommand _ _ => true
  | .nop _ | .status _ | .portReset _ | .alertConfig _ _ | .profileClaim _ _ | .profileWrite _ _ | .profileRead _ _
  | .profileShare _ _ _ | .profileRetire _ _ | .profileRelease _ _ | .submit _ _ | .cancel _ _ | .query _ _ | .fetch _ _
  | .readNotices _ _ | .exciteVote _ _ _ | .engineStart _ | .engineHalt _ | .setQuota _ _ _ _ | .setWeight _ _ _
  | .setAffinity _ _ | .setAllowance _ _ _ | .setCombine _ _ _ _ | .setExciteTiming _ _ _ _ | .clearLockout _ _
  | .setCalPolicy _ _ _ _ | .forceRelease _ _ | .handoverOffer _ _ | .handoverAccept _ => true
  | .busTimeout | .deviceReset _ | .startTimerExpiry | .intervalTimerExpiry | .warmUpExpiry _ | .lingerExpiry _
  | .holdOffExpiry _ | .readyDwellExpiry _ | .overcurrentTrip _ | .offerLapse => true

end Sys2Proof
end

