-- ==== Sys2Proof/Machine/Operands.lean ====
section
/-! DEFINITION. The fields of frames (R178) and the code values (R179, R181): how each value is sent as bytes, and how a
byte of a command is read, `none` where the pattern is out of range. -/

namespace Sys2Proof

/-! ## Ports and outputs -/

/-- The port after this one in round-robin order: A, B, C, then A again. -/
def Port.next : Port → Port
  | .a => .b
  | .b => .c
  | .c => .a

/-- Port codes (R179). -/
def Port.code : Port → Byte
  | .a => 0x00#8
  | .b => 0x01#8
  | .c => 0x02#8

/-- A command field that names a port accepts 0x00 to 0x02 (R179). -/
def Port.ofCode (b : Byte) : Option Port :=
  if b = 0x00#8 then some .a else if b = 0x01#8 then some .b else if b = 0x02#8 then some .c else none

/-- Output codes (R179). -/
def OutputId.code : OutputId → Byte
  | .exa => 0x00#8
  | .exb => 0x01#8

/-- A command field that names an output accepts 0x00 and 0x01 (R179). -/
def OutputId.ofCode (b : Byte) : Option OutputId :=
  if b = 0x00#8 then some .exa else if b = 0x01#8 then some .exb else none

namespace Machine

/-! ## Encodings of numbers (R178) -/

/-- An unsigned field of one byte. -/
def unsigned8 (n : Nat) : Byte := BitVec.ofNat 8 n

/-- A signed field of one byte, two's complement. -/
def signed8 (i : Int) : Byte := BitVec.ofInt 8 i

/-- A 2-byte field, most significant byte first. -/
def bytes16 (v : BitVec 16) : List Byte := [v.extractLsb' 8 8, v.extractLsb' 0 8]

/-- A 3-byte field, most significant byte first. -/
def bytes24 (v : BitVec 24) : List Byte := [v.extractLsb' 16 8, v.extractLsb' 8 8, v.extractLsb' 0 8]

/-- An unsigned field of two bytes. -/
def unsigned16 (n : Nat) : List Byte := bytes16 (BitVec.ofNat 16 n)

/-- A signed field of two bytes. -/
def signed16 (i : Int) : List Byte := bytes16 (BitVec.ofInt 16 i)

/-- A signed field of three bytes. -/
def signed24 (i : Int) : List Byte := bytes24 (BitVec.ofInt 24 i)

/-- yes/no, on/off and set/clear (R179). -/
def boolCode (b : Bool) : Byte := if b then 0x01#8 else 0x00#8

/-- A byte that encodes yes or no is out of range when it is neither 0x00 nor 0x01 (R178). -/
def boolOfCode (b : Byte) : Option Bool :=
  if b = 0x00#8 then some false else if b = 0x01#8 then some true else none

/-- A port set: bit 0 for A, bit 1 for B, bit 2 for C (R178). -/
def portSetCode (set : PerPort Bool) : Byte :=
  (if set.a then 0x01#8 else 0#8) ||| (if set.b then 0x02#8 else 0#8) ||| (if set.c then 0x04#8 else 0#8)

/-- A port set byte with any of bits 3 to 7 set is out of range (R178). -/
def portSetOfCode (b : Byte) : Option (PerPort Bool) :=
  if b.toNat < 8 then some { a := b.getLsbD 0, b := b.getLsbD 1, c := b.getLsbD 2 } else none

/-! ## Codes of profiles (R179) -/

/-- A source or owner as a port code: A, B, C or M. -/
def Source.code : Source → Byte
  | .port p => p.code
  | .monitor => 0x03#8

/-- A port field of a response that may be none. -/
def ownerCode : Option Source → Byte
  | some source => source.code
  | none => 0x04#8

/-- A port field of a response that names a port or none. -/
def optionalPortCode : Option Port → Byte
  | some p => p.code
  | none => 0x04#8

def ProfileState.code : ProfileState → Byte
  | .free => 0x00#8
  | .claimed => 0x01#8
  | .active => 0x02#8
  | .retiring => 0x03#8

def Input.code : Input → Byte
  | .ain n => unsigned8 n
  | .common => 0x0C#8
  | .sense => 0x0D#8

/-- The positive input of a user profile: AIN0 to AIN11 (R1). -/
def positiveOfCode (b : Byte) : Option Input :=
  if h : b.toNat < 12 then some (.ain ⟨b.toNat, h⟩) else none

/-- The negative input of a user profile: AIN0 to AIN11, or COMMON (R1); 0x0D is out of range in a command (R179). -/
def negativeOfCode (b : Byte) : Option Input :=
  if b = 0x0C#8 then some .common else positiveOfCode b

def Reference.code : Reference → Byte
  | .internal => 0x00#8
  | .external => 0x01#8
  | .ratioA => 0x02#8
  | .ratioB => 0x03#8

def referenceOfCode (b : Byte) : Option Reference :=
  if b = 0x00#8 then some .internal else if b = 0x01#8 then some .external
  else if b = 0x02#8 then some .ratioA else if b = 0x03#8 then some .ratioB else none

def Gain.code : Gain → Byte
  | .x1 => 0x00#8
  | .x2 => 0x01#8
  | .x4 => 0x02#8
  | .x8 => 0x03#8
  | .x16 => 0x04#8
  | .x32 => 0x05#8
  | .x64 => 0x06#8
  | .x128 => 0x07#8

def gainOfCode (b : Byte) : Option Gain :=
  match b.toNat with
  | 0 => some .x1
  | 1 => some .x2
  | 2 => some .x4
  | 3 => some .x8
  | 4 => some .x16
  | 5 => some .x32
  | 6 => some .x64
  | 7 => some .x128
  | _ => none

def Osr.code : Osr → Byte
  | .r64 => 0x00#8
  | .r128 => 0x01#8
  | .r256 => 0x02#8
  | .r512 => 0x03#8
  | .r1024 => 0x04#8
  | .r2048 => 0x05#8
  | .r4096 => 0x06#8
  | .r8192 => 0x07#8

def osrOfCode (b : Byte) : Option Osr :=
  match b.toNat with
  | 0 => some .r64
  | 1 => some .r128
  | 2 => some .r256
  | 3 => some .r512
  | 4 => some .r1024
  | 5 => some .r2048
  | 6 => some .r4096
  | 7 => some .r8192
  | _ => none

/-- The oversampling ratio as a number (R1). -/
def Osr.ratio : Osr → Nat
  | .r64 => 64
  | .r128 => 128
  | .r256 => 256
  | .r512 => 512
  | .r1024 => 1024
  | .r2048 => 2048
  | .r4096 => 4096
  | .r8192 => 8192

/-- The output period: the ratio divided by 1,024,000, in seconds (R74), here in nanoseconds. -/
def Osr.periodNanoseconds (osr : Osr) : Nat := osr.ratio * 1000000000 / 1024000

def FilterOrder.code : FilterOrder → Byte
  | .two => 0x02#8
  | .three => 0x03#8
  | .four => 0x04#8

def orderOfCode (b : Byte) : Option FilterOrder :=
  if b = 0x02#8 then some .two else if b = 0x03#8 then some .three else if b = 0x04#8 then some .four else none

/-- The filter order as a number. -/
def FilterOrder.toNat : FilterOrder → Nat
  | .two => 2
  | .three => 3
  | .four => 4

/-- The settle discard count: the filter order minus one (R1, R75). -/
def FilterOrder.discards (order : FilterOrder) : Nat := order.toNat - 1

def Method.code : Method → Byte
  | .none => 0x00#8
  | .stored => 0x01#8
  | .chop => 0x02#8

def methodOfCode (b : Byte) : Option Method :=
  if b = 0x00#8 then some .none else if b = 0x01#8 then some .stored else if b = 0x02#8 then some .chop else none

/-- An excitation need: 0x00 none, 0x01 A, 0x02 B, 0x03 A+B. -/
def needCode (need : PerOutput Bool) : Byte :=
  (if need.exa then 0x01#8 else 0#8) ||| (if need.exb then 0x02#8 else 0#8)

def needOfCode (b : Byte) : Option (PerOutput Bool) :=
  if b.toNat < 4 then some { exa := b.getLsbD 0, exb := b.getLsbD 1 } else none

/-- A profile number 0 to 31. -/
def numberOfCode (b : Byte) : Option (Fin 32) :=
  if h : b.toNat < 32 then some ⟨b.toNat, h⟩ else none

/-- The number of a user profile, 1 to 31: commands that cannot name profile 0 refuse it with BAD_FIELD (R5). -/
def userNumberOfCode (b : Byte) : Option (Fin 32) :=
  if b = 0x00#8 then none else numberOfCode b

/-! ## Codes of requests, engine and outputs (R179) -/

def kindOfCode (b : Byte) : Option Kind :=
  if b = 0x00#8 then some .measure else if b = 0x01#8 then some .zero else none

def runOfCode (b : Byte) : Option Run :=
  if b = 0x00#8 then some .contiguous else if b = 0x01#8 then some .interleaved else none

def RequestState.code : RequestState → Byte
  | .queued => 0x00#8
  | .inFlight => 0x01#8

def WindowSide.code : WindowSide → Byte
  | .unknown => 0x00#8
  | .inside => 0x01#8
  | .below => 0x02#8
  | .above => 0x03#8

/-- The window side of a QUERY response: 0x04 where the request has no window (R182). -/
def sideCode : Option WindowSide → Byte
  | some side => side.code
  | none => 0x04#8

def Reason.code : Reason → Byte
  | .completed => 0x00#8
  | .cancelled => 0x01#8
  | .retired => 0x02#8
  | .revoked => 0x03#8
  | .excitationFault => 0x04#8
  | .portReset => 0x05#8

def EngineState.code : EngineState → Byte
  | .down => 0x00#8
  | .starting => 0x01#8
  | .running => 0x02#8
  | .halting => 0x03#8

def OutputPhase.code : OutputPhase → Byte
  | .off => 0x00#8
  | .warming => 0x01#8
  | .ready => 0x02#8
  | .linger => 0x03#8
  | .tripped => 0x04#8
  | .lockedOut => 0x05#8

def CombineMode.code : CombineMode → Byte
  | .any => 0x00#8
  | .all => 0x01#8
  | .designated => 0x02#8

def combineOfCode (b : Byte) : Option CombineMode :=
  if b = 0x00#8 then some .any else if b = 0x01#8 then some .all else if b = 0x02#8 then some .designated else none

def Criterion.code : Criterion → Byte
  | .age => 0x00#8
  | .temperature => 0x01#8
  | .both => 0x02#8

/-- Status codes (R181). -/
def Status.code : Status → Byte
  | .ok => 0x00#8
  | .frameError => 0x01#8
  | .unknownCommand => 0x02#8
  | .badField => 0x03#8
  | .notSupervisor => 0x04#8
  | .notOwner => 0x05#8
  | .noAccess => 0x06#8
  | .profileState => 0x07#8
  | .profileRetiring => 0x08#8
  | .inUse => 0x09#8
  | .allowance => 0x0A#8
  | .quota => 0x0B#8
  | .duplicateTag => 0x0C#8
  | .unknownTag => 0x0D#8
  | .excitationLocked => 0x0E#8
  | .quotaConflict => 0x0F#8
  | .noOffer => 0x10#8
  | .notApplicable => 0x11#8
  | .engineState => 0x12#8
  | .noResponse => 0xFF#8

/-! ## Whole payloads of commands -/

/-- The profile that PROFILE_CLAIM wants: "lowest free" (0xFF), or a named user profile (R10, R180). -/
inductive Wanted
  | lowestFree
  | named (n : Fin 32)
  deriving DecidableEq, Repr

def wantedOfCode (b : Byte) : Option Wanted :=
  if b = 0xFF#8 then some .lowestFree else (userNumberOfCode b).map .named

/-- The values a PROFILE_WRITE gives a profile. -/
structure Writing where
  setup : AnalogSetup
  method : Method
  need : PerOutput Bool
  autoRecal : Bool
  deriving DecidableEq, Repr

/-- The conditions of R2 between the fields of a profile. -/
def Writing.consistent (w : Writing) : Bool :=
  w.setup.negative ≠ w.setup.positive && (w.setup.reference ≠ .ratioA || w.need.exa)
    && (w.setup.reference ≠ .ratioB || w.need.exb) && (!w.autoRecal || w.method = .stored)

/-- The nine written fields, each within its range (R1, R178), `none` where one is not. -/
def writingOfFields (f : WriteFields) : Option Writing :=
  match positiveOfCode f.positive, negativeOfCode f.negative, referenceOfCode f.reference, gainOfCode f.gain,
      osrOfCode f.osr, orderOfCode f.order with
  | some positive, some negative, some reference, some gain, some osr, some order =>
    match methodOfCode f.method, needOfCode f.need, boolOfCode f.autoRecal with
    | some method, some need, some autoRecal =>
      some { setup := { positive, negative, reference, gain, osr, order }, method, need, autoRecal }
    | _, _, _ => none
  | _, _, _, _, _, _ => none

/-- What a SUBMIT asks for. -/
structure Submission where
  profile : Fin 32
  kind : Kind
  count : Nat
  run : Run
  window : Option Window
  deriving DecidableEq, Repr

/-- The window of a SUBMIT (R26): the limit bytes are not read where byte 5 says there is none (R182). The outer `none`
is a field out of range. -/
def windowOfFields (f : SubmitFields) : Option (Option Window) :=
  match boolOfCode f.window with
  | none => none
  | some false => some none
  | some true =>
    if outputInRange f.low.toInt && outputInRange f.high.toInt && decide (f.low.toInt ≤ f.high.toInt) then
      some (some { low := f.low.toInt, high := f.high.toInt })
    else none

/-- The combinations of R26: a continuous request is an INTERLEAVED MEASURE, and a ZERO is a CONTIGUOUS one with count 1
and no window. -/
def Submission.allowed (w : Submission) : Bool :=
  w.count ≤ 16 && (w.count ≠ 0 || (w.run = .interleaved && w.kind = .measure))
    && (w.kind ≠ .zero || (w.count = 1 && w.run = .contiguous && w.window = none))

/-- The fields of a SUBMIT judged together (R26), `none` where one is out of range or the combination is not allowed. -/
def submissionOfFields (f : SubmitFields) : Option Submission :=
  match numberOfCode f.number, kindOfCode f.kind, runOfCode f.run, windowOfFields f with
  | some profile, some kind, some run, some window =>
    let w : Submission := { profile, kind, count := f.count.toNat, run, window }
    if w.allowed then some w else none
  | _, _, _, _ => none

end Machine

end Sys2Proof
end

