-- ==== Sys2Proof/Machine/Flags.lean ====
section
/-! DEFINITION. The value and the flags of a result (R6, R78 to R81, R83, R113), and the judgement of an offset record
(R100): everything the ET316 computes from a converter output. -/

namespace Sys2Proof.Machine

/-- No flag set (R113). -/
def ResultFlags.clear : ResultFlags :=
  { last := false, overrange := false, offsetStale := false, offsetAbsent := false, windowLow := false,
    windowHigh := false, zero := false }

/-- The flag byte (R183): bit 0 LAST, 1 OVERRANGE, 2 OFFSET_STALE, 3 OFFSET_ABSENT, 4 WINDOW_LOW, 5 WINDOW_HIGH, 6 ZERO. -/
def ResultFlags.code (f : ResultFlags) : Byte :=
  (if f.last then 0x01#8 else 0#8) ||| (if f.overrange then 0x02#8 else 0#8) ||| (if f.offsetStale then 0x04#8 else 0#8)
    ||| (if f.offsetAbsent then 0x08#8 else 0#8) ||| (if f.windowLow then 0x10#8 else 0#8)
    ||| (if f.windowHigh then 0x20#8 else 0#8) ||| (if f.zero then 0x40#8 else 0#8)

/-- The nearer limit of a range for a value outside it. -/
def clampTo (low high v : Int) : Int := if v < low then low else if high < v then high else v

/-- The clamp of every MEASURE result (R80). -/
def clampResult (v : Int) : Int := clampTo (-outputLimit) outputLimit v

/-- The lowest and highest die temperature, in hundredths of a degree (R6). -/
def temperatureLow : Int := -4000
def temperatureHigh : Int := 12500

/-- The clamp of a die temperature (R6). -/
def clampTemperature (v : Int) : Int := clampTo temperatureLow temperatureHigh v

/-- The die temperature of an output formed against profile 0 (R6); the characteristic is a free value (log 5). -/
def dieTemperatureOf (raw : Int) : Int := clampTemperature (Config.dieTemperature raw)

/-- A result value before the request's window and end are judged. -/
structure Formed where
  value : Int
  flags : ResultFlags
  deriving DecidableEq, Repr

/-- A value that is clamped: OVERRANGE when the clamp changed it or a filter span held an overload (R80). -/
def formClamped (clamp : Int → Int) (before : Int) (overload : Bool) (flags : ResultFlags) : Formed :=
  { value := clamp before, flags := { flags with overrange := overload || clamp before ≠ before } }

/-- The value before clamping and the offset flags of an unchopped result of a user profile (R79). -/
def offsetCorrected (profile : Profile) (raw : Int) : Int × ResultFlags :=
  match profile.method, profile.record with
  | .stored, some record => (raw - record.value, { ResultFlags.clear with offsetStale := record.stale })
  | .stored, none => (raw, { ResultFlags.clear with offsetAbsent := true })
  | _, _ => (raw, ResultFlags.clear)

/-- An unchopped result of profile `n` (R79, R80). -/
def formUnchopped (n : Fin 32) (profile : Profile) (raw : Int) (overload : Bool) : Formed :=
  if n = 0 then formClamped clampTemperature (Config.dieTemperature raw) overload .clear
  else formClamped clampResult (offsetCorrected profile raw).1 overload (offsetCorrected profile raw).2

/-- A chopped result: half the difference of the two outputs, rounded toward zero (R78, R80). -/
def formChopped (plus minus : Int) (overload : Bool) : Formed :=
  formClamped clampResult ((plus - minus).tdiv 2) overload .clear

/-- The average of the four outputs of a ZERO, rounded toward zero (R83). -/
def zeroAverage (sum : Int) : Int := sum.tdiv 4

/-- The side of a window on which a value falls (R81). -/
def Window.sideOf (w : Window) (v : Int) : WindowSide :=
  if v < w.low then .below else if w.high < v then .above else .inside

/-- WINDOW_LOW and WINDOW_HIGH (R81). -/
def Formed.judgeWindow (f : Formed) (window : Option Window) : Formed :=
  match window with
  | none => f
  | some w =>
    { f with flags := { f.flags with windowLow := w.sideOf f.value = .below, windowHigh := w.sideOf f.value = .above } }

/-- A change into BELOW or ABOVE posts WINDOW; a change into INSIDE, or none, does not (R81). -/
def windowPosts (old new : WindowSide) : Bool := (new = .below || new = .above) && old ≠ new

/-- The age after an ageing pass: one more, saturating at 255 (R99). -/
def agedBy (age : Nat) : Nat := min 255 (age + 1)

/-- A record's age is above the maximum age (R100). -/
def staleByAge (m : Monitor) (age : Nat) : Bool := decide (m.maxAge < age)

/-- The current temperature differs from the calibration temperature by more than the maximum delta (R100). -/
def staleByTemperature (m : Monitor) (calTemperature : Int) : Bool :=
  decide (m.maxDelta < (m.temperature - calTemperature).natAbs)

/-- The criterion that an OFFSET_STALE notice names (R100). -/
def criterionOf (byAge byTemperature : Bool) : Option Criterion :=
  match byAge, byTemperature with
  | true, true => some .both
  | true, false => some .age
  | false, true => some .temperature
  | false, false => none

/-- A record after ageing and judgement; a mark once set stays set (R99 to R101). -/
def OffsetRecord.aged (r : OffsetRecord) (m : Monitor) : OffsetRecord :=
  { r with age := agedBy r.age,
           stale := r.stale || staleByAge m (agedBy r.age) || staleByTemperature m r.calTemperature }

/-- The criterion of the notice that the judgement posts, when the record was not stale before it (R100). -/
def OffsetRecord.newlyStale (r : OffsetRecord) (m : Monitor) : Option Criterion :=
  if r.stale then none else criterionOf (staleByAge m (agedBy r.age)) (staleByTemperature m r.calTemperature)

end Sys2Proof.Machine
end

