-- ==== Sys2Proof/Machine/Ops.lean ====
section
/-! DEFINITION. The shared operations over the state: access, notices and ALERT lines (R121 to R127), result rings
(R111 to R119), excitation outputs and demand (R132 to R138), live requests and their termination (R28 to R31, R46). -/

namespace Sys2Proof.Machine

/-! ## Access -/

/-- What the ET316 holds for a port. -/
def State.port (s : State) (p : Port) : PortState := s.ports.get p

/-- Change what is held for one port. -/
def State.modPort (s : State) (p : Port) (f : PortState → PortState) : State :=
  { s with ports := s.ports.set p (f (s.ports.get p)) }

/-- Change what is held for every port. -/
def State.mapPorts (s : State) (f : PortState → PortState) : State := { s with ports := s.ports.map f }

/-- A profile record by its number. -/
def State.profile (s : State) (n : Fin 32) : Profile := s.profiles[n.val]

/-- Change one profile record. -/
def State.modProfile (s : State) (n : Fin 32) (f : Profile → Profile) : State :=
  { s with profiles := s.profiles.set n.val (f s.profiles[n.val]) }

/-- Change every profile record, each by its number. -/
def State.mapProfiles (s : State) (f : Fin 32 → Profile → Profile) : State :=
  { s with
    profiles := Vector.mk (((List.finRange 32).map fun n => f n s.profiles[n.val]).toArray) (by simp) }

/-- What is held for an excitation output. -/
def State.output (s : State) (o : OutputId) : OutputState := s.outputs.get o

/-- Change what is held for one output. -/
def State.modOutput (s : State) (o : OutputId) (f : OutputState → OutputState) : State :=
  { s with outputs := s.outputs.set o (f (s.outputs.get o)) }

/-- Change the engine. -/
def State.modEngine (s : State) (f : Engine → Engine) : State := { s with engine := f s.engine }

/-- Change the arbiter. -/
def State.modArbiter (s : State) (f : Arbiter → Arbiter) : State := { s with arbiter := f s.arbiter }

/-- Change the monitor. -/
def State.modMonitor (s : State) (f : Monitor → Monitor) : State := { s with monitor := f s.monitor }

/-- The three ports in order. -/
def allPorts : List Port := [.a, .b, .c]

/-- The 32 profile numbers, ascending. -/
def profileNumbers : List (Fin 32) := List.finRange 32

/-! ## Notices and ALERT lines -/

/-- The capacity of a notice queue (R121). -/
def noticeCapacity : Nat := 8

/-- What a port's ALERT line is driven low by (R127). -/
def PortState.alertDue (ps : PortState) : Bool := !ps.notices.isEmpty || (ps.ringAlert && !ps.ring.isEmpty)

/-- The ALERT line judged again (R127). -/
def PortState.judgeAlert (ps : PortState) : PortState := { ps with alertLow := ps.alertDue }

/-- A notice joins the queue, or is discarded with the lost flag set when the queue is full (R123). -/
def PortState.post (ps : PortState) (n : Notice) : PortState :=
  if ps.notices.length < noticeCapacity then { ps with notices := ps.notices ++ [n] }.judgeAlert
  else { ps with lost := true }

/-- A notice posted to one port (R123). -/
def State.post (s : State) (p : Port) (n : Notice) : State := s.modPort p (·.post n)

/-- A notice posted to all ports, each copy judged against its own queue (R121). -/
def State.postAll (s : State) (n : Notice) : State := s.mapPorts (·.post n)

/-- A notice posted to an owner that is a port (R100, R105). -/
def State.postOwner (s : State) (owner : Option Source) (n : Notice) : State :=
  match owner with
  | some (.port p) => s.post p n
  | _ => s

/-! ## Result rings -/

/-- The capacity of a result ring (R111). -/
def ringCapacity : Nat := 16

/-- The entry count that posts RING_HIGH, and the one below which a FETCH re-arms (R119). -/
def highWaterMark : Nat := 12
def rearmMark : Nat := 8

/-- The free unreserved places of a ring (R111). -/
def PortState.freePlaces (ps : PortState) : Nat := ringCapacity - ps.ring.length - ps.reservations

/-- The high-water state after a result write: RING_HIGH is posted once, on reaching 12 entries (R119). -/
def PortState.judgeHighWater (ps : PortState) : PortState :=
  if ps.highWater = .armed ∧ ps.ring.length = highWaterMark then
    { ps with highWater := .fired }.post (.ringHigh highWaterMark)
  else ps

/-- A result written into a reserved place or a free one, with the ring's next sequence number (R114). -/
def PortState.writeResult (ps : PortState) (reserved : Bool) (r : ResultRecord) : PortState :=
  { ps with
    reservations := if reserved then ps.reservations - 1 else ps.reservations
    nextSeq := ps.nextSeq + 1
    ring := ps.ring ++ [{ r with sequence := ps.nextSeq }] }.judgeHighWater.judgeAlert

/-- The state after a FETCH left the ring as it is (R119). -/
def PortState.rearm (ps : PortState) : PortState :=
  if ps.highWater = .fired ∧ ps.ring.length < rearmMark then { ps with highWater := .armed } else ps

/-- The ring and its items as a reset leaves them (R111, R129). -/
def PortState.emptyRing (ps : PortState) : PortState :=
  { ps with ring := [], reservations := 0, nextSeq := 0, highWater := .armed }

/-- The notice queue as a reset leaves it (R121, R129). -/
def PortState.emptyNotices (ps : PortState) : PortState := { ps with notices := [], lost := false }

/-! ## Excitation outputs -/

/-- The fixed hold-off and READY-dwell times in milliseconds (R139). -/
def holdOffTime : Nat := 100
def dwellTime : Nat := 1000

/-- The output is switched on (R131). -/
def OutputState.switchedOn (o : OutputState) : Bool := o.state = .warming || o.state = .ready || o.state = .linger

/-- The combined vote (R133). -/
def OutputState.combinedVote (o : OutputState) : Bool :=
  match o.combine with
  | .any => o.votes.a || o.votes.b || o.votes.c
  | .all => o.votes.a && o.votes.b && o.votes.c
  | .designated => o.votes.get o.designated

/-- The demand for the output (R132). -/
def OutputState.demand (o : OutputState) : Bool := o.requestDemand || o.combinedVote

/-- Entry to WARMING (R136). -/
def OutputState.warm (o : OutputState) : OutputState :=
  { o with state := .warming, warmUpTimer := .running o.warmUpTime }

/-- Entry to READY (R136, R137). -/
def OutputState.becomeReady (o : OutputState) : OutputState :=
  { o with state := .ready, warmUpTimer := .stopped, lingerTimer := .stopped, dwellTimer := .running dwellTime }

/-- The output switched off with no trip: its warm-up, linger and READY-dwell timers stop (R136 to R138). -/
def OutputState.switchOff (o : OutputState) : OutputState :=
  { o with state := .off, warmUpTimer := .stopped, lingerTimer := .stopped, dwellTimer := .stopped }

/-- An OFF output warms up when its demand is present and the engine is not DOWN (R136). -/
def OutputState.warmIfDemanded (o : OutputState) (down : Bool) : OutputState :=
  if o.state = .off ∧ o.demand ∧ !down then o.warm else o

/-- READY loses its demand: LINGER, or OFF when the linger time is 0 (R137). -/
def OutputState.leaveReady (o : OutputState) : OutputState :=
  if 0 < o.lingerTime then
    { o with state := .linger, lingerTimer := .running o.lingerTime, dwellTimer := .stopped }
  else o.switchOff

/-- What a change of demand does to the output (R136, R137). -/
def OutputState.move (o : OutputState) (down : Bool) : OutputState :=
  match o.state, o.demand with
  | .off, true => o.warmIfDemanded down
  | .warming, false => o.switchOff
  | .ready, false => o.leaveReady
  | .linger, true => o.becomeReady
  | _, _ => o

/-- An output whose sources of demand changed from `old` to `new`: it moves when the judgement changes the demand, and is
left as it stands otherwise (R132). -/
def OutputState.judgedFrom (new old : OutputState) (down : Bool) : OutputState :=
  if new.demand = old.demand then new else new.move down

/-- The engine is DOWN. -/
def State.isDown (s : State) : Bool := s.engine.state = .down

/-- Change an output's votes or combine rule and judge its demand (R134, R135). -/
def State.rejudgeOutput (s : State) (o : OutputId) (f : OutputState → OutputState) : State :=
  s.modOutput o fun old => (f old).judgedFrom old s.isDown

/-- The trip of a switched-on output: switched off, count raised, TRIPPED with its hold-off or LOCKED_OUT at 3
(R140 steps 1 to 3). -/
def OutputState.trip (o : OutputState) : OutputState :=
  let off := { o.switchOff with tripCount := o.tripCount + 1 }
  if off.tripCount < 3 then { off with state := .tripped, holdOffTimer := .running holdOffTime }
  else { off with state := .lockedOut }

/-- Entry to DOWN: WARMING, READY and LINGER become OFF (R138). -/
def OutputState.forceOff (o : OutputState) : OutputState := if o.switchedOn then o.switchOff else o

/-! ## Live requests -/

/-- Every live request: the port queues, then the monitor queue (R8). -/
def State.live (s : State) : List Request :=
  s.ports.a.queue ++ s.ports.b.queue ++ s.ports.c.queue ++ s.monitor.queue

/-- The demand from requests for an output (R46). -/
def State.requestsNeed (s : State) (o : OutputId) : Bool := s.live.any fun r => (s.profile r.profile).need.get o

/-- The demand from requests handed over to both outputs, after their other sources changed by `f`, and each demand
judged once (R46, R132, R146). -/
def State.handOverDemand (s : State) (f : OutputState → OutputState) : State :=
  { s with
    outputs :=
      { exa := ({ f s.outputs.exa with requestDemand := s.requestsNeed .exa }).judgedFrom s.outputs.exa s.isDown
        exb := ({ f s.outputs.exb with requestDemand := s.requestsNeed .exb }).judgedFrom s.outputs.exb s.isDown } }

/-- The demand from requests handed over and judged (R46). -/
def State.refreshDemand (s : State) : State := s.handOverDemand id

/-- The in-flight request, when there is one (R67). -/
def State.flight (s : State) : Option Request :=
  match s.engine.inFlight with
  | none => none
  | some (.port p) => (s.port p).queue.head?
  | some (.monitor n) => s.monitor.queue.find? (·.profile = n)

/-- Change the first request of a queue. -/
def modHead (f : Request → Request) : List Request → List Request
  | [] => []
  | r :: rest => f r :: rest

/-- Change the record of the in-flight request. -/
def State.modFlight (s : State) (f : Request → Request) : State :=
  match s.engine.inFlight with
  | none => s
  | some (.port p) => s.modPort p fun ps => { ps with queue := modHead f ps.queue }
  | some (.monitor n) =>
    s.modMonitor fun m => { m with queue := m.queue.map fun r => if r.profile = n then f r else r }

/-- The results that a request still owes: count minus delivered (R63). -/
def Request.owed (r : Request) : Nat := r.count - r.delivered

/-- Continuous: count 0 (R25). -/
def Request.continuous (r : Request) : Bool := r.count = 0

/-- The request is IN_FLIGHT. -/
def Request.isInFlight (r : Request) : Bool := r.state = .inFlight

/-- The ring places that a granted request reserves: what a CONTIGUOUS port request owes (R63, R64). -/
def Request.reserves (r : Request) : Nat :=
  match r.run with
  | .contiguous => r.owed
  | .interleaved => 0

/-- Change the source port of a request; a monitor entry has none. -/
def State.modSource (s : State) (r : Request) (f : PortState → PortState) : State :=
  match r.source with
  | .port p => s.modPort p f
  | .monitor => s

/-- The reservation that an ending or returning request holds is released (R63, R115). -/
def State.releaseReservation (s : State) (r : Request) : State :=
  s.modSource r fun ps => { ps with reservations := ps.reservations - r.reserves }

/-! ## The slot pool (R31) -/

/-- The number of slots (R31). -/
def slotCount : Nat := 24

/-- The larger of slots in use and reserve. -/
def PortState.claim (ps : PortState) : Nat := max ps.used ps.reserve

/-- The admission sum over the three ports (R31). -/
def State.admissionSum (s : State) : Nat := s.ports.a.claim + s.ports.b.claim + s.ports.c.claim

/-- The free pool (R31). -/
def State.freePool (s : State) : Nat := slotCount - s.admissionSum

/-- The quota check of a SUBMIT (R31). -/
def State.quotaPasses (s : State) (p : Port) : Bool :=
  decide ((s.port p).used < (s.port p).ceiling)
    && (decide ((s.port p).used < (s.port p).reserve) || decide (s.admissionSum < slotCount))

/-! ## Termination (R28 to R30, R87) -/

/-- The reasons that post REQUEST_ENDED (R29). -/
def Reason.posts : Reason → Bool
  | .retired | .revoked | .excitationFault => true
  | .completed | .cancelled | .portReset => false

/-- Requests leave a port's queue and free their slots (R28 steps 1 and 2). -/
def PortState.drop (ps : PortState) (ends : Request → Bool) : PortState :=
  { ps with queue := ps.queue.filter (!ends ·), used := ps.used - ps.queue.countP ends }

/-- Requests leave every queue, free their slots and lower their profiles' reference counts (R28 steps 1 to 3). -/
def State.drop (s : State) (ends : Request → Bool) : State :=
  ((s.mapPorts (·.drop ends)).modMonitor fun m => { m with queue := m.queue.filter (!ends ·) }).mapProfiles
    fun n profile => { profile with refCount := profile.refCount - (s.live.filter ends).countP (·.profile = n) }

/-- REQUEST_ENDED to the source port of a request that a host named (R29). -/
def State.postEnded (s : State) (reason : Reason) (r : Request) : State :=
  match r.source, r.tag with
  | .port p, some tag => s.post p (.requestEnded tag reason)
  | _, _ => s

/-- A RETIRING profile with reference count 0 becomes CLAIMED, with PROFILE_RETIRED to its owner (R9). -/
def State.completeRetire (s : State) (n : Fin 32) : State :=
  if (s.profile n).state = .retiring ∧ (s.profile n).refCount = 0 then
    (s.modProfile n fun profile => { profile with state := .claimed }).postOwner (s.profile n).owner (.profileRetired n)
  else s

/-- The retires that the end of these requests completes, in ascending profile number (R9, R141; log 10). -/
def State.completeRetires (s : State) (ended : List Request) : State :=
  profileNumbers.foldl (fun s n => if ended.any (·.profile = n) then s.completeRetire n else s) s

/-- A settle break: the settle progress becomes 0 and the overload marks are cleared (R76). -/
def Engine.settleBreak (e : Engine) : Engine := { e with progress := 0, marks := [] }

/-- The converter is left with no request in flight and nothing held. -/
def Engine.noFlight (e : Engine) : Engine := { e with inFlight := none, step := none, held := .none }

/-- Abandonment of the in-flight request: the period and the held partial are gone, a settle break is made, the loaded
setup stays named, and the reservation is released (R87 steps 1 to 4). -/
def State.abandon (s : State) (r : Request) : State :=
  (s.releaseReservation r).modEngine fun e => e.noFlight.settleBreak

/-- The in-flight request is among those that end. -/
def State.flightEnds (s : State) (ends : Request → Bool) : Bool := s.flight.any ends

/-- Termination of every request that `ends` selects: the in-flight one is abandoned; then queues, slots and reference
counts; then REQUEST_ENDED where the reason posts it, each port's in its queue's order; then the retires completed
(R28 to R30). Demand and the freed converter are the caller's, once for the event. -/
def State.terminate (s : State) (reason : Reason) (ends : Request → Bool) : State :=
  let ended := s.live.filter ends
  let abandoned :=
    match s.flight with
    | some r => if ends r then s.abandon r else s
    | none => s
  let dropped := abandoned.drop ends
  let posted := if reason.posts then ended.foldl (·.postEnded reason ·) dropped else dropped
  posted.completeRetires ended

/-- The end of the in-flight request by completion: no notice and no settle break (R28, R29). -/
def State.finish (s : State) : State :=
  let ended := s.live.filter (·.isInFlight)
  (((s.modEngine (·.noFlight)).drop (·.isInFlight)).completeRetires ended).refreshDemand

end Sys2Proof.Machine
end

