-- ==== Sys2Proof/Machine/Engine.lean ====
section
/-! DEFINITION. The Conversion Engine's own operations: beginning an operation (R77), giving the in-flight request back and
entering DOWN (R72). The output periods are in Machine/Conversion.lean. -/

namespace Sys2Proof.Machine

/-- The start timer's fixed time in milliseconds (R67). -/
def startTime : Nat := 20

/-! ## Beginning an operation (R77) -/

/-- The setup that a request's first step needs (R77). -/
def firstSetup (kind : Kind) (profile : Profile) : LoadedSetup :=
  match kind with
  | .zero => { setup := profile.setup, shorted := true, phase := .none }
  | .measure =>
    { setup := profile.setup, shorted := false, phase := if profile.method = .chop then .plus else .none }

/-- The settling step with which a request begins (R77). -/
def firstStep (kind : Kind) (method : Method) : OpStep :=
  match kind, method with
  | .zero, _ => .zeroSettling
  | .measure, .chop => .chopPlusSettling
  | .measure, .none => .settling
  | .measure, .stored => .settling

/-- The output or averaging step that follows a settling step (R77, R78, R83). -/
def OpStep.settled : OpStep → OpStep
  | .settling => .output
  | .chopPlusSettling => .chopPlusOutput
  | .chopMinusSettling => .chopMinusOutput
  | .zeroSettling => .zeroAveraging
  | .output => .output
  | .chopPlusOutput => .chopPlusOutput
  | .chopMinusOutput => .chopMinusOutput
  | .zeroAveraging => .zeroAveraging

/-- The filter order minus one of a loaded setup, at which the settle progress is full (R75). -/
def LoadedSetup.fullProgress (l : LoadedSetup) : Nat := l.setup.order.discards

/-- Loading a setup: a settle break where it differs from the loaded one in any item (R76, R77). -/
def Engine.load (e : Engine) (l : LoadedSetup) : Engine :=
  if e.loaded = some l then e else { e with loaded := some l }.settleBreak

/-- The step advances from settling when the settle progress is full (R77). -/
def Engine.advance (e : Engine) (l : LoadedSetup) (step : OpStep) : Engine :=
  { e with step := some (if l.fullProgress ≤ e.progress then step.settled else step) }

/-- The engine begins the operation of a request against a profile (R77). -/
def Engine.begin (e : Engine) (kind : Kind) (profile : Profile) : Engine :=
  { e.load (firstSetup kind profile) with held := .none }.advance (firstSetup kind profile)
    (firstStep kind profile.method)

/-- The engine begins the operation of the request it has in flight (R77). -/
def State.beginOperation (s : State) (r : Request) : State :=
  s.modEngine (·.begin r.kind (s.profile r.profile))

/-! ## Entry to DOWN (R72) -/

/-- The in-flight request is given back (R72 step 2): a port request to QUEUED at the head where it stands, its
reservation released; a monitor entry to QUEUED in its place; a final-marked continuous request ends RETIRED (R16). -/
def State.giveBack (s : State) : State :=
  match s.flight with
  | none => s
  | some r =>
    if r.finalMark then (s.terminate .retired (·.isInFlight)).refreshDemand
    else (s.releaseReservation r).modFlight fun r => { r with state := .queued }

/-- The engine as DOWN leaves it (R72 steps 1 and 3). -/
def Engine.downed (e : Engine) : Engine :=
  { e with state := .down, startTimer := .stopped, loaded := none }.noFlight.settleBreak

/-- Entry to DOWN, from any state, in one event (R72): the request in flight given back, the engine cleared, ENGINE (DOWN)
to all ports, the outputs forced off (R138) and the interval timer stopped (R95). -/
def State.enterDown (s : State) : State :=
  let down := (s.giveBack.modEngine (·.downed)).postAll (.engine .down)
  { down with
    outputs := { exa := down.outputs.exa.forceOff, exb := down.outputs.exb.forceOff }
    monitor := { down.monitor with intervalTimer := .stopped } }

end Sys2Proof.Machine
end

