-- ==== Sys2Proof/Machine/Arbitration.lean ====
section
/-! DEFINITION. The Converter Arbiter: candidates and eligibility (R50, R51), the choice at a grant point (R55 to R59), the
grant (R60), and what becomes of a converter that is free (R52 to R54, R87). -/

namespace Sys2Proof.Machine

/-! ## Eligibility (R50, R51) -/

/-- The engine is RUNNING. -/
def State.isRunning (s : State) : Bool := s.engine.state = .running

/-- Every output in a profile's excitation need is READY (R51). -/
def State.needReady (s : State) (n : Fin 32) : Bool :=
  (!(s.profile n).need.exa || s.outputs.exa.state = .ready) && (!(s.profile n).need.exb || s.outputs.exb.state = .ready)

/-- The free unreserved ring places that a port request needs to be granted (R51). -/
def Request.places (r : Request) : Nat :=
  match r.run with
  | .interleaved => 1
  | .contiguous => r.owed

/-- The conditions of R51 for the request at the head of a port's queue. -/
def State.eligible (s : State) (ps : PortState) (r : Request) : Bool :=
  s.isRunning && s.needReady r.profile && decide (r.places ≤ ps.freePlaces) && (r.kind = .measure || s.monitor.valid)

/-- A port has a candidate, the QUEUED head of its queue, and it is eligible (R50, R51). -/
def State.headEligible (s : State) (p : Port) : Bool :=
  (s.port p).queue.head?.any fun r => r.state = .queued && s.eligible (s.port p) r

/-- Monitor order: the temperature sample first, then the ZERO entries, oldest first (R37, R50). -/
def Monitor.inOrder (m : Monitor) : List Request :=
  m.queue.filter (·.kind = .measure) ++ m.queue.filter (·.kind = .zero)

/-- A monitor entry is QUEUED and eligible (R51). -/
def State.monitorEligible (s : State) (r : Request) : Bool :=
  r.state = .queued && s.isRunning && s.needReady r.profile && (r.kind = .measure || s.monitor.valid)

/-- The monitor candidate (R50). -/
def State.monitorCandidate (s : State) : Option Request := s.monitor.inOrder.find? s.monitorEligible

/-- Some candidate is eligible. -/
def State.anyEligible (s : State) : Bool := s.monitorCandidate.isSome || allPorts.any s.headEligible

/-! ## Credits (R56) -/

/-- The smallest number of refills, 1 or more, that lifts a port's credit above 0 (R56). -/
def PortState.refillsNeeded (ps : PortState) : Nat := (-ps.credit).toNat / ps.weight + 1

/-- A credit raised by `k` refills, capped at the weight (R56). -/
def PortState.refill (ps : PortState) (k : Nat) : PortState :=
  { ps with credit := min (ps.weight : Int) (ps.credit + k * ps.weight) }

/-- The ports with an eligible head. -/
def State.eligiblePorts (s : State) : List Port := allPorts.filter s.headEligible

/-- The refill's k: the smallest that lifts at least one eligible port above 0 (R56). -/
def State.refillCount (s : State) : Nat :=
  match s.eligiblePorts.map fun p => (s.port p).refillsNeeded with
  | [] => 0
  | k :: rest => rest.foldl min k

/-- A port has an eligible head and a credit above 0. -/
def State.canGrant (s : State) (p : Port) : Bool := s.headEligible p && decide (0 < (s.port p).credit)

/-- The refill of a grant point: when every port with an eligible head has a credit of 0 or less (R56). -/
def State.refill (s : State) : State :=
  if allPorts.any s.canGrant then s else s.mapPorts (·.refill s.refillCount)

/-! ## Affinity and turn (R57 to R59) -/

/-- Round-robin order counted from a port. -/
def roundFrom (p : Port) : List Port := [p, p.next, p.next.next]

/-- A port's head matches the loaded setup (R57). -/
def State.headMatches (s : State) (p : Port) : Bool :=
  match (s.port p).queue.head?, s.engine.loaded with
  | some r, some l =>
    r.kind = .measure && (s.profile r.profile).method ≠ .chop && !l.shorted && l.phase = .none
      && (s.profile r.profile).setup = l.setup
  | _, _ => false

/-- The port that affinity grants at a result boundary, if any (R58). -/
def State.affinityChoice (s : State) (boundary : Bool) : Option Port :=
  if boundary && decide (0 < s.arbiter.limit) && decide (s.arbiter.streak < s.arbiter.limit) then
    (roundFrom s.arbiter.pointer).find? fun p => s.canGrant p && s.headMatches p
  else none

/-- The port whose turn it is (R59). -/
def State.turnChoice (s : State) : Option Port := (roundFrom s.arbiter.pointer).find? s.canGrant

/-! ## The grant (R60) -/

/-- The request of `f` becomes IN_FLIGHT, its ring places are reserved, and the engine begins it (R60, R63). -/
def State.grant (s : State) (f : Flight) : State :=
  let held := s.modEngine fun e => { e with inFlight := some f }
  match held.flight with
  | none => s
  | some r =>
    ((held.modFlight fun r => { r with state := .inFlight }).modSource r fun ps =>
      { ps with reservations := ps.reservations + r.reserves }).beginOperation r

/-- A grant by affinity: the streak rises, the pointer stays (R58). -/
def State.grantByAffinity (s : State) (p : Port) : State :=
  (s.modArbiter fun a => { a with streak := a.streak + 1 }).grant (.port p)

/-- A grant by turn: the streak returns to 0, the pointer moves past the granted port (R59). -/
def State.grantByTurn (s : State) (p : Port) : State :=
  (s.modArbiter fun a => { a with streak := 0, pointer := p.next }).grant (.port p)

/-- The converter goes idle, a settle break (R54). -/
def State.goIdle (s : State) : State := s.modEngine (·.settleBreak)

/-- The choice among the ports, after any refill (R56, R58, R59). -/
def State.choosePort (s : State) (boundary : Bool) : State :=
  match s.affinityChoice boundary with
  | some p => s.grantByAffinity p
  | none =>
    match s.turnChoice with
    | some p => s.grantByTurn p
    | none => s.goIdle

/-- A grant point (R52): the monitor first (R55), then the ports, or the converter goes idle (R54). -/
def State.grantPoint (s : State) (boundary : Bool) : State :=
  match s.monitorCandidate with
  | some r => s.grant (.monitor r.profile)
  | none => if allPorts.any s.headEligible then s.refill.choosePort boundary else s.goIdle

/-- The converter is idle while the engine is RUNNING. -/
def State.isIdle (s : State) : Bool := s.isRunning && s.engine.inFlight.isNone

/-- A kind-1 grant point at an event of R53: the converter is idle and a candidate is eligible (R52, R53). -/
def State.kick (s : State) : State := if s.isIdle && s.anyEligible then s.grantPoint false else s

/-- The converter is left with no request in flight: a grant point of kind 2 or 3 while RUNNING, the end of the halt while
HALTING (R52, R71, R87). -/
def State.freed (s : State) (boundary : Bool) : State :=
  match s.engine.state with
  | .running => s.grantPoint boundary
  | .halting => s.enterDown
  | .down => s
  | .starting => s

/-- After an event's terminations: an abandoned request has freed the converter, which is no result boundary (R52, R87);
otherwise a new head may end an idle period (R53). -/
def State.afterTerminations (s : State) (abandoned : Bool) : State := if abandoned then s.freed false else s.kick

end Sys2Proof.Machine
end

