-- ==== Sys2Proof/Machine/Calibration.lean ====
section
/-! DEFINITION. The Calibration Monitor: its timer and placements (R38, R95, R102), the ageing pass (R98 to R102), the
temperature sample (R93), the offset record (R105), and SET_CAL_POLICY (R108). -/

namespace Sys2Proof.Machine

/-- The interval timer's time for the policy as it stands, in milliseconds (R92). -/
def Monitor.intervalTime (m : Monitor) : Nat := m.sampleInterval * 1000

/-- The interval timer restarts with the full sample interval (R95). -/
def State.restartInterval (s : State) : State :=
  s.modMonitor fun m => { m with intervalTimer := .running m.intervalTime }

/-- A monitor entry: QUEUED, CONTIGUOUS, count 1, no window (R25). -/
def monitorEntry (n : Fin 32) (kind : Kind) : Request :=
  { source := .monitor, tag := none, profile := n, kind, count := 1, run := .contiguous, window := none, state := .queued,
    delivered := 0, side := none, finalMark := false }

/-- An accepted placement joins the queue and raises its profile's reference count (R8, R38). -/
def State.place (s : State) (n : Fin 32) (kind : Kind) : State :=
  (s.modMonitor fun m => { m with queue := m.queue ++ [monitorEntry n kind] }).modProfile n
    fun profile => { profile with refCount := profile.refCount + 1 }

/-- A temperature sample is placed unless one is in the queue, in flight or not (R38). -/
def State.placeSample (s : State) : State :=
  if s.monitor.queue.any (·.kind = .measure) then s else (s.place 0 .measure).refreshDemand

/-- An output in a profile's excitation need is LOCKED_OUT (R38, R39). -/
def State.needLocked (s : State) (n : Fin 32) : Bool :=
  ((s.profile n).need.exa && s.outputs.exa.state = .lockedOut) || ((s.profile n).need.exb && s.outputs.exb.state = .lockedOut)

/-- The pool accepts a monitor ZERO for a profile (R38). -/
def State.acceptsZero (s : State) (n : Fin 32) : Bool :=
  decide (s.monitor.queue.countP (·.kind = .zero) < 2)
    && !(s.monitor.queue.any fun r => r.kind = .zero && r.profile = n) && !s.needLocked n

/-- The automatic ZERO of an ageing pass, offered to the pool (R102); the demand is handed over at the end of the pass. -/
def State.offerZero (s : State) (n : Fin 32) : State :=
  if (s.profile n).state = .active ∧ (s.profile n).autoRecal ∧ s.acceptsZero n then s.place n .zero else s

/-- The ageing pass at one profile: aged, judged, OFFSET_STALE at the onset, and an automatic ZERO while stale
(R99 to R102). -/
def State.ageProfile (s : State) (n : Fin 32) : State :=
  match (s.profile n).record with
  | none => s
  | some r =>
    let aged := s.modProfile n fun profile => { profile with record := some (r.aged s.monitor) }
    let judged :=
      match r.newlyStale s.monitor with
      | some criterion => aged.postOwner (s.profile n).owner (.offsetStale n criterion)
      | none => aged
    if (r.aged s.monitor).stale then judged.offerZero n else judged

/-- The ageing pass over the profile table, in ascending number (R98). -/
def State.ageingPass (s : State) : State := profileNumbers.foldl (·.ageProfile ·) s

/-- A temperature sample completes: the current temperature, the ageing pass, then the end of the sample (R84, R93). -/
def State.completeSample (s : State) (value : Int) : State :=
  (s.modMonitor fun m => { m with temperature := value, valid := true }).ageingPass.finish

/-- The offset record that a completed ZERO writes (R105). -/
def Monitor.freshRecord (m : Monitor) (value : Int) : OffsetRecord :=
  { value, calTemperature := m.temperature, age := 0, stale := false }

/-- The record rewritten and OFFSET_UPDATED posted to the owner, naming the source of the ZERO (R105). -/
def State.writeRecord (s : State) (r : Request) (value : Int) : State :=
  (s.modProfile r.profile fun profile => { profile with record := some (s.monitor.freshRecord value) }).postOwner
    (s.profile r.profile).owner (.offsetUpdated r.profile r.source)

end Sys2Proof.Machine
end

