-- ==== Sys2Proof/Machine/Conversion.lean ====
section
/-! DEFINITION. Output periods (R74, R75), the forming and delivery of results (R78 to R82), the ZERO operation (R83), and
the event OUTPUT_PERIOD_END. -/

namespace Sys2Proof.Machine

/-! ## Delivery (R82) -/

/-- The highest delivered count of a continuous request (R25). -/
def deliveredLimit : Nat := 65535

/-- The delivered count after one more result (R82 step 1). -/
def Request.nextDelivered (r : Request) : Nat :=
  if r.continuous then min (r.delivered + 1) deliveredLimit else r.delivered + 1

/-- The request ends at the result that brings its delivered count here (R82 step 5, R16). -/
def Request.endsAt (r : Request) (delivered : Nat) : Bool := r.finalMark || (!r.continuous && delivered = r.count)

/-- A result costs its port one credit (R61). -/
def PortState.charge (ps : PortState) : PortState := { ps with credit := ps.credit - 1 }

/-- The result record of a request; the ring adds the sequence number (R112). -/
def Request.resultRecord (r : Request) (index : Nat) (flags : ResultFlags) (value : Int) : ResultRecord :=
  { tag := r.tag.getD 0, profile := r.profile, sequence := 0, index := unsigned8 index, flags, value }

/-- A result written to the source port's ring and charged (R61, R114). -/
def State.writeToRing (s : State) (r : Request) (record : ResultRecord) : State :=
  s.modSource r fun ps => (ps.writeResult (r.run = .contiguous) record).charge

/-- The window side of a request after a result (R81). -/
def Request.sideAfter (r : Request) (value : Int) : Option WindowSide := r.window.map (·.sideOf value)

/-- The WINDOW notice of a result, when the side changes into BELOW or ABOVE (R81). -/
def State.postWindow (s : State) (r : Request) (value : Int) : State :=
  match r.source, r.tag, r.side, r.sideAfter value with
  | .port p, some tag, some old, some new => if windowPosts old new then s.post p (.window tag new) else s
  | _, _, _, _ => s

/-- An INTERLEAVED request with results left moves from head to tail and becomes QUEUED (R35). -/
def rotate (f : Request → Request) : List Request → List Request
  | [] => []
  | r :: rest => rest ++ [f r]

/-- The rotation of the in-flight request; the converter is left free (R35). -/
def State.rotateFlight (s : State) (r : Request) (f : Request → Request) : State :=
  (s.modSource r fun ps => { ps with queue := rotate f ps.queue }).modEngine (·.noFlight)

/-- The in-flight request with its delivered count and window side after a result. -/
def Request.after (r : Request) (value : Int) : Request :=
  { r with delivered := r.nextDelivered, side := r.sideAfter value }

/-- The turn of a request that has delivered a result (R82 step 5): it ends, rotates, or begins its next result. -/
def State.endTurn (s : State) (r : Request) (value : Int) : State :=
  if r.endsAt r.nextDelivered then s.finish
  else
    match r.run with
    | .interleaved => s.rotateFlight r fun q => { q.after value with state := .queued }
    | .contiguous => (s.modFlight (·.after value)).beginOperation r

/-- A formed MEASURE result of a port request delivered in one event (R82). -/
def State.deliver (s : State) (r : Request) (formed : Formed) : State :=
  let judged := formed.judgeWindow r.window
  let flags := { judged.flags with last := r.endsAt r.nextDelivered }
  let written := s.writeToRing r (r.resultRecord r.nextDelivered flags judged.value)
  (written.postWindow r judged.value).endTurn r judged.value

/-- What becomes of a formed value: a monitor sample updates the temperature (R84), a port result is delivered (R82). -/
def State.useResult (s : State) (r : Request) (formed : Formed) : State :=
  match r.source with
  | .monitor => s.completeSample formed.value
  | .port _ => s.deliver r formed

/-- The fourth averaged output completes the ZERO (R83, R105): for a port ZERO the ring write and charge come first, then
the record and OFFSET_UPDATED, then the end of the request. -/
def State.completeZero (s : State) (r : Request) (value : Int) (overload : Bool) : State :=
  let flags := { ResultFlags.clear with last := true, overrange := overload, zero := true }
  ((s.writeToRing r (r.resultRecord 1 flags value)).writeRecord r value).finish

/-! ## Output periods -/

/-- The overload marks kept (R67, R75). -/
def markCount : Nat := 4

/-- The end of a period on the loaded setup: its mark enters and it counts into the settle progress (R74, R75). -/
def Engine.countPeriod (e : Engine) (l : LoadedSetup) (overload : Bool) : Engine :=
  { e with marks := (overload :: e.marks).take markCount, progress := min (e.progress + 1) l.fullProgress }

/-- An overload in the filter span of the output that has just been produced: its own period and the (filter order − 1)
before it (R80). -/
def Engine.spanOverload (e : Engine) (l : LoadedSetup) : Bool := (e.marks.take l.setup.order.toNat).any id

/-- The phase + output is held and the loaded setup takes phase −, a settle break (R78 steps 2 to 4). -/
def Engine.swapPhase (e : Engine) (l : LoadedSetup) (raw : Int) (overload : Bool) : Engine :=
  { e with held := .plus raw overload, loaded := some { l with phase := .minus },
           step := some .chopMinusSettling }.settleBreak

/-- The held sum, number and overload of a ZERO so far (R83). -/
def Held.averaged : Held → Int × Nat × Bool
  | .average sum number overload => (sum, number, overload)
  | _ => (0, 0, false)

/-- One averaged output of a ZERO: added to the sum, or the fourth, which completes it (R83). -/
def State.averageOutput (s : State) (r : Request) (raw : Int) (overload : Bool) : State :=
  let (sum, number, before) := s.engine.held.averaged
  if number + 1 < 4 then s.modEngine fun e => { e with held := .average (sum + raw) (number + 1) (before || overload) }
  else s.completeZero r (zeroAverage (sum + raw)) (before || overload)

/-- The phase − output completes a chopped result (R78 step 5). -/
def State.chopOutput (s : State) (r : Request) (raw : Int) (overload : Bool) : State :=
  match s.engine.held with
  | .plus plus before => s.deliver r (formChopped plus raw (before || overload))
  | _ => s

/-- The use of a period's output by the operation step (R74). -/
def State.useOutput (s : State) (r : Request) (step : OpStep) (l : LoadedSetup) (raw : Int) (overload : Bool) : State :=
  match step with
  | .settling | .chopPlusSettling | .chopMinusSettling | .zeroSettling => s.modEngine (·.advance l step)
  | .output => s.useResult r (formUnchopped r.profile (s.profile r.profile) raw overload)
  | .chopPlusOutput => s.modEngine (·.swapPhase l raw overload)
  | .chopMinusOutput => s.chopOutput r raw overload
  | .zeroAveraging => s.averageOutput r raw overload

/-- After the output was used: a halt ends here (R71); a free converter is at a result boundary (R52); otherwise the next
period has begun. -/
def State.afterPeriod (s : State) : State :=
  match s.engine.state with
  | .halting => s.enterDown
  | _ => if s.engine.inFlight.isNone then s.freed true else s

/-- Periods run while the engine is RUNNING or HALTING (R74). -/
def State.converts (s : State) : Bool := s.engine.state = .running || s.engine.state = .halting

/-- The length of the period under way, in nanoseconds; none while no period runs (R74). -/
def State.periodUnderWay (s : State) : Option Nat :=
  if s.converts && s.engine.inFlight.isSome then s.engine.loaded.map (·.setup.osr.periodNanoseconds) else none

/-- The end of an output period of the in-flight request (R74). -/
def State.endPeriod (s : State) (raw : Int) (overload : Bool) : State :=
  match s.flight, s.engine.step, s.engine.loaded with
  | some r, some step, some l =>
    let counted := s.modEngine (·.countPeriod l overload)
    (counted.useOutput r step l raw (counted.engine.spanOverload l)).afterPeriod
  | _, _, _ => s

/-- OUTPUT_PERIOD_END (R74). With no period under way, or an output that the converter cannot produce, the event does not
occur (log 1, log 6). -/
def execOutputPeriodEnd (raw : Int) (overload : Bool) (s : State) : Host.Outcome State Fault Refusal :=
  .next (if s.converts && outputInRange raw then s.endPeriod raw overload else s)

end Sys2Proof.Machine
end

