-- ==== Sys2Proof/Machine/Frames.lean ====
section
/-! DEFINITION. Frames: the CRC-8 (R162), response frames (R161), command frames with their codes and lengths (R180), and
the judgement of the bytes of a transaction (R163, R168, R171). -/

namespace Sys2Proof.Machine

/-! ## The CRC-8 (R162) -/

/-- One bit into the register: it shifts left, and 0x07 is added when the bit shifted out differs from the bit taken. -/
def crcBit (register : Byte) (bit : Bool) : Byte :=
  (register <<< 1) ^^^ (if register.msb = bit then 0x00#8 else 0x07#8)

/-- One byte into the register, most significant bit first. -/
def crcByte (register byte : Byte) : Byte :=
  [7, 6, 5, 4, 3, 2, 1, 0].foldl (fun r i => crcBit r (byte.getLsbD i)) register

/-- The CRC-8 of a frame's preceding bytes; the register starts at 0xFF. -/
def crc8 (bytes : List Byte) : Byte := bytes.foldl crcByte 0xFF#8

/-! ## Response frames (R161, R179) -/

/-- The bytes of a response before its CRC. -/
def responseBody (status : Status) (code : Byte) (payload : List Byte) : List Byte :=
  status.code :: code :: unsigned8 payload.length :: payload

/-- A response with its CRC, which the ET316 computes when it places the response in the holder (R162). -/
def Response.make (status : Status) (code : Byte) (payload : List Byte) : Response :=
  { status, code, payload, crc := crc8 (responseBody status code payload) }

/-- The response frame as the host reads it. -/
def Response.bytes (r : Response) : List Byte := responseBody r.status r.code r.payload ++ [r.crc]

/-- The first `n` bytes that an open transaction shifts out or a read transaction sends: the latched frame from its
first byte, then fill bytes 0xFF (R167, R172). -/
def OpenTransaction.shiftedOut (t : OpenTransaction) (n : Nat) : List Byte :=
  (t.latched.bytes ++ List.replicate n 0xFF#8).take n

/-! ## Command codes (R180) -/

/-- The commands of R180. -/
inductive CommandCode
  | nop | status | portReset | alertConfig | profileClaim | profileWrite | profileRead | profileShare | profileRetire
  | profileRelease | submit | cancel | query | fetch | readNotices | exciteVote | engineStart | engineHalt | setQuota
  | setWeight | setAffinity | setAllowance | setCombine | setExciteTiming | clearLockout | setCalPolicy | forceRelease
  | handoverOffer | handoverAccept
  deriving DecidableEq, Repr

/-- The code byte of a command (R180). -/
def CommandCode.byte : CommandCode → Byte
  | .nop => 0x00#8
  | .status => 0x01#8
  | .portReset => 0x02#8
  | .alertConfig => 0x03#8
  | .profileClaim => 0x10#8
  | .profileWrite => 0x11#8
  | .profileRead => 0x12#8
  | .profileShare => 0x13#8
  | .profileRetire => 0x14#8
  | .profileRelease => 0x15#8
  | .submit => 0x20#8
  | .cancel => 0x21#8
  | .query => 0x22#8
  | .fetch => 0x30#8
  | .readNotices => 0x31#8
  | .exciteVote => 0x38#8
  | .engineStart => 0x40#8
  | .engineHalt => 0x41#8
  | .setQuota => 0x42#8
  | .setWeight => 0x43#8
  | .setAffinity => 0x44#8
  | .setAllowance => 0x45#8
  | .setCombine => 0x46#8
  | .setExciteTiming => 0x47#8
  | .clearLockout => 0x48#8
  | .setCalPolicy => 0x49#8
  | .forceRelease => 0x4A#8
  | .handoverOffer => 0x4B#8
  | .handoverAccept => 0x4C#8

/-- The command a code byte selects; every other code is unknown (R180). -/
def CommandCode.ofByte (b : Byte) : Option CommandCode :=
  match b.toNat with
  | 0x00 => some .nop
  | 0x01 => some .status
  | 0x02 => some .portReset
  | 0x03 => some .alertConfig
  | 0x10 => some .profileClaim
  | 0x11 => some .profileWrite
  | 0x12 => some .profileRead
  | 0x13 => some .profileShare
  | 0x14 => some .profileRetire
  | 0x15 => some .profileRelease
  | 0x20 => some .submit
  | 0x21 => some .cancel
  | 0x22 => some .query
  | 0x30 => some .fetch
  | 0x31 => some .readNotices
  | 0x38 => some .exciteVote
  | 0x40 => some .engineStart
  | 0x41 => some .engineHalt
  | 0x42 => some .setQuota
  | 0x43 => some .setWeight
  | 0x44 => some .setAffinity
  | 0x45 => some .setAllowance
  | 0x46 => some .setCombine
  | 0x47 => some .setExciteTiming
  | 0x48 => some .clearLockout
  | 0x49 => some .setCalPolicy
  | 0x4A => some .forceRelease
  | 0x4B => some .handoverOffer
  | 0x4C => some .handoverAccept
  | _ => none

/-- The payload length that the code fixes (R180). -/
def CommandCode.payloadLength : CommandCode → Nat
  | .nop | .status | .portReset | .engineStart | .engineHalt | .handoverAccept => 0
  | .alertConfig | .profileClaim | .profileRead | .profileRetire | .profileRelease | .cancel | .query | .fetch
  | .readNotices | .setAffinity | .clearLockout | .forceRelease | .handoverOffer => 1
  | .profileShare | .exciteVote | .setWeight | .setAllowance => 2
  | .setQuota | .setCombine | .setExciteTiming => 3
  | .setCalPolicy => 4
  | .profileWrite => 10
  | .submit => 12

/-- The supervisor-only commands (R149). -/
def CommandCode.supervisorOnly : CommandCode → Bool
  | .engineStart | .engineHalt | .setQuota | .setWeight | .setAffinity | .setAllowance | .setCombine | .setExciteTiming
  | .clearLockout | .setCalPolicy | .forceRelease | .handoverOffer => true
  | .nop | .status | .portReset | .alertConfig | .profileClaim | .profileWrite | .profileRead | .profileShare
  | .profileRetire | .profileRelease | .submit | .cancel | .query | .fetch | .readNotices | .exciteVote
  | .handoverAccept => false

/-! ## Command frames (R161, R180, R182) -/

/-- The command of port `p` that a code and a payload spell, `none` where the payload has another length than the
code's own. -/
def readPayload (p : Port) (code : CommandCode) (payload : List Byte) : Option Instr :=
  match code with
  | .nop => match payload with | [] => some (.nop p) | _ => none
  | .status => match payload with | [] => some (.status p) | _ => none
  | .portReset => match payload with | [] => some (.portReset p) | _ => none
  | .alertConfig => match payload with | [x] => some (.alertConfig p x) | _ => none
  | .profileClaim => match payload with | [x] => some (.profileClaim p x) | _ => none
  | .profileWrite =>
    match payload with
    | [number, positive, negative, reference, gain, osr, order, method, need, autoRecal] =>
      some (.profileWrite p { number, positive, negative, reference, gain, osr, order, method, need, autoRecal })
    | _ => none
  | .profileRead => match payload with | [x] => some (.profileRead p x) | _ => none
  | .profileShare => match payload with | [x, y] => some (.profileShare p x y) | _ => none
  | .profileRetire => match payload with | [x] => some (.profileRetire p x) | _ => none
  | .profileRelease => match payload with | [x] => some (.profileRelease p x) | _ => none
  | .submit =>
    match payload with
    | [tag, number, kind, count, run, window, l2, l1, l0, h2, h1, h0] =>
      some (.submit p { tag, number, kind, count, run, window, low := l2 ++ l1 ++ l0, high := h2 ++ h1 ++ h0 })
    | _ => none
  | .cancel => match payload with | [x] => some (.cancel p x) | _ => none
  | .query => match payload with | [x] => some (.query p x) | _ => none
  | .fetch => match payload with | [x] => some (.fetch p x) | _ => none
  | .readNotices => match payload with | [x] => some (.readNotices p x) | _ => none
  | .exciteVote => match payload with | [x, y] => some (.exciteVote p x y) | _ => none
  | .engineStart => match payload with | [] => some (.engineStart p) | _ => none
  | .engineHalt => match payload with | [] => some (.engineHalt p) | _ => none
  | .setQuota => match payload with | [x, y, z] => some (.setQuota p x y z) | _ => none
  | .setWeight => match payload with | [x, y] => some (.setWeight p x y) | _ => none
  | .setAffinity => match payload with | [x] => some (.setAffinity p x) | _ => none
  | .setAllowance => match payload with | [x, y] => some (.setAllowance p x y) | _ => none
  | .setCombine => match payload with | [x, y, z] => some (.setCombine p x y z) | _ => none
  | .setExciteTiming => match payload with | [x, y, z] => some (.setExciteTiming p x y z) | _ => none
  | .clearLockout => match payload with | [x] => some (.clearLockout p x) | _ => none
  | .setCalPolicy => match payload with | [x, y, d1, d0] => some (.setCalPolicy p x y (d1 ++ d0)) | _ => none
  | .forceRelease => match payload with | [x] => some (.forceRelease p x) | _ => none
  | .handoverOffer => match payload with | [x] => some (.handoverOffer p x) | _ => none
  | .handoverAccept => match payload with | [] => some (.handoverAccept p) | _ => none

/-- The port, code and payload of a command; `none` for a row of the table that is an event. -/
def commandParts : Instr → Option (Port × CommandCode × List Byte)
  | .nop p => some (p, .nop, [])
  | .status p => some (p, .status, [])
  | .portReset p => some (p, .portReset, [])
  | .alertConfig p x => some (p, .alertConfig, [x])
  | .profileClaim p x => some (p, .profileClaim, [x])
  | .profileWrite p f =>
    some (p, .profileWrite,
      [f.number, f.positive, f.negative, f.reference, f.gain, f.osr, f.order, f.method, f.need, f.autoRecal])
  | .profileRead p x => some (p, .profileRead, [x])
  | .profileShare p x y => some (p, .profileShare, [x, y])
  | .profileRetire p x => some (p, .profileRetire, [x])
  | .profileRelease p x => some (p, .profileRelease, [x])
  | .submit p f =>
    some (p, .submit, [f.tag, f.number, f.kind, f.count, f.run, f.window] ++ bytes24 f.low ++ bytes24 f.high)
  | .cancel p x => some (p, .cancel, [x])
  | .query p x => some (p, .query, [x])
  | .fetch p x => some (p, .fetch, [x])
  | .readNotices p x => some (p, .readNotices, [x])
  | .exciteVote p x y => some (p, .exciteVote, [x, y])
  | .engineStart p => some (p, .engineStart, [])
  | .engineHalt p => some (p, .engineHalt, [])
  | .setQuota p x y z => some (p, .setQuota, [x, y, z])
  | .setWeight p x y => some (p, .setWeight, [x, y])
  | .setAffinity p x => some (p, .setAffinity, [x])
  | .setAllowance p x y => some (p, .setAllowance, [x, y])
  | .setCombine p x y z => some (p, .setCombine, [x, y, z])
  | .setExciteTiming p x y z => some (p, .setExciteTiming, [x, y, z])
  | .clearLockout p x => some (p, .clearLockout, [x])
  | .setCalPolicy p x y d => some (p, .setCalPolicy, [x, y] ++ bytes16 d)
  | .forceRelease p x => some (p, .forceRelease, [x])
  | .handoverOffer p x => some (p, .handoverOffer, [x])
  | .handoverAccept p => some (p, .handoverAccept, [])
  | .frameError _ _ | .unknownCommand _ _ | .emptyTransaction _ _ | .busTimeout | .deviceReset _ | .startTimerExpiry
  | .intervalTimerExpiry | .outputPeriodEnd _ _ | .warmUpExpiry _ | .lingerExpiry _ | .holdOffExpiry _
  | .readyDwellExpiry _ | .overcurrentTrip _ | .offerLapse | .transactionOpen _ => none

/-- A command frame: code, payload length, payload, CRC-8 (R161). -/
def commandFrame (code : CommandCode) (payload : List Byte) : List Byte :=
  let body := code.byte :: unsigned8 payload.length :: payload
  body ++ [crc8 body]

/-! ## Judging the bytes of a transaction (R163) -/

/-- What a closing transaction turns out to be, before the supervisor check (step 6 of R163, made by each command). -/
inductive Verdict
  | noFrame
  | frameError (first : Byte)
  | unknownCommand (code : Byte)
  | command (i : Instr)
  deriving DecidableEq, Repr

/-- The highest payload length of a command frame (R161). -/
def maxPayloadLength : Nat := 24

/-- The frame bytes of an SPI transaction (R168): leading 0xFF bytes are skipped, and 0xFF bytes that follow the frame
are ignored. A frame that is too short, too long or has no sound length field keeps every byte from its first one. -/
def spiFrameBytes (received : List Byte) : List Byte :=
  match received.dropWhile (· == 0xFF#8) with
  | code :: length :: rest =>
    if length.toNat ≤ maxPayloadLength && (rest.drop (length.toNat + 1)).all (· == 0xFF#8) then
      code :: length :: rest.take (length.toNat + 1)
    else code :: length :: rest
  | short => short

/-- The frame bytes of a transaction at a port: on port C every data byte is one (R171). -/
def frameBytes (p : Port) (received : List Byte) : List Byte :=
  match p with
  | .a | .b => spiFrameBytes received
  | .c => received

/-- Steps 1 to 5 of R163 over the frame bytes, in order. -/
def judgeFrame (p : Port) (frame : List Byte) : Verdict :=
  match frame with
  | [] => .noFrame
  | [code] => .frameError code
  | code :: length :: rest =>
    if maxPayloadLength < length.toNat then .frameError code
    else if rest.length ≠ length.toNat + 1 then .frameError code
    else if crc8 (code :: length :: rest.dropLast) ≠ rest.getLastD 0 then .frameError code
    else
      match CommandCode.ofByte code with
      | none => .unknownCommand code
      | some c =>
        match readPayload p c rest.dropLast with
        | none => .frameError code
        | some i => .command i

/-- The judgement of all bytes received in a transaction at a port (R163, R168, R171). -/
def judge (p : Port) (received : List Byte) : Verdict := judgeFrame p (frameBytes p received)

/-- How many data bytes port C acknowledges (R171): every byte up to the end of the frame as its length field gives it,
none after a length field above 24. -/
def acknowledgedBytes (received : List Byte) : Nat :=
  match received with
  | _ :: length :: _ =>
    if maxPayloadLength < length.toNat then 2 else min received.length (length.toNat + 3)
  | short => short.length

end Sys2Proof.Machine
end

