-- ==== Sys2Proof/Machine/Ports.lean ====
section
/-! DEFINITION. The port interfaces (R159 to R173): opening and closing a transaction, placing a response, the taking of a
command with its rights check (R149, R163), and the rows NOP, FRAME_ERROR, UNKNOWN_COMMAND, EMPTY_TRANSACTION and
BUS_TIMEOUT. TRANSACTION_OPEN, which may close a transaction with any command, is in Machine/Transactions.lean. -/

namespace Sys2Proof.Machine

/-! ## Transactions -/

/-- The bus timeout of port C in milliseconds (R159). -/
def busTimeoutTime : Nat := 30

/-- Port C's timer stands still once it takes part in no transaction (R173). -/
def State.stopBusTimer (s : State) (p : Port) : State :=
  match p with
  | .c => { s with busTimer := .stopped }
  | .a | .b => s

/-- The transaction of a port closes (R167, R171). -/
def State.closeTransaction (s : State) (p : Port) : State :=
  (s.modPort p fun ps => { ps with transaction := .closed }).stopBusTimer p

/-- The bytes a transaction has received from the host so far: none in a read transaction of port C (R172). -/
def Transaction.received : Transaction → List Byte
  | .closed => []
  | .opened t => if t.read then [] else t.received

/-- A response placed in a port's holder, replacing what it held (R165). -/
def State.respond (s : State) (p : Port) (status : Status) (code : Byte) (payload : List Byte) : State :=
  s.modPort p fun ps => { ps with holder := .make status code payload }

/-! ## The judgement at a close (R163) -/

/-- The judgement of a transaction that closes after `rest` more bytes (R163; log 3). A read transaction of port C has
received no byte: bytes that a row brings while one stands open are those of a write whose START, which the row implies,
has ended the read (the model's choice, logs 2 and 3). -/
def State.judgeClose (s : State) (p : Port) (rest : List Byte) : Verdict :=
  judge p ((s.port p).transaction.received ++ rest)

/-- What a close answers when its bytes are no sound command (R163): the response to a failed step in the holder, or, with
no frame byte, the held response as it was. A sound command is taken by its own rule. -/
def State.answerVerdict (s : State) (p : Port) (v : Verdict) : State :=
  match v with
  | .noFrame => s.closeTransaction p
  | .frameError first => (s.closeTransaction p).respond p .frameError first []
  | .unknownCommand code => (s.closeTransaction p).respond p .unknownCommand code []
  | .command _ => s

/-- The close of a port's transaction by the row of a command with this frame, which leaves `taken` when the command is
taken: it is taken where the bytes received so far are a beginning of its frame or the whole of it, with the fill of R168.
Other bytes are answered as R163 judges them; where they spell another command, this close does not occur (logs 2, 3). -/
def State.closeBy (s : State) (p : Port) (frame : List Byte) (taken : State) : State :=
  if (frameBytes p (s.port p).transaction.received).isPrefixOf frame then taken
  else s.answerVerdict p (s.judgeClose p [])

/-! ## Taking a command (R160, R163) -/

/-- What a command's own rule answers: the state it leaves, the status and the payload of its response. -/
structure Answer where
  state : State
  status : Status
  payload : List Byte
  deriving DecidableEq, Repr

/-- The command is accepted and acted on. -/
def Answer.accept (state : State) (payload : List Byte) : Answer := { state, status := .ok, payload }

/-- The command is refused with an empty payload and changes nothing (R161, R180). -/
def Answer.refuse (state : State) (status : Status) : Answer := { state, status, payload := [] }

/-- A command whose frame has passed steps 1 to 5 of R163, taken at the close of its transaction: step 6 (the rights check,
R149), then the command's own rule, then the response in the holder (R160). -/
def State.take (s : State) (p : Port) (code : CommandCode) (act : State → Answer) : State :=
  let closed := s.closeTransaction p
  if code.supervisorOnly && s.supervisor ≠ p then closed.respond p .notSupervisor code.byte []
  else (act closed).state.respond p (act closed).status code.byte (act closed).payload

/-- The row of a command: the close of its port's transaction with the command's frame (R160, R163; log 2). -/
def takeCommand (i : Instr) (act : State → Answer) (s : State) : Host.Outcome State Fault Refusal :=
  .next <|
    match commandParts i with
    | some (p, code, payload) => s.closeBy p (commandFrame code payload) (s.take p code act)
    | none => s

/-! ## The rows of the port interface -/

/-- NOP (R166): the transaction closes and the holder keeps its response. -/
def execNop (p : Port) (s : State) : Host.Outcome State Fault Refusal :=
  .next (s.closeBy p (commandFrame .nop []) (s.closeTransaction p))

/-- FRAME_ERROR (R163): the frame fails a frame check, and the FRAME_ERROR response, echoing its first byte, replaces the
held one. Bytes that pass the checks are no such event (log 3). -/
def execFrameError (p : Port) (rest : List Byte) (s : State) : Host.Outcome State Fault Refusal :=
  .next <|
    match s.judgeClose p rest with
    | .frameError first => s.answerVerdict p (.frameError first)
    | .noFrame => s
    | .unknownCommand _ => s
    | .command _ => s

/-- UNKNOWN_COMMAND (R163, R164): a sound frame with an unlisted code. -/
def execUnknownCommand (p : Port) (rest : List Byte) (s : State) : Host.Outcome State Fault Refusal :=
  .next <|
    match s.judgeClose p rest with
    | .unknownCommand code => s.answerVerdict p (.unknownCommand code)
    | .noFrame => s
    | .frameError _ => s
    | .command _ => s

/-- EMPTY_TRANSACTION (R163): the transaction carried no frame byte, and the holder keeps its response. A read transaction
on port C closes so too (R172). -/
def execEmptyTransaction (p : Port) (rest : List Byte) (s : State) : Host.Outcome State Fault Refusal :=
  .next <|
    match s.judgeClose p rest with
    | .noFrame => s.answerVerdict p .noFrame
    | .frameError _ => s
    | .unknownCommand _ => s
    | .command _ => s

/-- The FRAME_ERROR of an abandoned write that had received a data byte (R173 step 2). -/
def State.abandonTransaction (s : State) (t : OpenTransaction) : State :=
  match t.read, t.received with
  | false, first :: _ => (s.closeTransaction .c).respond .c .frameError first []
  | _, _ => s.closeTransaction .c

/-- BUS_TIMEOUT (R173): port C abandons the transaction it takes part in; with none, the timer does not run and the
expiry does not occur (log 1). -/
def execBusTimeout (s : State) : Host.Outcome State Fault Refusal :=
  .next <|
    match s.busTimer, s.ports.c.transaction with
    | .running _, .opened t => s.abandonTransaction t
    | _, _ => s

end Sys2Proof.Machine
end

