-- ==== Sys2Proof/Machine/EngineControl.lean ====
section
/-! DEFINITION. ENGINE_START (R69), ENGINE_HALT (R70) and the expiries of the start timer (R73) and of the sample-interval
timer (R95). -/

namespace Sys2Proof.Machine

/-! ## ENGINE_START (R69) -/

/-- The engine leaves DOWN: STARTING with its timer, ENGINE (STARTING) to all ports, and the demanded outputs warm up
(R69, R138). -/
def State.startEngine (s : State) : State :=
  let starting := (s.modEngine fun e => { e with state := .starting, startTimer := .running startTime }).postAll
    (.engine .starting)
  { starting with
    outputs := { exa := starting.outputs.exa.warmIfDemanded false, exb := starting.outputs.exb.warmIfDemanded false } }

def engineStart (s : State) : Answer :=
  if s.engine.state = .down then .accept s.startEngine [EngineState.starting.code] else .refuse s .engineState

/-- ENGINE_START (R69), supervisor-only. -/
def execEngineStart (p : Port) (s : State) : Host.Outcome State Fault Refusal := takeCommand (.engineStart p) engineStart s

/-! ## ENGINE_HALT (R70) -/

/-- A halt that finds a request in flight: HALTING, to await the period under way (R70). -/
def State.awaitPeriod (s : State) : State :=
  (s.modEngine fun e => { e with state := .halting }).postAll (.engine .halting)

def engineHalt (s : State) : Answer :=
  match s.engine.state with
  | .down => .refuse s .engineState
  | .halting => .refuse s .engineState
  | .starting => .accept s.enterDown [EngineState.down.code]
  | .running =>
    if s.engine.inFlight.isNone then .accept s.enterDown [EngineState.down.code]
    else .accept s.awaitPeriod [EngineState.halting.code]

/-- ENGINE_HALT (R70), supervisor-only. -/
def execEngineHalt (p : Port) (s : State) : Host.Outcome State Fault Refusal := takeCommand (.engineHalt p) engineHalt s

/-! ## Timer expiries -/

/-- Entry to RUNNING: a settle break, ENGINE (RUNNING) to all ports, the interval timer restarted, a temperature sample
placed, and then a kind-1 grant point (R73, R95). -/
def State.enterRunning (s : State) : State :=
  let running := (s.modEngine fun e => { e with state := .running, startTimer := .stopped }.settleBreak).postAll
    (.engine .running)
  running.restartInterval.placeSample.kick

/-- START_TIMER_EXPIRY (R73); with the timer stopped it does not occur (log 1). -/
def execStartTimerExpiry (s : State) : Host.Outcome State Fault Refusal :=
  .next <|
    match s.engine.state, s.engine.startTimer with
    | .starting, .running _ => s.enterRunning
    | _, _ => s

/-- INTERVAL_TIMER_EXPIRY (R95): the timer restarts and a sample is placed, in RUNNING or HALTING; with the timer stopped
it does not occur (log 1). -/
def execIntervalTimerExpiry (s : State) : Host.Outcome State Fault Refusal :=
  .next <|
    match s.monitor.intervalTimer with
    | .running _ =>
      if s.engine.state = .running ∨ s.engine.state = .halting then s.restartInterval.placeSample.kick else s
    | .stopped => s

end Sys2Proof.Machine
end

