-- ==== Sys2Proof/Machine/Records.lean ====
section
/-! DEFINITION. The records a response carries, byte by byte (R182, R183): profile, result, notice and status records. -/

namespace Sys2Proof.Machine

/-- Bytes 14 to 21 of a profile record: the offset record, or zeros (R182). -/
def recordBytes : Option OffsetRecord → List Byte
  | none => [boolCode false] ++ signed24 0 ++ signed16 0 ++ [0x00#8, 0x00#8]
  | some r => [boolCode true] ++ signed24 r.value ++ signed16 r.calTemperature ++ [unsigned8 r.age, boolCode r.stale]

/-- Bytes 4 to 12 of a profile record (R182). -/
def contentBytes (p : Profile) : List Byte :=
  [p.setup.positive.code, p.setup.negative.code, p.setup.reference.code, p.setup.gain.code, p.setup.osr.code,
    p.setup.order.code, p.method.code, needCode p.need, boolCode p.autoRecal]

/-- A profile record, 22 bytes (R182). -/
def profileBytes (n : Fin 32) (p : Profile) : List Byte :=
  [unsigned8 n, p.state.code, ownerCode p.owner, portSetCode p.share] ++ contentBytes p ++ [unsigned8 p.refCount]
    ++ recordBytes p.record

/-- A result record, 9 bytes (R183). -/
def ResultRecord.bytes (r : ResultRecord) : List Byte :=
  [r.tag, unsigned8 r.profile] ++ bytes16 r.sequence ++ [r.index, r.flags.code] ++ signed24 r.value

/-- A notice record, 5 bytes: kind, tag, profile, detail, second detail (R183). -/
def Notice.bytes : Notice → List Byte
  | .requestEnded tag reason => [0x01#8, tag, 0x00#8, reason.code, 0x00#8]
  | .window tag side => [0x02#8, tag, 0x00#8, side.code, 0x00#8]
  | .offsetUpdated n source => [0x03#8, 0x00#8, unsigned8 n, source.code, 0x00#8]
  | .offsetStale n criterion => [0x04#8, 0x00#8, unsigned8 n, criterion.code, 0x00#8]
  | .profileRetired n => [0x05#8, 0x00#8, unsigned8 n, 0x00#8, 0x00#8]
  | .profileRevoked n => [0x06#8, 0x00#8, unsigned8 n, 0x00#8, 0x00#8]
  | .ringHigh entries => [0x07#8, 0x00#8, 0x00#8, unsigned8 entries, 0x00#8]
  | .excitation output phase => [0x08#8, 0x00#8, 0x00#8, output.code, phase.code]
  | .engine state => [0x09#8, 0x00#8, 0x00#8, state.code, 0x00#8]
  | .supervisor p => [0x0A#8, 0x00#8, 0x00#8, p.code, 0x00#8]
  | .offer offering => [0x0B#8, 0x00#8, 0x00#8, offering.code, 0x00#8]
  | .offerLapsed target => [0x0C#8, 0x00#8, 0x00#8, target.code, 0x00#8]
  | .offerWithdrawn other => [0x0D#8, 0x00#8, 0x00#8, other.code, 0x00#8]

/-- The current temperature as STATUS reports it: 0 while INVALID (R91). -/
def Monitor.reported (m : Monitor) : Int := if m.valid then m.temperature else 0

/-- The status record for a port, 18 bytes (R174, R183). -/
def State.statusBytes (s : State) (p : Port) : List Byte :=
  [s.engine.state.code, s.supervisor.code, boolCode s.offer.isSome, optionalPortCode (s.offer.map (·.target))]
    ++ signed16 s.monitor.reported
    ++ [boolCode s.monitor.valid, s.outputs.exa.state.code, s.outputs.exb.state.code,
      unsigned8 s.ports.a.used, unsigned8 s.ports.b.used, unsigned8 s.ports.c.used, unsigned8 s.freePool,
      unsigned8 (s.port p).ring.length, unsigned8 (s.port p).reservations, unsigned8 (s.port p).notices.length,
      boolCode (s.port p).lost, signed8 (s.port p).credit]

end Sys2Proof.Machine
end

