-- ==== Sys2Proof/Machine/Profiles.lean ====
section
/-! DEFINITION. The profile commands (R10 to R20): PROFILE_CLAIM, PROFILE_WRITE, PROFILE_READ, PROFILE_SHARE,
PROFILE_RETIRE, PROFILE_RELEASE, FORCE_RELEASE. Each checks in the order its rule gives; the first failing check decides. -/

namespace Sys2Proof.Machine

/-- The port owns the profile. -/
def Profile.ownedBy (profile : Profile) (p : Port) : Bool := profile.owner = some (.port p)

/-! ## PROFILE_CLAIM (R10) -/

/-- A user profile is FREE and so can be claimed. -/
def State.claimable (s : State) (n : Fin 32) : Bool := n ≠ 0 && (s.profile n).state = .free

/-- The profile a claim chooses: the named one if it is FREE, or the FREE user profile with the smallest number. -/
def State.claimChoice (s : State) : Wanted → Option (Fin 32)
  | .named n => if s.claimable n then some n else none
  | .lowestFree => profileNumbers.find? s.claimable

/-- A profile as a claim leaves it: CLAIMED with the default contents (R10). -/
def Profile.claimedBy (p : Port) : Profile := { Profile.default with state := .claimed, owner := some (.port p) }

/-- The claim of a profile by a port: its owned count rises by one (R10, R21). -/
def State.claim (s : State) (p : Port) (n : Fin 32) : State :=
  (s.modProfile n fun _ => .claimedBy p).modPort p fun ps => { ps with owned := ps.owned + 1 }

def profileClaim (p : Port) (wanted : Byte) (s : State) : Answer :=
  match wantedOfCode wanted with
  | none => .refuse s .badField
  | some w =>
    match s.claimChoice w with
    | none => .refuse s .profileState
    | some n =>
      if (s.port p).allowance ≤ (s.port p).owned then .refuse s .allowance
      else .accept (s.claim p n) [unsigned8 n]

/-- PROFILE_CLAIM (R10). -/
def execProfileClaim (p : Port) (wanted : Byte) (s : State) : Host.Outcome State Fault Refusal :=
  takeCommand (.profileClaim p wanted) (profileClaim p wanted) s

/-! ## PROFILE_WRITE (R11) -/

/-- The record is kept when the analog setup and the offset method are equal to their old values (R11). -/
def Profile.keepsRecord (profile : Profile) (w : Writing) : Bool := profile.setup = w.setup && profile.method = w.method

/-- A profile as an accepted write leaves it (R11). -/
def Profile.written (profile : Profile) (w : Writing) : Profile :=
  { profile with
    state := .active, setup := w.setup, method := w.method, need := w.need, autoRecal := w.autoRecal
    record := if profile.keepsRecord w then profile.record else none }

/-- The write outcome: 0x00 NONE, 0x01 KEPT, 0x02 DISCARDED (R11, R179). -/
def Profile.writeOutcome (profile : Profile) (w : Writing) : Byte :=
  match profile.record with
  | none => 0x00#8
  | some _ => if profile.keepsRecord w then 0x01#8 else 0x02#8

def profileWrite (p : Port) (f : WriteFields) (s : State) : Answer :=
  match userNumberOfCode f.number, writingOfFields f with
  | some n, some w =>
    if !w.consistent then .refuse s .badField
    else if (s.profile n).state = .free ∨ (s.profile n).state = .retiring then .refuse s .profileState
    else if !(s.profile n).ownedBy p then .refuse s .notOwner
    else if 0 < (s.profile n).refCount then .refuse s .inUse
    else .accept (s.modProfile n (·.written w)) [(s.profile n).writeOutcome w]
  | _, _ => .refuse s .badField

/-- PROFILE_WRITE (R11). -/
def execProfileWrite (p : Port) (f : WriteFields) (s : State) : Host.Outcome State Fault Refusal :=
  takeCommand (.profileWrite p f) (profileWrite p f) s

/-! ## PROFILE_READ (R13) -/

def profileRead (number : Byte) (s : State) : Answer :=
  match numberOfCode number with
  | none => .refuse s .badField
  | some n => .accept s (profileBytes n (s.profile n))

/-- PROFILE_READ (R13). -/
def execProfileRead (p : Port) (number : Byte) (s : State) : Host.Outcome State Fault Refusal :=
  takeCommand (.profileRead p number) (profileRead number) s

/-! ## PROFILE_SHARE (R14) -/

/-- The share set as stored: the owner's own port is left out (R14). -/
def storedShare (p : Port) (share : PerPort Bool) : PerPort Bool := share.set p false

def profileShare (p : Port) (number share : Byte) (s : State) : Answer :=
  match userNumberOfCode number, portSetOfCode share with
  | some n, some set =>
    if (s.profile n).state = .free then .refuse s .profileState
    else if !(s.profile n).ownedBy p then .refuse s .notOwner
    else .accept (s.modProfile n fun profile => { profile with share := storedShare p set })
      [portSetCode (storedShare p set)]
  | _, _ => .refuse s .badField

/-- PROFILE_SHARE (R14). -/
def execProfileShare (p : Port) (number share : Byte) (s : State) : Host.Outcome State Fault Refusal :=
  takeCommand (.profileShare p number share) (profileShare p number share) s

/-! ## PROFILE_RETIRE (R15, R16) -/

/-- The requests that a retire ends at once: continuous and QUEUED (R15). -/
def Request.endsAtRetire (n : Fin 32) (r : Request) : Bool := r.profile = n && r.continuous && r.state = .queued

/-- The in-flight request is a continuous one against the profile, which a retire marks final (R15). -/
def State.flightIsContinuous (s : State) (n : Fin 32) : Bool := s.flight.any fun r => r.profile = n && r.continuous

/-- The final mark set on an in-flight continuous request against the profile (R16). -/
def State.markFinal (s : State) (n : Fin 32) : State :=
  if s.flightIsContinuous n then s.modFlight fun r => { r with finalMark := true } else s

/-- A retire with live requests: RETIRING, the in-flight continuous request marked final, the queued continuous ones
ended; it may complete at once (R9, R15), and a new head may end an idle period (R53). -/
def State.retireBusy (s : State) (n : Fin 32) : State :=
  let marked := (s.modProfile n fun profile => { profile with state := .retiring }).markFinal n
  ((marked.terminate .retired (Request.endsAtRetire n)).refreshDemand).kick

/-- The retire outcome: 0x00 RETIRED_NOW if the command leaves the profile CLAIMED, 0x01 RETIRING otherwise (R15). -/
def State.retireOutcome (s : State) (n : Fin 32) : Byte :=
  if (s.profile n).state = .claimed then 0x00#8 else 0x01#8

/-- A retire accepted for an ACTIVE profile (R15). -/
def State.retire (s : State) (n : Fin 32) : State :=
  if (s.profile n).refCount = 0 then s.modProfile n fun profile => { profile with state := .claimed }
  else s.retireBusy n

def profileRetire (p : Port) (number : Byte) (s : State) : Answer :=
  match userNumberOfCode number with
  | none => .refuse s .badField
  | some n =>
    if (s.profile n).state = .free ∨ (s.profile n).state = .claimed then .refuse s .profileState
    else if (s.profile n).state = .retiring then .refuse s .profileRetiring
    else if !(s.profile n).ownedBy p then .refuse s .notOwner
    else .accept (s.retire n) [(s.retire n).retireOutcome n]

/-- PROFILE_RETIRE (R15). -/
def execProfileRetire (p : Port) (number : Byte) (s : State) : Host.Outcome State Fault Refusal :=
  takeCommand (.profileRetire p number) (profileRetire p number) s

/-! ## PROFILE_RELEASE (R18) -/

/-- An owner's owned count falls by one (R21). -/
def State.disown (s : State) (owner : Option Source) : State :=
  match owner with
  | some (.port p) => s.modPort p fun ps => { ps with owned := ps.owned - 1 }
  | _ => s

def profileRelease (p : Port) (number : Byte) (s : State) : Answer :=
  match userNumberOfCode number with
  | none => .refuse s .badField
  | some n =>
    if (s.profile n).state = .free then .refuse s .profileState
    else if (s.profile n).state = .retiring then .refuse s .profileRetiring
    else if !(s.profile n).ownedBy p then .refuse s .notOwner
    else if 0 < (s.profile n).refCount then .refuse s .inUse
    else .accept ((s.modProfile n fun _ => .default).disown (some (.port p))) []

/-- PROFILE_RELEASE (R18). -/
def execProfileRelease (p : Port) (number : Byte) (s : State) : Host.Outcome State Fault Refusal :=
  takeCommand (.profileRelease p number) (profileRelease p number) s

/-! ## FORCE_RELEASE (R19, R20) -/

/-- The request names the profile. -/
def Request.names (n : Fin 32) (r : Request) : Bool := r.profile = n

/-- The number of port requests against a profile (R19). -/
def State.portRequests (s : State) (n : Fin 32) : Nat :=
  (s.ports.a.queue ++ s.ports.b.queue ++ s.ports.c.queue).countP (Request.names n)

/-- A profile erased by a forced release; its reference count falls with the terminations (R19). It is FREE before them,
so that no retire is completed (R9). -/
def State.erase (s : State) (n : Fin 32) : State :=
  s.modProfile n fun profile => { Profile.default with refCount := profile.refCount }

/-- A forced release: every live request against the profile ended REVOKED, then PROFILE_REVOKED to the previous owner
(R19, R20), the demand once, and the freed converter last (R87). -/
def State.forceRelease (s : State) (n : Fin 32) : State :=
  let ended := (s.erase n).terminate .revoked (Request.names n)
  let revoked := (ended.disown (s.profile n).owner).postOwner (s.profile n).owner (.profileRevoked n)
  revoked.refreshDemand.afterTerminations (s.flightEnds (Request.names n))

def forceRelease (number : Byte) (s : State) : Answer :=
  match userNumberOfCode number with
  | none => .refuse s .badField
  | some n =>
    if (s.profile n).state = .free then .refuse s .profileState
    else .accept (s.forceRelease n) [ownerCode (s.profile n).owner, unsigned8 (s.portRequests n)]

/-- FORCE_RELEASE (R19), supervisor-only. -/
def execForceRelease (p : Port) (number : Byte) (s : State) : Host.Outcome State Fault Refusal :=
  takeCommand (.forceRelease p number) (forceRelease number) s

end Sys2Proof.Machine
end

