-- ==== Sys2Proof/Machine/Requests.lean ====
section
/-! DEFINITION. The request commands: SUBMIT (R39, R40), CANCEL (R42, R43), QUERY (R45). -/

namespace Sys2Proof.Machine

/-! ## SUBMIT (R39, R40) -/

/-- The port may submit a MEASURE against the profile: it is the owner or in the share set (R22). -/
def Profile.mayMeasure (profile : Profile) (p : Port) : Bool := profile.ownedBy p || profile.share.get p

/-- The live request of a port that carries a tag (R34). -/
def PortState.tagged (ps : PortState) (tag : Byte) : Option Request := ps.queue.find? (·.tag = some tag)

/-- Steps 2 to 7 of R39 in order: the first failing check, if any. -/
def State.submitRefusal (s : State) (p : Port) (tag : Byte) (w : Submission) : Option Status :=
  if (s.profile w.profile).state = .free ∨ (s.profile w.profile).state = .claimed then some .profileState
  else if (s.profile w.profile).state = .retiring then some .profileRetiring
  else if w.kind = .measure ∧ !(s.profile w.profile).mayMeasure p then some .noAccess
  else if w.kind = .zero ∧ !(s.profile w.profile).ownedBy p then some .notOwner
  else if w.kind = .zero ∧ (s.profile w.profile).method ≠ .stored then some .notApplicable
  else if s.needLocked w.profile then some .excitationLocked
  else if ((s.port p).tagged tag).isSome then some .duplicateTag
  else if !s.quotaPasses p then some .quota
  else none

/-- The request record that an accepted SUBMIT creates (R25, R40 step 2). -/
def newRequest (p : Port) (tag : Byte) (w : Submission) : Request :=
  { source := .port p, tag := some tag, profile := w.profile, kind := w.kind, count := w.count, run := w.run,
    window := w.window, state := .queued, delivered := 0, side := w.window.map fun _ => .unknown, finalMark := false }

/-- Acceptance of a request: slot, queue tail and reference count (R40 steps 1 to 4). -/
def State.enqueue (s : State) (p : Port) (r : Request) : State :=
  (s.modPort p fun ps => { ps with used := ps.used + 1, queue := ps.queue ++ [r] }).modProfile r.profile
    fun profile => { profile with refCount := profile.refCount + 1 }

/-- The whole of an accepted SUBMIT: demand (R40 step 5), then a kind-1 grant point if it ends an idle period (R53). -/
def State.submit (s : State) (p : Port) (tag : Byte) (w : Submission) : State :=
  ((s.enqueue p (newRequest p tag w)).refreshDemand).kick

def submit (p : Port) (f : SubmitFields) (s : State) : Answer :=
  match submissionOfFields f with
  | none => { state := s, status := .badField, payload := [f.tag] }
  | some w =>
    match s.submitRefusal p f.tag w with
    | some status => { state := s, status, payload := [f.tag] }
    | none => .accept (s.submit p f.tag w) [f.tag]

/-- SUBMIT (R39). -/
def execSubmit (p : Port) (f : SubmitFields) (s : State) : Host.Outcome State Fault Refusal :=
  takeCommand (.submit p f) (submit p f) s

/-! ## CANCEL (R42, R43) -/

/-- The request is the port's with this tag. -/
def Request.isTagged (p : Port) (tag : Byte) (r : Request) : Bool := r.source = .port p && r.tag = some tag

/-- A cancel of a live request: terminated, abandoned if it was in flight (R42, R43). -/
def State.cancel (s : State) (p : Port) (tag : Byte) : State :=
  ((s.terminate .cancelled (Request.isTagged p tag)).refreshDemand).afterTerminations
    (s.flightEnds (Request.isTagged p tag))

/-- The cancel outcome: 0x00 WAS_QUEUED, 0x01 WAS_IN_FLIGHT (R179). -/
def cancelOutcome (r : Request) : Byte := if r.isInFlight then 0x01#8 else 0x00#8

def cancel (p : Port) (tag : Byte) (s : State) : Answer :=
  match (s.port p).tagged tag with
  | none => .refuse s .unknownTag
  | some r => .accept (s.cancel p tag) [tag, cancelOutcome r]

/-- CANCEL (R42). -/
def execCancel (p : Port) (tag : Byte) (s : State) : Host.Outcome State Fault Refusal :=
  takeCommand (.cancel p tag) (cancel p tag) s

/-! ## QUERY (R45) -/

/-- The position of a tag in the port's queue, the head counted as 1 (R45). -/
def PortState.position (ps : PortState) (tag : Byte) : Nat := ps.queue.findIdx (·.tag = some tag) + 1

def query (p : Port) (tag : Byte) (s : State) : Answer :=
  match (s.port p).tagged tag with
  | none => .refuse s .unknownTag
  | some r =>
    .accept s ([tag, r.state.code, unsigned8 ((s.port p).position tag)] ++ unsigned16 r.delivered ++ [sideCode r.side])

/-- QUERY (R45). -/
def execQuery (p : Port) (tag : Byte) (s : State) : Host.Outcome State Fault Refusal :=
  takeCommand (.query p tag) (query p tag) s

end Sys2Proof.Machine
end

