-- ==== Sys2Proof/Machine/Excitation.lean ====
section
/-! DEFINITION. Excitation Control: EXCITE_VOTE (R134), SET_COMBINE (R135), SET_EXCITE_TIMING (R139), CLEAR_LOCKOUT (R143),
the expiries of an output's timers (R136, R137, R142) and the overcurrent trip (R140, R141). -/

namespace Sys2Proof.Machine

/-! ## EXCITE_VOTE (R134) -/

/-- A port's vote for the output takes a new value. -/
def OutputState.vote (o : OutputState) (p : Port) (on : Bool) : OutputState := { o with votes := o.votes.set p on }

def exciteVote (p : Port) (output vote : Byte) (s : State) : Answer :=
  match OutputId.ofCode output, boolOfCode vote with
  | some o, some on =>
    let after := s.rejudgeOutput o (·.vote p on)
    .accept after
      [o.code, boolCode on, boolCode (after.output o).combinedVote, (after.output o).state.code,
        unsigned8 (after.output o).tripCount]
  | _, _ => .refuse s .badField

/-- EXCITE_VOTE (R134). -/
def execExciteVote (p : Port) (output vote : Byte) (s : State) : Host.Outcome State Fault Refusal :=
  takeCommand (.exciteVote p output vote) (exciteVote p output vote) s

/-! ## SET_COMBINE (R135) -/

def setCombine (output mode designated : Byte) (s : State) : Answer :=
  match OutputId.ofCode output, combineOfCode mode, Port.ofCode designated with
  | some o, some combine, some port =>
    let after := s.rejudgeOutput o fun out => { out with combine, designated := port }
    .accept after
      [o.code, combine.code, port.code, boolCode (after.output o).combinedVote, (after.output o).state.code]
  | _, _, _ => .refuse s .badField

/-- SET_COMBINE (R135), supervisor-only. -/
def execSetCombine (p : Port) (output mode designated : Byte) (s : State) : Host.Outcome State Fault Refusal :=
  takeCommand (.setCombine p output mode designated) (setCombine output mode designated) s

/-! ## SET_EXCITE_TIMING (R139) -/

def setExciteTiming (output warmUp linger : Byte) (s : State) : Answer :=
  match OutputId.ofCode output with
  | none => .refuse s .badField
  | some o =>
    if warmUp = 0#8 then .refuse s .badField
    else
      .accept (s.modOutput o fun out => { out with warmUpTime := warmUp.toNat, lingerTime := linger.toNat })
        [o.code, warmUp, linger]

/-- SET_EXCITE_TIMING (R139), supervisor-only. -/
def execSetExciteTiming (p : Port) (output warmUp linger : Byte) (s : State) : Host.Outcome State Fault Refusal :=
  takeCommand (.setExciteTiming p output warmUp linger) (setExciteTiming output warmUp linger) s

/-! ## CLEAR_LOCKOUT (R143) -/

/-- A locked-out output cleared: OFF with trip count 0, then WARMING when demanded and the engine is not DOWN (R143). -/
def OutputState.cleared (o : OutputState) (down : Bool) : OutputState :=
  { o with state := .off, tripCount := 0 }.warmIfDemanded down

def clearLockout (output : Byte) (s : State) : Answer :=
  match OutputId.ofCode output with
  | none => .refuse s .badField
  | some o =>
    if (s.output o).state = .lockedOut then
      let after := s.modOutput o (·.cleared s.isDown)
      .accept after [o.code, (after.output o).state.code, unsigned8 (after.output o).tripCount]
    else .refuse s .notApplicable

/-- CLEAR_LOCKOUT (R143), supervisor-only. -/
def execClearLockout (p : Port) (output : Byte) (s : State) : Host.Outcome State Fault Refusal :=
  takeCommand (.clearLockout p output) (clearLockout output) s

/-! ## Timer expiries; with its timer stopped an expiry does not occur (log 1) -/

/-- WARM_UP_EXPIRY (R136): READY with its dwell timer, EXCITATION (READY) to all ports, and a kind-1 grant point (R53). -/
def execWarmUpExpiry (o : OutputId) (s : State) : Host.Outcome State Fault Refusal :=
  .next <|
    match (s.output o).state, (s.output o).warmUpTimer with
    | .warming, .running _ => ((s.modOutput o (·.becomeReady)).postAll (.excitation o .ready)).kick
    | _, _ => s

/-- LINGER_EXPIRY (R137): the output switches off, with no notice; demand that returns in the event warms it up (R136). -/
def execLingerExpiry (o : OutputId) (s : State) : Host.Outcome State Fault Refusal :=
  .next <|
    match (s.output o).state, (s.output o).lingerTimer with
    | .linger, .running _ => s.modOutput o fun out => out.switchOff.warmIfDemanded s.isDown
    | _, _ => s

/-- HOLD_OFF_EXPIRY (R142): a TRIPPED output becomes OFF, and WARMING when demanded and the engine is not DOWN. -/
def execHoldOffExpiry (o : OutputId) (s : State) : Host.Outcome State Fault Refusal :=
  .next <|
    match (s.output o).state, (s.output o).holdOffTimer with
    | .tripped, .running _ =>
      s.modOutput o fun out => { out with state := .off, holdOffTimer := .stopped }.warmIfDemanded s.isDown
    | _, _ => s

/-- READY_DWELL_EXPIRY (R137): the trip count returns to 0 and the timer stops. -/
def execReadyDwellExpiry (o : OutputId) (s : State) : Host.Outcome State Fault Refusal :=
  .next <|
    match (s.output o).state, (s.output o).dwellTimer with
    | .ready, .running _ => s.modOutput o fun out => { out with tripCount := 0, dwellTimer := .stopped }
    | _, _ => s

/-! ## OVERCURRENT_TRIP (R140, R141) -/

/-- The request's profile needs the output. -/
def State.needs (s : State) (o : OutputId) (r : Request) : Bool := (s.profile r.profile).need.get o

/-- The notices of a trip after its terminations: TRIPPED, then LOCKED_OUT when the count has reached 3 (R141). -/
def State.postTrip (s : State) (o : OutputId) : State :=
  let tripped := s.postAll (.excitation o .tripped)
  if (s.output o).state = .lockedOut then tripped.postAll (.excitation o .lockedOut) else tripped

/-- A trip (R140): the output, then every live request that needs it, then the demand, the notices, and last the freed
converter (R87). -/
def State.trip (s : State) (o : OutputId) : State :=
  let ended := (s.modOutput o (·.trip)).terminate .excitationFault (s.needs o)
  (ended.refreshDemand.postTrip o).afterTerminations (s.flightEnds (s.needs o))

/-- OVERCURRENT_TRIP (R140); an output that is switched off raises no overcurrent (R131). -/
def execOvercurrentTrip (o : OutputId) (s : State) : Host.Outcome State Fault Refusal :=
  .next (if (s.output o).switchedOn then s.trip o else s)

end Sys2Proof.Machine
end

