-- ==== Sys2Proof/Machine/Resets.lean ====
section
/-! DEFINITION. PORT_RESET (R175, R129) and DEVICE_RESET (R23, R47, R66, R90, R109, R128, R146, R148, R177). -/

namespace Sys2Proof.Machine

/-! ## PORT_RESET -/

/-- The request's source is the port. -/
def Request.isFrom (p : Port) (r : Request) : Bool := r.source = .port p

/-- The ring, notices, ring alert choice and credit of a resetting port (R66, R129 steps 2 to 4). -/
def PortState.cleared (ps : PortState) : PortState :=
  { ps.emptyRing.emptyNotices with ringAlert := false, credit := ps.weight }

/-- The other party of an offer, when the port is a party to it (R156). -/
def Offer.otherParty (o : Offer) (p : Port) : Option Port :=
  if o.offering = p then some o.target else if o.target = p then some o.offering else none

/-- A pending offer to which the port is a party is withdrawn, OFFER_WITHDRAWN to the other party (R156). -/
def State.withdrawFor (s : State) (p : Port) : State :=
  match s.offer with
  | none => s
  | some o =>
    match o.otherParty p with
    | none => s
    | some q => { s with offer := none, offerTimer := .stopped }.post q (.offerWithdrawn p)

/-- A port reset in the order of R129: the terminations; ring, notices and choice; the offer; the votes and the demand,
judged once (R146); the freed converter, with the end of a halt that awaited it; the ALERT line. -/
def State.resetPort (s : State) (p : Port) : State :=
  let ended := s.terminate .portReset (Request.isFrom p)
  let withdrawn := (ended.modPort p (·.cleared)).withdrawFor p
  let voted := withdrawn.handOverDemand (·.vote p false)
  let freed := if s.flightEnds (Request.isFrom p) then voted.freed false else voted
  freed.modPort p (·.judgeAlert)

def portReset (p : Port) (s : State) : Answer := .accept (s.resetPort p) []

/-- PORT_RESET (R175). -/
def execPortReset (p : Port) (s : State) : Host.Outcome State Fault Refusal :=
  takeCommand (.portReset p) (portReset p) s

/-! ## DEVICE_RESET -/

/-- DEVICE_RESET: every block at its value after device reset, the straps sampled; the commands and events that wait are
the model's own and stay (log 8). -/
def execDeviceReset (straps : Straps) (s : State) : Host.Outcome State Fault Refusal :=
  .next { State.resetWith straps with pending := s.pending }

end Sys2Proof.Machine
end

