-- ==== Sys2Proof/Machine/Results.lean ====
section
/-! DEFINITION. What a port reads: FETCH (R117), READ_NOTICES (R124), ALERT_CONFIG (R126), STATUS (R174). -/

namespace Sys2Proof.Machine

/-- A number field from 1 to a highest value (R117, R124). -/
def numberField (b : Byte) (highest : Nat) : Option Nat :=
  if 1 ≤ b.toNat ∧ b.toNat ≤ highest then some b.toNat else none

/-! ## FETCH (R117) -/

/-- The ring after a FETCH removed its oldest records, high-water and ALERT judged (R117). -/
def PortState.fetched (ps : PortState) (n : Nat) : PortState := { ps with ring := ps.ring.drop n }.rearm.judgeAlert

def fetch (p : Port) (n : Byte) (s : State) : Answer :=
  match numberField n 6 with
  | none => .refuse s .badField
  | some k =>
    .accept (s.modPort p (·.fetched k)).kick
      (unsigned8 ((s.port p).ring.take k).length :: ((s.port p).ring.take k).flatMap (·.bytes))

/-- FETCH (R117). -/
def execFetch (p : Port) (n : Byte) (s : State) : Host.Outcome State Fault Refusal :=
  takeCommand (.fetch p n) (fetch p n) s

/-! ## READ_NOTICES (R124) -/

/-- The notice queue after a read: the oldest removed, the lost flag cleared, ALERT judged (R124). -/
def PortState.noticesRead (ps : PortState) (n : Nat) : PortState :=
  { ps with notices := ps.notices.drop n, lost := false }.judgeAlert

def readNotices (p : Port) (n : Byte) (s : State) : Answer :=
  match numberField n 8 with
  | none => .refuse s .badField
  | some k =>
    .accept (s.modPort p (·.noticesRead k))
      ([boolCode (s.port p).lost, unsigned8 ((s.port p).notices.take k).length]
        ++ ((s.port p).notices.take k).flatMap (·.bytes))

/-- READ_NOTICES (R124). -/
def execReadNotices (p : Port) (n : Byte) (s : State) : Host.Outcome State Fault Refusal :=
  takeCommand (.readNotices p n) (readNotices p n) s

/-! ## ALERT_CONFIG (R126) -/

def alertConfig (p : Port) (choice : Byte) (s : State) : Answer :=
  match boolOfCode choice with
  | none => .refuse s .badField
  | some on => .accept (s.modPort p fun ps => { ps with ringAlert := on }.judgeAlert) [boolCode on]

/-- ALERT_CONFIG (R126). -/
def execAlertConfig (p : Port) (choice : Byte) (s : State) : Host.Outcome State Fault Refusal :=
  takeCommand (.alertConfig p choice) (alertConfig p choice) s

/-! ## STATUS (R174) -/

def status (p : Port) (s : State) : Answer := .accept s (s.statusBytes p)

/-- STATUS (R174). -/
def execStatus (p : Port) (s : State) : Host.Outcome State Fault Refusal := takeCommand (.status p) (status p) s

end Sys2Proof.Machine
end

