-- ==== Sys2Proof/Machine/Supervisor.lean ====
section
/-! DEFINITION. The supervisor's settings: SET_QUOTA (R33), SET_WEIGHT (R62), SET_AFFINITY (R65), SET_ALLOWANCE (R151),
SET_CAL_POLICY (R108); and the handover: HANDOVER_OFFER (R152), HANDOVER_ACCEPT (R153), OFFER_LAPSE (R154). -/

namespace Sys2Proof.Machine

/-! ## SET_QUOTA (R33) -/

/-- The port with a reserve and a ceiling. -/
def State.withQuota (s : State) (q : Port) (reserve ceiling : Nat) : State :=
  s.modPort q fun ps => { ps with reserve, ceiling }

def setQuota (target reserve ceiling : Byte) (s : State) : Answer :=
  match Port.ofCode target with
  | none => .refuse s .badField
  | some q =>
    if slotCount < reserve.toNat ∨ slotCount < ceiling.toNat then .refuse s .badField
    else if ceiling.toNat < reserve.toNat then .refuse s .quotaConflict
    else if ceiling.toNat < (s.port q).used then .refuse s .quotaConflict
    else if slotCount < (s.withQuota q reserve.toNat ceiling.toNat).admissionSum then .refuse s .quotaConflict
    else .accept (s.withQuota q reserve.toNat ceiling.toNat) [q.code, reserve, ceiling]

/-- SET_QUOTA (R33), supervisor-only. -/
def execSetQuota (p : Port) (target reserve ceiling : Byte) (s : State) : Host.Outcome State Fault Refusal :=
  takeCommand (.setQuota p target reserve ceiling) (setQuota target reserve ceiling) s

/-! ## SET_WEIGHT (R62) -/

/-- A new weight; a credit above it is lowered to it (R62). -/
def PortState.withWeight (ps : PortState) (weight : Nat) : PortState :=
  { ps with weight, credit := min ps.credit weight }

def setWeight (target weight : Byte) (s : State) : Answer :=
  match Port.ofCode target with
  | none => .refuse s .badField
  | some q =>
    if weight.toNat = 0 ∨ 8 < weight.toNat then .refuse s .badField
    else
      let after := s.modPort q (·.withWeight weight.toNat)
      .accept after [q.code, weight, signed8 (after.port q).credit]

/-- SET_WEIGHT (R62), supervisor-only. -/
def execSetWeight (p : Port) (target weight : Byte) (s : State) : Host.Outcome State Fault Refusal :=
  takeCommand (.setWeight p target weight) (setWeight target weight) s

/-! ## SET_AFFINITY (R65) -/

def setAffinity (limit : Byte) (s : State) : Answer :=
  if 15 < limit.toNat then .refuse s .badField
  else .accept (s.modArbiter fun a => { a with limit := limit.toNat }) [limit]

/-- SET_AFFINITY (R65), supervisor-only. -/
def execSetAffinity (p : Port) (limit : Byte) (s : State) : Host.Outcome State Fault Refusal :=
  takeCommand (.setAffinity p limit) (setAffinity limit) s

/-! ## SET_ALLOWANCE (R151) -/

def setAllowance (target allowance : Byte) (s : State) : Answer :=
  match Port.ofCode target with
  | none => .refuse s .badField
  | some q =>
    if 31 < allowance.toNat then .refuse s .badField
    else
      .accept (s.modPort q fun ps => { ps with allowance := allowance.toNat })
        [q.code, allowance, unsigned8 (s.port q).owned]

/-- SET_ALLOWANCE (R151), supervisor-only. -/
def execSetAllowance (p : Port) (target allowance : Byte) (s : State) : Host.Outcome State Fault Refusal :=
  takeCommand (.setAllowance p target allowance) (setAllowance target allowance) s

/-! ## SET_CAL_POLICY (R108) -/

/-- A new policy; a running interval timer restarts with the new interval (R108). -/
def Monitor.withPolicy (m : Monitor) (interval maxAge maxDelta : Nat) : Monitor :=
  { m with
    sampleInterval := interval, maxAge, maxDelta
    intervalTimer := match m.intervalTimer with | .stopped => .stopped | .running _ => .running (interval * 1000) }

def setCalPolicy (interval maxAge : Byte) (maxDelta : BitVec 16) (s : State) : Answer :=
  if interval.toNat = 0 ∨ maxAge.toNat = 0 ∨ maxDelta.toNat = 0 ∨ 2000 < maxDelta.toNat then .refuse s .badField
  else
    .accept (s.modMonitor (·.withPolicy interval.toNat maxAge.toNat maxDelta.toNat))
      ([interval, maxAge] ++ bytes16 maxDelta)

/-- SET_CAL_POLICY (R108), supervisor-only. -/
def execSetCalPolicy (p : Port) (interval maxAge : Byte) (maxDelta : BitVec 16) (s : State) :
    Host.Outcome State Fault Refusal :=
  takeCommand (.setCalPolicy p interval maxAge maxDelta) (setCalPolicy interval maxAge maxDelta) s

/-! ## The handover (R152 to R154) -/

/-- The offer deadline in milliseconds (R147). -/
def offerTime : Nat := 250

/-- An offer that is pending to a different target is withdrawn: OFFER_WITHDRAWN to that target (R152 step 1). -/
def State.withdrawOther (s : State) (p target : Port) : State :=
  match s.offer with
  | none => s
  | some o => if o.target ≠ target then s.post o.target (.offerWithdrawn p) else s

/-- The offer made: pending, its deadline started, OFFER to the target (R152 steps 1 to 4). -/
def State.makeOffer (s : State) (p target : Port) : State :=
  { (s.withdrawOther p target).post target (.offer p) with
    offer := some { offering := p, target }, offerTimer := .running offerTime }

def handoverOffer (p : Port) (target : Byte) (s : State) : Answer :=
  match Port.ofCode target with
  | none => .refuse s .badField
  | some q =>
    if q = s.supervisor then .refuse s .badField
    else .accept (s.makeOffer p q) [q.code, optionalPortCode (s.offer.map (·.target))]

/-- HANDOVER_OFFER (R152), supervisor-only. -/
def execHandoverOffer (p : Port) (target : Byte) (s : State) : Host.Outcome State Fault Refusal :=
  takeCommand (.handoverOffer p target) (handoverOffer p target) s

/-- The rights move to the accepting port and the offer is cleared, SUPERVISOR to all ports (R153). -/
def State.handOver (s : State) (p : Port) : State :=
  { s with supervisor := p, offer := none, offerTimer := .stopped }.postAll (.supervisor p)

def handoverAccept (p : Port) (s : State) : Answer :=
  match s.offer with
  | none => .refuse s .noOffer
  | some o => if o.target = p then .accept (s.handOver p) [p.code, s.supervisor.code] else .refuse s .noOffer

/-- HANDOVER_ACCEPT (R153). -/
def execHandoverAccept (p : Port) (s : State) : Host.Outcome State Fault Refusal :=
  takeCommand (.handoverAccept p) (handoverAccept p) s

/-- OFFER_LAPSE (R154): the deadline of a pending offer expires; with none it does not occur (log 1). -/
def execOfferLapse (s : State) : Host.Outcome State Fault Refusal :=
  .next <|
    match s.offer, s.offerTimer with
    | some o, .running _ => { s with offer := none, offerTimer := .stopped }.post o.offering (.offerLapsed o.target)
    | _, _ => s

end Sys2Proof.Machine
end

