-- ==== Sys2Proof/Machine/Transactions.lean ====
section
/-! DEFINITION. TRANSACTION_OPEN (R167, R169, R171, R172): the close of the transaction that an opening ends, with the
command its bytes carry, and the new transaction. -/

namespace Sys2Proof.Machine

/-! ## The close that an opening makes -/

/-- The command that the bytes of a closing transaction carry, by its own meaning; no event of the table is carried so. -/
def takeCarried (i : Instr) (s : State) : Host.Outcome State Fault Refusal :=
  match i with
  | .nop p => execNop p s
  | .status p => execStatus p s
  | .portReset p => execPortReset p s
  | .alertConfig p choice => execAlertConfig p choice s
  | .profileClaim p wanted => execProfileClaim p wanted s
  | .profileWrite p fields => execProfileWrite p fields s
  | .profileRead p number => execProfileRead p number s
  | .profileShare p number share => execProfileShare p number share s
  | .profileRetire p number => execProfileRetire p number s
  | .profileRelease p number => execProfileRelease p number s
  | .submit p fields => execSubmit p fields s
  | .cancel p tag => execCancel p tag s
  | .query p tag => execQuery p tag s
  | .fetch p n => execFetch p n s
  | .readNotices p n => execReadNotices p n s
  | .exciteVote p output vote => execExciteVote p output vote s
  | .engineStart p => execEngineStart p s
  | .engineHalt p => execEngineHalt p s
  | .setQuota p target reserve ceiling => execSetQuota p target reserve ceiling s
  | .setWeight p target weight => execSetWeight p target weight s
  | .setAffinity p limit => execSetAffinity p limit s
  | .setAllowance p target allowance => execSetAllowance p target allowance s
  | .setCombine p output mode designated => execSetCombine p output mode designated s
  | .setExciteTiming p output warmUp linger => execSetExciteTiming p output warmUp linger s
  | .clearLockout p output => execClearLockout p output s
  | .setCalPolicy p interval maxAge maxDelta => execSetCalPolicy p interval maxAge maxDelta s
  | .forceRelease p number => execForceRelease p number s
  | .handoverOffer p target => execHandoverOffer p target s
  | .handoverAccept p => execHandoverAccept p s
  | .frameError _ _ | .unknownCommand _ _ | .emptyTransaction _ _ | .busTimeout | .deviceReset _ | .startTimerExpiry
  | .intervalTimerExpiry | .outputPeriodEnd _ _ | .warmUpExpiry _ | .lingerExpiry _ | .holdOffExpiry _
  | .readyDwellExpiry _ | .overcurrentTrip _ | .offerLapse | .transactionOpen _ => .next s

/-- The close of the transaction at a port on the bytes it has received (R163, R160, R171); a port with none open is left
closed. -/
def State.closeOnBytes (s : State) (p : Port) : Host.Outcome State Fault Refusal :=
  match s.judgeClose p [] with
  | .command i => takeCarried i s
  | .noFrame => .next (s.answerVerdict p .noFrame)
  | .frameError first => .next (s.answerVerdict p (.frameError first))
  | .unknownCommand code => .next (s.answerVerdict p (.unknownCommand code))

/-- What follows in the same event, where the outcome is a next state. -/
def followedBy (outcome : Host.Outcome State Fault Refusal) (f : State → State) : Host.Outcome State Fault Refusal :=
  match outcome with
  | .next t => .next (f t)
  | .fault r => .fault r
  | .refused r => .refused r

/-! ## The opening -/

/-- What an edge of SCL does to the bus timer while port C takes part in a transaction: it restarts at a falling edge and
stops at a rising one (R173). -/
def timerAtEdge : ClockEdge → Timer
  | .falling => .running busTimeoutTime
  | .rising => .stopped

/-- The bus timer after these edges of SCL. Port C acknowledges its address while SCL is low, so the timer runs from there
(R169, R173; log 15). -/
def busTimerAfter (edges : List ClockEdge) : Timer := edges.foldl (fun _ e => timerAtEdge e) (.running busTimeoutTime)

/-- A transaction opens at a port: the held response is latched (R167, R172). -/
def State.openTransaction (s : State) (p : Port) (read : Bool) (received : List Byte) (acknowledged : Nat) : State :=
  s.modPort p fun ps => { ps with transaction := .opened { read, received, latched := ps.holder, acknowledged } }

/-- TRANSACTION_OPEN (R167, R169, R171, R172). An opening finds the port's former transaction closed or closes it, and its
bytes are judged then: at a repeated START by R171. A chip select that falls must have risen before (R167), and where the
transaction still stands open here the row implies that rise (the model's choice, log 9). Port C takes part in a new
transaction at its own address alone. -/
def execTransactionOpen (opening : Opening) (s : State) : Host.Outcome State Fault Refusal :=
  match opening with
  | .chipSelectA received => followedBy (s.closeOnBytes .a) (·.openTransaction .a false received 0)
  | .chipSelectB received => followedBy (s.closeOnBytes .b) (·.openTransaction .b false received 0)
  | .start address read received edges =>
    followedBy (s.closeOnBytes .c) fun ended =>
      if address = s.targetAddress then
        { ended.openTransaction .c read received (acknowledgedBytes received) with busTimer := busTimerAfter edges }
      else ended

end Sys2Proof.Machine
end

