-- ==== Sys2Proof/Machine/Dispatch.lean ====
section
/-! DEFINITION. The meaning of each command and event: one arm for each constructor of `Instr`. -/

namespace Sys2Proof.Machine

def exec (i : Instr) (s : State) : Host.Outcome State Fault Refusal :=
  match i with
  | .nop p => Sys2Proof.Machine.execNop p s
  | .status p => Sys2Proof.Machine.execStatus p s
  | .portReset p => Sys2Proof.Machine.execPortReset p s
  | .alertConfig p choice => Sys2Proof.Machine.execAlertConfig p choice s
  | .profileClaim p wanted => Sys2Proof.Machine.execProfileClaim p wanted s
  | .profileWrite p fields => Sys2Proof.Machine.execProfileWrite p fields s
  | .profileRead p number => Sys2Proof.Machine.execProfileRead p number s
  | .profileShare p number share => Sys2Proof.Machine.execProfileShare p number share s
  | .profileRetire p number => Sys2Proof.Machine.execProfileRetire p number s
  | .profileRelease p number => Sys2Proof.Machine.execProfileRelease p number s
  | .submit p fields => Sys2Proof.Machine.execSubmit p fields s
  | .cancel p tag => Sys2Proof.Machine.execCancel p tag s
  | .query p tag => Sys2Proof.Machine.execQuery p tag s
  | .fetch p n => Sys2Proof.Machine.execFetch p n s
  | .readNotices p n => Sys2Proof.Machine.execReadNotices p n s
  | .exciteVote p output vote => Sys2Proof.Machine.execExciteVote p output vote s
  | .engineStart p => Sys2Proof.Machine.execEngineStart p s
  | .engineHalt p => Sys2Proof.Machine.execEngineHalt p s
  | .setQuota p target reserve ceiling => Sys2Proof.Machine.execSetQuota p target reserve ceiling s
  | .setWeight p target weight => Sys2Proof.Machine.execSetWeight p target weight s
  | .setAffinity p limit => Sys2Proof.Machine.execSetAffinity p limit s
  | .setAllowance p target allowance => Sys2Proof.Machine.execSetAllowance p target allowance s
  | .setCombine p output mode designated => Sys2Proof.Machine.execSetCombine p output mode designated s
  | .setExciteTiming p output warmUp linger => Sys2Proof.Machine.execSetExciteTiming p output warmUp linger s
  | .clearLockout p output => Sys2Proof.Machine.execClearLockout p output s
  | .setCalPolicy p interval maxAge maxDelta => Sys2Proof.Machine.execSetCalPolicy p interval maxAge maxDelta s
  | .forceRelease p number => Sys2Proof.Machine.execForceRelease p number s
  | .handoverOffer p target => Sys2Proof.Machine.execHandoverOffer p target s
  | .handoverAccept p => Sys2Proof.Machine.execHandoverAccept p s
  | .frameError p rest => Sys2Proof.Machine.execFrameError p rest s
  | .unknownCommand p rest => Sys2Proof.Machine.execUnknownCommand p rest s
  | .emptyTransaction p rest => Sys2Proof.Machine.execEmptyTransaction p rest s
  | .busTimeout => Sys2Proof.Machine.execBusTimeout s
  | .deviceReset straps => Sys2Proof.Machine.execDeviceReset straps s
  | .startTimerExpiry => Sys2Proof.Machine.execStartTimerExpiry s
  | .intervalTimerExpiry => Sys2Proof.Machine.execIntervalTimerExpiry s
  | .outputPeriodEnd raw overload => Sys2Proof.Machine.execOutputPeriodEnd raw overload s
  | .warmUpExpiry o => Sys2Proof.Machine.execWarmUpExpiry o s
  | .lingerExpiry o => Sys2Proof.Machine.execLingerExpiry o s
  | .holdOffExpiry o => Sys2Proof.Machine.execHoldOffExpiry o s
  | .readyDwellExpiry o => Sys2Proof.Machine.execReadyDwellExpiry o s
  | .overcurrentTrip o => Sys2Proof.Machine.execOvercurrentTrip o s
  | .offerLapse => Sys2Proof.Machine.execOfferLapse s
  | .transactionOpen opening => Sys2Proof.Machine.execTransactionOpen opening s

end Sys2Proof.Machine
end

