-- ==== Sys2Proof/Safety.lean ====
section
/-! DEFINITION. The laws that the manual states of the whole machine, as predicates of a state, and the words in which the
statements of Certificates/Slice0/Obligations.lean speak of a command's answer and of what it leaves alone. -/

namespace Sys2Proof

/-! ## Commands and events -/

/-- The port whose bus an opening is on (R167, R169). -/
def Opening.port : Opening → Port
  | .chipSelectA _ => .a
  | .chipSelectB _ => .b
  | .start _ _ _ _ => .c

/-- The port at which a command or event of the table arrives; `none` for an event inside the ET316. -/
def Instr.port? : Instr → Option Port
  | .nop p | .status p | .portReset p | .alertConfig p _ | .profileClaim p _ | .profileWrite p _ | .profileRead p _
  | .profileShare p _ _ | .profileRetire p _ | .profileRelease p _ | .submit p _ | .cancel p _ | .query p _ | .fetch p _
  | .readNotices p _ | .exciteVote p _ _ | .engineStart p | .engineHalt p | .setQuota p _ _ _ | .setWeight p _ _
  | .setAffinity p _ | .setAllowance p _ _ | .setCombine p _ _ _ | .setExciteTiming p _ _ _ | .clearLockout p _
  | .setCalPolicy p _ _ _ | .forceRelease p _ | .handoverOffer p _ | .handoverAccept p | .frameError p _
  | .unknownCommand p _ | .emptyTransaction p _ => some p
  | .busTimeout => some .c
  | .transactionOpen opening => some opening.port
  | .deviceReset _ | .startTimerExpiry | .intervalTimerExpiry | .outputPeriodEnd _ _ | .warmUpExpiry _ | .lingerExpiry _
  | .holdOffExpiry _ | .readyDwellExpiry _ | .overcurrentTrip _ | .offerLapse => none

/-- The command is DEVICE_RESET. -/
def Instr.isDeviceReset : Instr → Bool
  | .deviceReset _ => true
  | .nop _ | .status _ | .portReset _ | .alertConfig _ _ | .profileClaim _ _ | .profileWrite _ _ | .profileRead _ _
  | .profileShare _ _ _ | .profileRetire _ _ | .profileRelease _ _ | .submit _ _ | .cancel _ _ | .query _ _ | .fetch _ _
  | .readNotices _ _ | .exciteVote _ _ _ | .engineStart _ | .engineHalt _ | .setQuota _ _ _ _ | .setWeight _ _ _
  | .setAffinity _ _ | .setAllowance _ _ _ | .setCombine _ _ _ _ | .setExciteTiming _ _ _ _ | .clearLockout _ _
  | .setCalPolicy _ _ _ _ | .forceRelease _ _ | .handoverOffer _ _ | .handoverAccept _ | .frameError _ _
  | .unknownCommand _ _ | .emptyTransaction _ _ | .busTimeout | .startTimerExpiry | .intervalTimerExpiry
  | .outputPeriodEnd _ _ | .warmUpExpiry _ | .lingerExpiry _ | .holdOffExpiry _ | .readyDwellExpiry _
  | .overcurrentTrip _ | .offerLapse | .transactionOpen _ => false

/-- The commands of the table of R149, with the port each came in on. -/
def Instr.supervisorOnly : Instr → Option Port
  | .engineStart p | .engineHalt p | .setQuota p _ _ _ | .setWeight p _ _ | .setAffinity p _ | .setAllowance p _ _
  | .setCombine p _ _ _ | .setExciteTiming p _ _ _ | .clearLockout p _ | .setCalPolicy p _ _ _ | .forceRelease p _
  | .handoverOffer p _ => some p
  | .nop _ | .status _ | .portReset _ | .alertConfig _ _ | .profileClaim _ _ | .profileWrite _ _ | .profileRead _ _
  | .profileShare _ _ _ | .profileRetire _ _ | .profileRelease _ _ | .submit _ _ | .cancel _ _ | .query _ _ | .fetch _ _
  | .readNotices _ _ | .exciteVote _ _ _ | .handoverAccept _ | .frameError _ _ | .unknownCommand _ _
  | .emptyTransaction _ _ | .busTimeout | .deviceReset _ | .startTimerExpiry | .intervalTimerExpiry
  | .outputPeriodEnd _ _ | .warmUpExpiry _ | .lingerExpiry _ | .holdOffExpiry _ | .readyDwellExpiry _
  | .overcurrentTrip _ | .offerLapse | .transactionOpen _ => none

namespace Machine

/-! ## Answers -/

/-- The state with a port's transaction closed, and port C's bus timer at rest with it (R159, R173). -/
def State.closedAt (s : State) (p : Port) : State :=
  { s with
    ports := s.ports.set p { s.ports.get p with transaction := .closed }
    busTimer := if p = .c then .stopped else s.busTimer }

/-- The state with a command of a port answered: its transaction closed and its holder holding the response (R160, R165). -/
def State.answered (s : State) (p : Port) (status : Status) (code : Byte) (payload : List Byte) : State :=
  { s with
    ports := s.ports.set p { s.ports.get p with transaction := .closed, holder := .make status code payload }
    busTimer := if p = .c then .stopped else s.busTimer }

/-- The bytes that a port's open transaction has received from the host; none where it is closed, and none in a read
(R172). -/
def State.receivedAt (s : State) (p : Port) : List Byte :=
  match (s.port p).transaction with
  | .closed => []
  | .opened t => if t.read then [] else t.received

/-- The port's transaction, closed or open, has received no byte of a frame yet (R163, R168): the close that the row of a
command makes brings the whole frame. -/
abbrev State.AwaitsFrame (s : State) (p : Port) : Prop := judge p (s.receivedAt p) = .noFrame

/-- `u` is `s` after the close of a port's transaction on the bytes it has received (R160, R163, R171). -/
def State.ClosesTo (s u : State) (p : Port) : Prop :=
  match judge p (s.receivedAt p) with
  | .noFrame => u = s.closedAt p
  | .frameError first => u = s.answered p .frameError first []
  | .unknownCommand code => u = s.answered p .unknownCommand code []
  | .command i => exec i s = .next u

/-- The command or event whose effect the row `i` has on the blocks behind the ports: the command that the bytes of the
transaction carry which an opening closes (R171), and the row itself otherwise. -/
def State.performed (s : State) (i : Instr) : Instr :=
  match i with
  | .transactionOpen opening =>
    match judge opening.port (s.receivedAt opening.port) with
    | .command j => j
    | _ => i
  | _ => i

/-- A port's notice queue from `s` to `t`: the new notices joined in order as far as 8 places go, and the lost flag is set
when one did not fit (R123). -/
def State.Posts (s t : State) (q : Port) (new : List Notice) : Prop :=
  (t.port q).notices = ((s.port q).notices ++ new).take 8 ∧
    ((t.port q).lost = true ↔ (s.port q).lost = true ∨ 8 < (s.port q).notices.length + new.length)

/-- The REQUEST_ENDED notices of a port's requests that end, in queue order (R30). -/
def PortState.endNotices (ps : PortState) (reason : Reason) (ends : Request → Bool) : List Notice :=
  (ps.queue.filter ends).filterMap fun r => r.tag.map fun tag => .requestEnded tag reason

/-- The tags of a port's queue, head first. -/
def PortState.tags (ps : PortState) : List (Option Byte) := ps.queue.map (·.tag)

/-- The entries of a port's queue, head first, but for the mark of which one is in flight. -/
def PortState.entries (ps : PortState) : List Request := ps.queue.map fun r => { r with state := .queued }

/-- The end of every live request that `ends` selects completes the retire of a profile: it is RETIRING and left with
none (R9). -/
def State.retireCompletes (s : State) (ends : Request → Bool) (n : Fin 32) : Bool :=
  decide ((s.profile n).state = .retiring) && (s.live.any fun r => decide (r.profile = n) && ends r) &&
    s.live.all fun r => !decide (r.profile = n) || ends r

/-- The PROFILE_RETIRED notices to a port when every live request that `ends` selects has ended: one for each of its
RETIRING profiles that is left with none, in ascending number (R9, R30, R141). -/
def State.retireNotices (s : State) (q : Port) (ends : Request → Bool) : List Notice :=
  (List.finRange 32).filterMap fun n =>
    if s.retireCompletes ends n = true ∧ (s.profile n).owner = some (.port q) then some (.profileRetired n) else none

/-- A profile after the end of every live request that `ends` selects: its reference count is that of the others, and a
retire that they held open is complete (R8, R9). -/
def State.profileAfter (s : State) (ends : Request → Bool) (n : Fin 32) : Profile :=
  { s.profile n with
    refCount := s.live.countP fun r => decide (r.profile = n) && !ends r
    state := if s.retireCompletes ends n then .claimed else (s.profile n).state }

/-- ENGINE (DOWN), where the event ends a halt. -/
def downNotice (ended : Bool) : List Notice := if ended then [.engine .down] else []

/-- An output's loss or gain of demand in one event (R136, R137), from the states of §7.3. -/
def OutputState.afterDemand (o : OutputState) (now down : Bool) : OutputState :=
  match o.state, now with
  | .off, true => if down then o else { o with state := .warming, warmUpTimer := .running o.warmUpTime }
  | .warming, false =>
    { o with state := .off, warmUpTimer := .stopped, lingerTimer := .stopped, dwellTimer := .stopped }
  | .ready, false =>
    if o.lingerTime = 0 then
      { o with state := .off, warmUpTimer := .stopped, lingerTimer := .stopped, dwellTimer := .stopped }
    else { o with state := .linger, lingerTimer := .running o.lingerTime, dwellTimer := .stopped }
  | .linger, true =>
    { o with state := .ready, warmUpTimer := .stopped, lingerTimer := .stopped, dwellTimer := .running 1000 }
  | _, _ => o

/-- An output switched off by an entry to DOWN (R138). -/
def OutputState.inDown (o : OutputState) : OutputState :=
  match o.state with
  | .warming | .ready | .linger =>
    { o with state := .off, warmUpTimer := .stopped, lingerTimer := .stopped, dwellTimer := .stopped }
  | .off | .tripped | .lockedOut => o

/-- An output after the end of every live request that `ends` selects and a change `f` of its votes in the same event: the
demand from requests is that of the others, and the output moves where its demand changes (R46, R132, R136, R137). -/
def State.outputAfter (s : State) (ends : Request → Bool) (f : OutputState → OutputState) (o : OutputId) : OutputState :=
  let now : OutputState :=
    { f (s.output o) with requestDemand := s.live.any fun r => !ends r && (s.profile r.profile).need.get o }
  if now.demand = (s.output o).demand then now else now.afterDemand now.demand s.isDown

/-- The engine as every entry to DOWN leaves it, with nothing in flight (R72). -/
def Engine.inDown : Engine :=
  { state := .down, startTimer := .stopped, loaded := none, progress := 0, inFlight := none, step := none, held := .none,
    marks := [] }

/-- The converter's work and the arbiter stand: the engine, the credits, the pointer, the streak and the affinity limit. -/
def State.ConverterStands (s t : State) : Prop :=
  t.engine = s.engine ∧ t.arbiter = s.arbiter ∧ ∀ q, (t.port q).credit = (s.port q).credit

/-- A halt ends in DOWN after an abandonment: the engine is cleared, and the arbiter and the credits stand (R72, R87). -/
def State.HaltEnds (s t : State) : Prop :=
  t.engine = .inDown ∧ t.monitor.intervalTimer = .stopped ∧ t.arbiter = s.arbiter ∧
    ∀ q, (t.port q).credit = (s.port q).credit

/-- The delivered count of a request after one more result (R82). -/
def Request.deliveredNext (r : Request) : Nat := if r.count = 0 then min (r.delivered + 1) 65535 else r.delivered + 1

/-- The request ends at its next result (R82, R16). -/
def Request.lastNext (r : Request) : Bool := r.finalMark || (r.count ≠ 0 && r.delivered + 1 = r.count)

/-- The side of a window on which a value lies (R81). -/
def Window.side (w : Window) (v : Int) : WindowSide :=
  if v < w.low then .below else if w.high < v then .above else .inside

/-- The WINDOW notice of a result: its side is BELOW or ABOVE and another than before (R81). -/
def Request.windowNotices (r : Request) (v : Int) : List Notice :=
  match r.tag, r.window, r.side with
  | some tag, some w, some old =>
    if w.side v ≠ old ∧ w.side v ≠ .inside then [.window tag (w.side v)] else []
  | _, _, _ => []

/-- The RING_HIGH notice of a result write (R119). -/
def PortState.highNotices (ps : PortState) : List Notice :=
  if ps.highWater = .armed ∧ ps.ring.length = 11 then [.ringHigh 12] else []

/-- The high-water state after a result write: the write that brings the entries to 12 leaves it FIRED (R119). -/
def PortState.highAfter (ps : PortState) : HighWater := if ps.ring.length = 11 then .fired else ps.highWater

/-- The credits from `s` to `t` when a result of `payer` costs one credit, and a grant point, where one follows, may raise
every credit by `k` weights up to its weight (R56, R61). -/
def State.Charges (s t : State) (payer : Option Port) (granting : Bool) : Prop :=
  ∃ k : Nat, (granting = false → k = 0) ∧ ∀ q,
    let charged := (s.port q).credit - if payer = some q then 1 else 0
    (t.port q).credit =
      if ((s.port q).weight : Int) < charged + k * (s.port q).weight then ((s.port q).weight : Int)
      else charged + k * (s.port q).weight

/-- An overload in the filter span of the output of a period that ends with the given mark (R80). -/
def Engine.overloadSpan (e : Engine) (l : LoadedSetup) (overload : Bool) : Bool :=
  ((overload :: e.marks).take l.setup.order.toNat).any id

/-- `u` is the state in which an event that began in `s` takes the grant point of a freed converter (R52, R87 step 5):
nothing is in flight and nothing held, with the given settle progress and overload marks; the loaded setup and the arbiter
stand; the credits and the monitor are the given ones; no place is reserved, every live request is QUEUED, and the setups,
methods and needs of their profiles stand. -/
def State.FreedTo (s u : State) (progress : Nat) (marks : List Bool) (monitor : Monitor) (credit : Port → Int) : Prop :=
  u.engine = { s.engine with progress := progress, marks := marks, inFlight := none, step := none, held := .none } ∧
    u.arbiter = s.arbiter ∧ u.monitor = monitor ∧
    (∀ q, (u.port q).credit = credit q ∧ (u.port q).weight = (s.port q).weight ∧ (u.port q).reservations = 0) ∧
    ∀ r ∈ u.live, r.state = .queued ∧ (u.profile r.profile).setup = (s.profile r.profile).setup ∧
      (u.profile r.profile).method = (s.profile r.profile).method ∧ (u.profile r.profile).need = (s.profile r.profile).need

/-- `u` is `s` after the output period that ended the turn of the request in flight: the period counts into the settle
progress of the loaded setup `l` and its mark stands, and a result has cost `payer` one credit (R61, R74, R75). -/
def State.TurnEndsAt (s u : State) (l : LoadedSetup) (overload : Bool) (monitor : Monitor) (payer : Option Port) : Prop :=
  s.FreedTo u (min (s.engine.progress + 1) (l.setup.order.toNat - 1)) ((overload :: s.engine.marks).take 4) monitor
    fun q => (s.port q).credit - if payer = some q then 1 else 0

/-- `u` is `s` after the abandonment of the request in flight with the end of every request that `ends` selects: a settle
break, which no one pays for (R61, R87). -/
def State.AbandonsAt (s u : State) (ends : Request → Bool) (credit : Port → Int) : Prop :=
  s.FreedTo u 0 [] { s.monitor with queue := s.monitor.queue.filter (!ends ·) } credit

/-- A MEASURE result of the request at the head of port `p` has been delivered (R82, R114, R81, R119, R35, R61): the record
in the ring, the high-water state, the queue after the turn, the cost, and the notices of the event. -/
def State.DeliversResult (s t : State) (p : Port) (r : Request) (tag : Byte) (value : Int) (flags : ResultFlags) : Prop :=
  let last := r.lastNext
  let judged : ResultFlags :=
    { flags with
      last := last
      windowLow := (r.window.map (·.side value)) = some .below
      windowHigh := (r.window.map (·.side value)) = some .above }
  let record : ResultRecord :=
    { tag, profile := r.profile, sequence := (s.port p).nextSeq, index := unsigned8 r.deliveredNext, flags := judged, value }
  let turned : Request :=
    { r with state := .queued, delivered := r.deliveredNext, side := r.window.map (·.side value) }
  (t.port p).ring = (s.port p).ring ++ [record] ∧ (t.port p).nextSeq = (s.port p).nextSeq + 1 ∧
    (t.port p).highWater = (s.port p).highAfter ∧
    (t.port p).entries =
      (if last then (s.port p).entries.tail
       else match r.run with
         | .contiguous => turned :: (s.port p).entries.tail
         | .interleaved => (s.port p).entries.tail ++ [turned]) ∧
    s.Charges t (some p) (decide (s.engine.state = .running) && (last || decide (r.run = .interleaved))) ∧
    (∀ q, q ≠ p → (t.port q).ring = (s.port q).ring ∧ (t.port q).highWater = (s.port q).highWater ∧
      (t.port q).entries = (s.port q).entries) ∧
    (∀ n, t.profile n = if last then s.profileAfter (fun x => decide (x.state = .inFlight)) n else s.profile n) ∧
    ∀ q, s.Posts t q ((if q = p then (s.port p).highNotices ++ r.windowNotices value else []) ++
      (if last = true ∧ (s.profile r.profile).refCount = 1 ∧ (s.profile r.profile).state = .retiring ∧
          (s.profile r.profile).owner = some (.port q) then [.profileRetired r.profile] else []) ++
      downNotice (s.engine.state = .halting))

/-- What an ageing pass makes of an offset record (R99, R100). -/
def OffsetRecord.afterPass (r : OffsetRecord) (m : Monitor) : OffsetRecord :=
  { r with
    age := min 255 (r.age + 1)
    stale := r.stale || decide (m.maxAge < min 255 (r.age + 1)) ||
      decide (m.maxDelta < (m.temperature - r.calTemperature).natAbs) }

/-- The OFFSET_STALE notice of an ageing pass for a record that was not stale (R100). -/
def OffsetRecord.onsetNotice (r : OffsetRecord) (m : Monitor) (n : Fin 32) : Option Notice :=
  if r.stale then none
  else if m.maxAge < min 255 (r.age + 1) then
    some (.offsetStale n (if m.maxDelta < (m.temperature - r.calTemperature).natAbs then .both else .age))
  else if m.maxDelta < (m.temperature - r.calTemperature).natAbs then some (.offsetStale n .temperature)
  else none

/-- The OFFSET_STALE notices of an ageing pass to a port, in ascending profile number (R100). -/
def State.staleNotices (s : State) (q : Port) : List Notice :=
  (List.finRange 32).filterMap fun n =>
    if (s.profile n).owner = some (.port q) then (s.profile n).record.bind (·.onsetNotice s.monitor n) else none

/-- A profile qualifies for an automatic ZERO in an ageing pass (R102, R38). -/
def State.qualifies (s : State) (n : Fin 32) : Bool :=
  ((s.profile n).record.any fun r => (r.afterPass s.monitor).stale) && decide ((s.profile n).state = .active) &&
    (s.profile n).autoRecal &&
    (!s.monitor.queue.any fun r => decide (r.kind = .zero ∧ r.profile = n)) &&
    !((s.profile n).need.exa && decide ((s.output .exa).state = .lockedOut)) &&
    !((s.profile n).need.exb && decide ((s.output .exb).state = .lockedOut))

/-- The automatic ZEROs that an ageing pass places: the qualifying profiles, lowest first, as far as two ZERO places go
(R102, R37). -/
def State.placedZeros (s : State) : List Request :=
  (((List.finRange 32).filter s.qualifies).take (2 - s.monitor.queue.countP fun r => decide (r.kind = .zero))).map fun n =>
    { source := .monitor, tag := none, profile := n, kind := .zero, count := 1, run := .contiguous, window := none,
      state := .queued, delivered := 0, side := none, finalMark := false }

/-! ## Ports (R121, R123, R127, R161, R165) -/

/-- A response whose CRC is right and whose payload fits its frame (R161, R162). -/
def Response.sound (r : Response) : Prop :=
  r.crc = crc8 (r.status.code :: r.code :: unsigned8 r.payload.length :: r.payload) ∧ r.payload.length ≤ 60

/-- Every holder and every latched frame is a sound response. -/
def State.HoldersSound (s : State) : Prop :=
  ∀ p, (s.port p).holder.sound ∧ ∀ t, (s.port p).transaction = .opened t → t.latched.sound

/-- No notice queue holds more than 8 notices, a set lost flag goes with a full queue, and the ALERT line stands as R127
judges it. -/
def State.NoticesSound (s : State) : Prop :=
  ∀ p, (s.port p).notices.length ≤ 8 ∧ ((s.port p).lost = true → (s.port p).notices.length = 8) ∧
    ((s.port p).alertLow = true ↔
      (s.port p).notices ≠ [] ∨ ((s.port p).ringAlert = true ∧ (s.port p).ring ≠ []))

/-- Consecutive sequence numbers up to a ring's next one (R114, R116). -/
def State.SequencesRun (s : State) : Prop :=
  ∀ p (k : Nat) (r : ResultRecord), (s.port p).ring[k]? = some r →
    r.sequence + BitVec.ofNat 16 ((s.port p).ring.length - k) = (s.port p).nextSeq

/-- A value in −4,194,303 … +4,194,303 (R112). -/
def InResultRange (v : Int) : Prop := -4194303 ≤ v ∧ v ≤ 4194303

/-- The combinations of R113. -/
def ResultFlags.allowed (f : ResultFlags) : Prop :=
  ¬ (f.offsetStale = true ∧ f.offsetAbsent = true) ∧ ¬ (f.windowLow = true ∧ f.windowHigh = true) ∧
    (f.zero = true → f.last = true ∧ f.offsetStale = false ∧ f.offsetAbsent = false ∧ f.windowLow = false
      ∧ f.windowHigh = false)

/-- Every ring's records are in range with flags of R113, every offset value is in range (R4), and so is the held sum of a
ZERO for the number of outputs in it (R67). -/
def State.ResultsSound (s : State) : Prop :=
  (∀ p, ∀ r ∈ (s.port p).ring, InResultRange r.value ∧ r.flags.allowed) ∧
  (∀ n r, (s.profile n).record = some r → InResultRange r.value) ∧
  (∀ sum number overload, s.engine.held = .average sum number overload →
    number ≤ 3 ∧ -(number * 4194303 : Int) ≤ sum ∧ sum ≤ number * 4194303)

/-! ## Profiles and requests (R1, R2, R4, R5, R7, R8, R21, R31, R34, R37, R46) -/

/-- The conditions of R2 on a profile's fields. -/
def Profile.consistent (profile : Profile) : Prop :=
  profile.setup.negative ≠ profile.setup.positive ∧
    (profile.setup.reference = .ratioA → profile.need.exa = true) ∧
    (profile.setup.reference = .ratioB → profile.need.exb = true) ∧
    (profile.autoRecal = true → profile.method = .stored)

/-- Every user profile is consistent (R2), and profile 0 has the fixed contents of R5; that its record is absent is a clause
of `State.RecordsSound`. -/
def State.ProfilesSound (s : State) : Prop :=
  (∀ n : Fin 32, n ≠ 0 → (s.profile n).consistent) ∧
    { s.profile 0 with refCount := 0, record := none } = Profile.dieTemperature

/-- A user profile has no owner exactly while it is FREE, and then holds the default contents (R7); a port alone owns one,
and its share set leaves the owner out (R1); a port's owned count is the number of user profiles it owns (R21). -/
def State.OwnersSound (s : State) : Prop :=
  (∀ n : Fin 32, n ≠ 0 →
    ((s.profile n).state = .free ↔ (s.profile n).owner = none) ∧ (s.profile n).owner ≠ some .monitor ∧
      ((s.profile n).state = .free → s.profile n = Profile.default) ∧
      ∀ p, (s.profile n).owner = some (.port p) → (s.profile n).share.get p = false) ∧
  ∀ p, (s.port p).owned =
    (List.finRange 32).countP fun n => decide (n ≠ 0) && decide ((s.profile n).owner = some (.port p))

/-- Reference counts count live requests (R8), and a FREE or CLAIMED profile has none (R7). -/
def State.ReferencesCount (s : State) : Prop :=
  (∀ n : Fin 32, (s.profile n).refCount = s.live.countP fun r => decide (r.profile = n)) ∧
    (∀ n : Fin 32, (s.profile n).state = .free ∨ (s.profile n).state = .claimed → (s.profile n).refCount = 0) ∧
    (s.profile 0).state = .active

/-- A RETIRING profile has a live request: the end of the last one completes the retire in the same event (R9). -/
def State.RetiringHeld (s : State) : Prop := ∀ n : Fin 32, (s.profile n).state = .retiring → 0 < (s.profile n).refCount

/-- The demand from requests handed over is the one R46 defines, for each output. -/
def State.DemandHandedOver (s : State) : Prop :=
  ∀ o, (s.output o).requestDemand = true ↔ ∃ r ∈ s.live, (s.profile r.profile).need.get o = true

/-- The slot-pool law of R31 to R34: a queue's length is its port's slots in use, within its ceiling; reserves lie within
ceilings; the admission sum is at most 24; a queue holds its own port's requests, under distinct tags. -/
def State.SlotsLawful (s : State) : Prop :=
  (∀ p, (s.port p).queue.length = (s.port p).used ∧ (s.port p).used ≤ (s.port p).ceiling ∧
    (s.port p).reserve ≤ (s.port p).ceiling ∧ (s.port p).ceiling ≤ 24 ∧
    (∀ r ∈ (s.port p).queue, r.source = .port p) ∧ ((s.port p).queue.map (·.tag)).Nodup) ∧
  max (s.port .a).used (s.port .a).reserve + max (s.port .b).used (s.port .b).reserve
    + max (s.port .c).used (s.port .c).reserve ≤ 24

/-- The monitor queue holds at most one temperature sample and at most two ZEROs, for distinct profiles (R37); its entries
are those of R25. -/
def State.MonitorQueueLawful (s : State) : Prop :=
  s.monitor.queue.countP (fun r => decide (r.kind = .measure)) ≤ 1 ∧
    s.monitor.queue.countP (fun r => decide (r.kind = .zero)) ≤ 2 ∧
    ((s.monitor.queue.filter fun r => decide (r.kind = .zero)).map (·.profile)).Nodup ∧
    ∀ r ∈ s.monitor.queue, r.source = .monitor ∧ r.tag = none ∧ r.count = 1 ∧ r.run = .contiguous ∧ r.window = none ∧
      (r.kind = .measure → r.profile = 0) ∧ (r.kind = .zero → r.profile ≠ 0)

/-! ## The converter (R49, R60, R63, R64, R67, R68, R77) -/

/-- A step that uses the output of its period (R74). -/
def OpStep.usesOutput : OpStep → Bool
  | .output | .chopPlusOutput | .chopMinusOutput | .zeroAveraging => true
  | .settling | .chopPlusSettling | .chopMinusSettling | .zeroSettling => false

/-- A step of the ZERO operation (R83). -/
def OpStep.ofZero : OpStep → Bool
  | .zeroSettling | .zeroAveraging => true
  | .settling | .output | .chopPlusSettling | .chopPlusOutput | .chopMinusSettling | .chopMinusOutput => false

/-- A profile holds an offset record only while it is not FREE and its method is STORED (R4), and profile 0 holds none (R5);
so live ZEROs are against STORED user profiles (R40), and the step of a ZERO is the step of a request of kind ZERO. -/
def State.RecordsSound (s : State) : Prop :=
  (∀ n rec, (s.profile n).record = some rec → (s.profile n).state ≠ .free ∧ (s.profile n).method = .stored) ∧
    (s.profile 0).record = none ∧
    (∀ r ∈ s.live, r.kind = .zero → r.profile ≠ 0 ∧ (s.profile r.profile).method = .stored) ∧
    ∀ r step, s.flight = some r → s.engine.step = some step → step.ofZero = true → r.kind = .zero

/-- The settle progress of the loaded setup is full: (filter order − 1) periods (R75). -/
def Engine.settled (e : Engine) : Prop := ∃ l, e.loaded = some l ∧ l.setup.order.toNat - 1 ≤ e.progress

/-- An output is used only at a full settle progress (R77); a step goes with a request in flight, and a request in flight
with RUNNING or HALTING (R68). -/
def State.FilterSettled (s : State) : Prop :=
  (∀ step, s.engine.step = some step → step.usesOutput = true → s.engine.settled) ∧
    (s.engine.inFlight = none → s.engine.step = none) ∧
    (s.engine.state = .down ∨ s.engine.state = .starting → s.engine.inFlight = none)

/-- What goes with each engine state (R67, R68, R72, R95): the start timer runs in STARTING, the interval timer in RUNNING
and HALTING; no setup is loaded and nothing is in flight in DOWN and STARTING. -/
def State.EngineLawful (s : State) : Prop :=
  (s.engine.state = .starting ↔ s.engine.startTimer ≠ .stopped) ∧
    (s.engine.state = .running ∨ s.engine.state = .halting ↔ s.monitor.intervalTimer ≠ .stopped) ∧
    (s.engine.state = .down ∨ s.engine.state = .starting →
      s.engine.inFlight = none ∧ s.engine.loaded = none ∧ s.engine.progress = 0 ∧ s.engine.marks = [])

/-- A request whose ring places are right for its run (R25, R26, R63): a CONTIGUOUS one owes a result, a ZERO is a
CONTIGUOUS one of count 1, a final mark stands on a continuous one, and a continuous one is INTERLEAVED. -/
def Request.lawful (r : Request) : Prop :=
  (r.run = .contiguous → r.delivered < r.count ∧ r.count ≤ 16) ∧
    (r.kind = .zero → r.run = .contiguous ∧ r.count = 1) ∧ (r.finalMark = true → r.count = 0)

/-- Ring places and the request in flight (R60, R63, R64): entries plus reservations never exceed 16; a port reserves
exactly what its CONTIGUOUS request in flight owes; a port whose INTERLEAVED request is in flight has a free place; the
request in flight is the IN_FLIGHT head of its queue, or an entry of the monitor queue. -/
def State.RingsHoldRoom (s : State) : Prop :=
  (∀ p, (s.port p).ring.length + (s.port p).reservations ≤ 16) ∧
  (∀ p, ∀ r ∈ (s.port p).queue, r.source = .port p ∧ r.lawful) ∧
  (∀ r ∈ s.monitor.queue, r.source = .monitor) ∧
  (∀ p, s.engine.inFlight ≠ some (.port p) → (s.port p).reservations = 0) ∧
  (∀ p, s.engine.inFlight = some (.port p) →
    ∃ r rest, (s.port p).queue = r :: rest ∧ r.state = .inFlight ∧
      (∀ step, s.engine.step = some step → step.ofZero = true → r.kind = .zero) ∧
      match r.run with
      | .contiguous => (s.port p).reservations = r.count - r.delivered
      | .interleaved => (s.port p).reservations = 0 ∧ (s.port p).ring.length < 16)

/-- At most one request is IN_FLIGHT (R60), and it is the one the engine holds: the head of a port's queue, or the monitor
entry against a profile. -/
def State.OneInFlight (s : State) : Prop :=
  (∀ p, ∀ r ∈ (s.port p).queue.tail, r.state = .queued) ∧
    (∀ p r, (s.port p).queue.head? = some r → (r.state = .inFlight ↔ s.engine.inFlight = some (.port p))) ∧
    (∀ r ∈ s.monitor.queue, r.state = .inFlight ↔ s.engine.inFlight = some (.monitor r.profile)) ∧
    (∀ p, s.engine.inFlight = some (.port p) → (s.port p).queue ≠ []) ∧
    (∀ n, s.engine.inFlight = some (.monitor n) → ∃ r ∈ s.monitor.queue, r.profile = n)

/-- Credits lie between −15 and the weight, weights between 1 and 8 (R49), and the port in flight can still pay for what
its run owes (R61). -/
def State.CreditsLawful (s : State) : Prop :=
  (∀ p, -15 ≤ (s.port p).credit ∧ (s.port p).credit ≤ (s.port p).weight ∧ 1 ≤ (s.port p).weight ∧
    (s.port p).weight ≤ 8) ∧
  ∀ p r rest, s.engine.inFlight = some (.port p) → (s.port p).queue = r :: rest →
    match r.run with
    | .contiguous => ((r.count - r.delivered : Nat) : Int) - 15 ≤ (s.port p).credit
    | .interleaved => 1 ≤ (s.port p).credit

/-- No eligible candidate waits for an idle converter: the event that makes one eligible grants (R53, R54). -/
def State.NoCandidateWaits (s : State) : Prop :=
  s.engine.state = .running → s.engine.inFlight = none →
    (∀ r ∈ s.monitor.queue, s.monitorEligible r = false) ∧ ∀ p, s.headEligible p = false

/-! ## Excitation outputs (R130 to R142) -/

/-- An output's timers, trip count and state go together (R130, R139, R140, R142), and it follows its demand while the
engine is not DOWN (R136, R137); in DOWN it is switched off (R138). -/
def OutputState.sound (o : OutputState) (down : Bool) : Prop :=
  (o.warmUpTimer ≠ .stopped ↔ o.state = .warming) ∧ (o.lingerTimer ≠ .stopped ↔ o.state = .linger) ∧
    (o.holdOffTimer ≠ .stopped ↔ o.state = .tripped) ∧ (o.dwellTimer ≠ .stopped → o.state = .ready) ∧
    o.tripCount ≤ 3 ∧ (o.tripCount = 3 ↔ o.state = .lockedOut) ∧
    (down = true → o.state = .off ∨ o.state = .tripped ∨ o.state = .lockedOut) ∧
    (o.state = .warming ∨ o.state = .ready → o.demand = true) ∧ (o.state = .linger → o.demand = false) ∧
    (o.state = .off → down = false → o.demand = false)

/-- Both outputs are sound. -/
def State.ExcitationSound (s : State) : Prop := ∀ o, (s.output o).sound s.isDown

/-- Every output that the request in flight needs is READY (R60). -/
def State.FlightExcited (s : State) : Prop :=
  ∀ r, s.flight = some r → ∀ o, (s.profile r.profile).need.get o = true → (s.output o).state = .ready

/-! ## The supervisor (R148) -/

/-- A pending offer is the supervisor's, to another port, and its deadline runs exactly while it is pending. -/
def State.OfferLawful (s : State) : Prop :=
  (∀ o, s.offer = some o → o.offering = s.supervisor ∧ o.target ≠ s.supervisor) ∧
    (s.offer = none ↔ s.offerTimer = .stopped)

/-- The laws together: what the manual says of the whole machine at all times. -/
structure State.Lawful (s : State) : Prop where
  notices : s.NoticesSound
  profiles : s.ProfilesSound
  owners : s.OwnersSound
  records : s.RecordsSound
  references : s.ReferencesCount
  retiring : s.RetiringHeld
  demand : s.DemandHandedOver
  slots : s.SlotsLawful
  monitorQueue : s.MonitorQueueLawful
  oneInFlight : s.OneInFlight
  rings : s.RingsHoldRoom
  credits : s.CreditsLawful
  noneWaits : s.NoCandidateWaits
  filter : s.FilterSettled
  engine : s.EngineLawful
  excitation : s.ExcitationSound
  flightExcited : s.FlightExcited
  offer : s.OfferLawful

end Machine

end Sys2Proof
end

