-- ==== Sys2Proof/Certificates/Slice0/Obligations.lean ====
section
/-! DEFINITION. The statements for the provers, in the order of OBLIGATIONS.json. -/

open Sys2Proof Sys2Proof.Machine

/-! ## Commands, frames and port interfaces -/

/-- The queue of waiting commands and events is the model's own (log 8): the front one is run on the state with the
queue's rest, and an empty queue idles (log 7). -/
def Obligations.StepTakesTheFrontCommand : Prop :=
  (∀ (c : Instr) (rest : List Instr) (s : State),
    step { s with pending := c :: rest } = exec c { s with pending := rest }) ∧
  ∀ s : State, s.pending = [] → step s = .next s

/-- "Every command is acted on and answered in the event in which it is taken" (R160): every command and every event of
the table has a next state, and none touches the commands that wait. The row of a command is the close of its port's
transaction (log 2): it acts where the bytes received so far, with more or none behind them, are judged to be that command;
other bytes are answered as R163 judges them. That a row whose transaction holds the bytes of another command, or an event
whose condition does not hold, leaves the state as it stands is the model's choice (logs 1, 3, 6), and so is that
DEVICE_RESET keeps the queue of waiting commands, which is the model's own (log 8). -/
def Obligations.EveryCommandIsTaken : Prop :=
  (∀ (i : Instr) (s : State), ∃ t, exec i s = .next t ∧ t.pending = s.pending) ∧
  ∀ (i : Instr) (p : Port) (code : CommandCode) (payload : List Byte) (s : State),
    commandParts i = some (p, code, payload) →
    let received := s.receivedAt p
    ((∃ rest, judge p (received ++ rest) = .command i) → exec i s = exec i (s.closedAt p)) ∧
    ((∀ rest, judge p (received ++ rest) ≠ .command i) →
      (∀ first, judge p received = .frameError first → exec i s = .next (s.answered p .frameError first [])) ∧
      (∀ unknown, judge p received = .unknownCommand unknown →
        exec i s = .next (s.answered p .unknownCommand unknown [])) ∧
      ∀ j, judge p received = .command j → exec i s = .next s)

/-- R161, R163, R168, R180, R182: every command's frame is its payload length and 3 bytes long, and a transaction that
carries it is judged to be that command, on ports A and B also with fill bytes before and behind it. -/
def Obligations.CommandFramesReadAsTheirCommands : Prop :=
  ∀ (i : Instr) (p : Port) (code : CommandCode) (payload : List Byte), commandParts i = some (p, code, payload) →
    (commandFrame code payload).length = code.payloadLength + 3 ∧
    judge p (commandFrame code payload) = .command i ∧
    (p ≠ .c → ∀ before behind : Nat,
      judge p (List.replicate before 0xFF#8 ++ commandFrame code payload ++ List.replicate behind 0xFF#8) = .command i)

/-- R163, R164: a command's frame with one byte changed, whichever it is and to whatever value, is answered FRAME_ERROR with
its first byte echoed; on ports A and B its first byte must not become a fill byte, which is skipped (R168). -/
def Obligations.DamagedFramesAreFrameErrors : Prop :=
  ∀ (i : Instr) (p : Port) (code : CommandCode) (payload : List Byte) (k : Nat) (b : Byte),
    commandParts i = some (p, code, payload) → k < (commandFrame code payload).length →
    (commandFrame code payload)[k]? ≠ some b → (p ≠ .c → k = 0 → b ≠ 0xFF#8) →
    judge p ((commandFrame code payload).set k b) =
      .frameError (((commandFrame code payload).set k b).headD 0)

/-- The frames and bytes that chapters 9 and 10 write out: the NOP and STATUS frames with the CRC's steps, the holder after
device reset, and the SUBMIT payload, result record and notice records of the example of chapter 10. -/
def Obligations.ManualFramesReadAsWritten : Prop :=
  judge .a [0x00#8, 0x00#8, 0xD7#8] = .command (.nop .a) ∧ judge .c [0x01#8, 0x00#8, 0xC2#8] = .command (.status .c) ∧
  crc8 [0x00#8] = 0xF3#8 ∧ crc8 [0x00#8, 0x00#8] = 0xD7#8 ∧ crc8 [0x01#8] = 0xF4#8 ∧
  (State.reset.port .b).holder.bytes = [0xFF#8, 0x00#8, 0x00#8, 0x00#8] ∧
  (commandParts (.submit .c
    { tag := 0x28#8, number := 0x05#8, kind := 0x00#8, count := 0x04#8, run := 0x01#8, window := 0x01#8,
      low := BitVec.ofInt 24 (-1000), high := BitVec.ofInt 24 250000 })).map
      (fun x => (commandFrame x.2.1 x.2.2).take 14) =
    some [0x20#8, 0x0C#8, 0x28#8, 0x05#8, 0x00#8, 0x04#8, 0x01#8, 0x01#8, 0xFF#8, 0xFC#8, 0x18#8, 0x03#8, 0xD0#8,
      0x90#8] ∧
  ({ tag := 0x28#8, profile := 5, sequence := 300#16, index := 4#8, value := -1500,
     flags := { ResultFlags.clear with last := true, windowLow := true } } : ResultRecord).bytes =
    [0x28#8, 0x05#8, 0x01#8, 0x2C#8, 0x04#8, 0x11#8, 0xFF#8, 0xFA#8, 0x24#8] ∧
  (Notice.window 0x28#8 .below).bytes = [0x02#8, 0x28#8, 0x00#8, 0x02#8, 0x00#8] ∧
  (Notice.excitation .exa .lockedOut).bytes = [0x08#8, 0x00#8, 0x00#8, 0x00#8, 0x05#8]

/-- R163 with R168 and R171: what the received bytes are judged to be, check by check. Leading fill is skipped on ports A
and B alone. -/
def Obligations.FrameChecksAreMadeInOrder : Prop :=
  (∀ p, judge p [] = .noFrame) ∧ (∀ b, judge .c [b] = .frameError b) ∧
  (∀ p bytes, p ≠ .c → judge p (0xFF#8 :: bytes) = judge p bytes) ∧
  (∀ p b, b ≠ 0xFF#8 → judge p [b] = .frameError b) ∧
  ∀ (p : Port) (code length : Byte) (rest : List Byte), (p ≠ .c → code ≠ 0xFF#8) →
    (24 < length.toNat → judge p (code :: length :: rest) = .frameError code) ∧
    (rest.length < length.toNat + 1 → judge p (code :: length :: rest) = .frameError code) ∧
    (length.toNat + 1 < rest.length → (p = .c ∨ ∃ b ∈ rest.drop (length.toNat + 1), b ≠ 0xFF#8) →
      judge p (code :: length :: rest) = .frameError code) ∧
    ∀ (payload : List Byte) (crc : Byte), length.toNat ≤ 24 → rest = payload ++ [crc] → payload.length = length.toNat →
      (crc ≠ crc8 (code :: length :: payload) → judge p (code :: length :: rest) = .frameError code) ∧
      (crc = crc8 (code :: length :: payload) →
        (CommandCode.ofByte code = none → judge p (code :: length :: rest) = .unknownCommand code) ∧
        ∀ c, CommandCode.ofByte code = some c → payload.length ≠ c.payloadLength →
          judge p (code :: length :: rest) = .frameError code)

/-- R163, R164, R166: a close that carries a damaged frame, an unlisted code, no frame or NOP. The first two replace the
held response, and none changes anything else. Bytes that a row brings while a read stands open at port C are those of a
write whose START is implied, the model's choice (log 3). -/
def Obligations.ClosesWithoutACommandChangeTheHolderAlone : Prop :=
  ∀ (p : Port) (rest : List Byte) (s : State),
    (∀ first, judge p (s.receivedAt p ++ rest) = .frameError first →
      exec (.frameError p rest) s = .next (s.answered p .frameError first [])) ∧
    (∀ code, judge p (s.receivedAt p ++ rest) = .unknownCommand code →
      exec (.unknownCommand p rest) s = .next (s.answered p .unknownCommand code [])) ∧
    (judge p (s.receivedAt p ++ rest) = .noFrame → exec (.emptyTransaction p rest) s = .next (s.closedAt p)) ∧
    (s.AwaitsFrame p → exec (.nop p) s = .next (s.closedAt p))

/-- R167, R169, R171, R172: an opening closes the transaction that still stands open at its port, whose bytes are judged
and whose sound command is taken in that event (of a chip select the rise that must come first is implied, the model's
choice, log 9); the new transaction latches the response held then, and shifts out that frame and then fill bytes. Port C
takes part in a new one at its own address alone, acknowledging the bytes up to the end of the frame. R173: the bus timer runs from a falling edge of SCL and stops at a
rising one; its expiry abandons the transaction, and places FRAME_ERROR with the first received byte for a write that had
received one. The bytes and edges up to the next event are operands of the row (log 9), and the timer runs from the
opening (log 15). That a BUS_TIMEOUT taken with the timer stopped leaves the state as it stands is the model's choice
(log 1). -/
def Obligations.TransactionsOpenAndTimeOut : Prop :=
  (∀ (received : List Byte) (s : State),
    (∃ u, s.ClosesTo u .a ∧ exec (.transactionOpen (.chipSelectA received)) s = .next (u.modPort .a fun ps =>
      { ps with transaction := .opened { read := false, received, latched := ps.holder, acknowledged := 0 } })) ∧
    (∃ u, s.ClosesTo u .b ∧ exec (.transactionOpen (.chipSelectB received)) s = .next (u.modPort .b fun ps =>
      { ps with transaction := .opened { read := false, received, latched := ps.holder, acknowledged := 0 } })) ∧
    ∀ (address : BitVec 7) (read : Bool) (edges : List ClockEdge), ∃ u, s.ClosesTo u .c ∧
      (address = s.targetAddress → exec (.transactionOpen (.start address read received edges)) s =
        .next { u.modPort .c (fun ps =>
                  { ps with
                    transaction := .opened
                      { read, received, latched := ps.holder, acknowledged := acknowledgedBytes received } }) with
                busTimer := if edges.getLast? = some .rising then .stopped else .running 30 }) ∧
      (address ≠ s.targetAddress → exec (.transactionOpen (.start address read received edges)) s = .next u)) ∧
  (acknowledgedBytes [] = 0 ∧ ∀ first : Byte, acknowledgedBytes [first] = 1 ∧ ∀ (length : Byte) (rest : List Byte),
    acknowledgedBytes (first :: length :: rest) =
      if 24 < length.toNat then 2 else 2 + min rest.length (length.toNat + 1)) ∧
  (∀ (t : OpenTransaction) (n k : Nat), (t.shiftedOut n).length = n ∧
    (k < n → (t.shiftedOut n)[k]? =
      some (([t.latched.status.code, t.latched.code, unsigned8 t.latched.payload.length] ++ t.latched.payload ++
        [t.latched.crc]).getD k 0xFF#8))) ∧
  ∀ (s : State) (t : OpenTransaction), (s.port .c).transaction = .opened t →
    (s.busTimer = .stopped → exec .busTimeout s = .next s) ∧
    ∀ ms, s.busTimer = .running ms →
      (t.read = true ∨ t.received = [] → exec .busTimeout s = .next (s.closedAt .c)) ∧
      (∀ first more, t.read = false → t.received = first :: more →
        exec .busTimeout s = .next (s.answered .c .frameError first []))

/-- R159, R165: "Events at other ports and events inside the ET316 never change a port's holder", nor its open
transaction; device reset apart. -/
def Obligations.OtherPortsInterfacesStand : Prop :=
  ∀ (i : Instr) (s t : State) (q : Port), exec i s = .next t → i.port? ≠ some q → i.isDeviceReset = false →
    (t.port q).holder = (s.port q).holder ∧ (t.port q).transaction = (s.port q).transaction

/-- R161, R162, R165: every response a port holds or has latched carries the right CRC and at most 60 payload bytes, and
every step keeps it so. -/
def Obligations.HoldersKeepSoundResponses : Prop :=
  ∀ s t : State, s.HoldersSound → step s = .next t → t.HoldersSound

/-- R178: "A refused command changes nothing, and no part of it is applied": beyond the response, which has an empty
payload, or the tag for SUBMIT (R180). -/
def Obligations.RefusedCommandsChangeNothing : Prop :=
  ∀ (i : Instr) (p : Port) (code : CommandCode) (payload : List Byte) (s t : State),
    commandParts i = some (p, code, payload) → s.AwaitsFrame p → code ≠ .nop → exec i s = .next t →
    (t.port p).holder.status ≠ .ok →
    t = s.answered p (t.port p).holder.status code.byte (t.port p).holder.payload ∧
    ((t.port p).holder.payload = [] ∨ code = .submit ∧ (t.port p).holder.payload = payload.take 1)

/-! ## Supervisor rights and the handover -/

/-- R149: a supervisor-only command from another port is refused with NOT_SUPERVISOR and changes nothing, whatever its
fields; no other command and no command of the supervisor is so refused. -/
def Obligations.SupervisorCommandsNeedTheRights : Prop :=
  ∀ (i : Instr) (p : Port) (code : CommandCode) (payload : List Byte) (s : State),
    commandParts i = some (p, code, payload) → s.AwaitsFrame p →
    (i.supervisorOnly = some p → s.supervisor ≠ p →
      exec i s = .next (s.answered p .notSupervisor code.byte [])) ∧
    (i.supervisorOnly = none ∨ s.supervisor = p → code ≠ .nop →
      ∀ t, exec i s = .next t → (t.port p).holder.status ≠ .notSupervisor)

/-- R148: the strap at device reset and an accepted handover alone give the rights; a pending offer is always the
supervisor's, to one of the two other ports, after device reset and after every step. -/
def Obligations.RightsMoveByStrapAndAcceptAlone : Prop :=
  (∀ (straps : Straps) (s : State), ∃ t, exec (.deviceReset straps) s = .next t ∧ t.offer = none ∧
    t.supervisor = if straps.supsel then .c else .a) ∧
  (∀ (i : Instr) (s t : State), s.OfferLawful → i.isDeviceReset = false → exec i s = .next t →
    t.supervisor ≠ s.supervisor →
    ∃ p, s.performed i = .handoverAccept p ∧ s.offer = some { offering := s.supervisor, target := p } ∧ t.supervisor = p ∧
      t.offer = none) ∧
  (∀ straps, (State.resetWith straps).OfferLawful) ∧
  ∀ s t : State, s.OfferLawful → step s = .next t → t.OfferLawful

/-- R152, R153, R154: HANDOVER_OFFER from the supervisor to another port makes, renews or replaces the offer, with its
notices; a target code above 0x02, or the supervisor's own, is refused, and so is every offer of another port.
HANDOVER_ACCEPT from the target moves the rights,
ends the offer and posts SUPERVISOR to all ports; without an offer to it, a port is answered NO_OFFER. The deadline's
expiry ends the offer with OFFER_LAPSED to the offering port. -/
def Obligations.OffersAreMadeAndEnd : Prop :=
  (∀ (s : State) (q : Port), q ≠ s.supervisor → s.AwaitsFrame s.supervisor →
    (s.offer = none → exec (.handoverOffer s.supervisor q.code) s =
      .next ({ s.modPort q (·.post (.offer s.supervisor)) with
        offer := some { offering := s.supervisor, target := q }, offerTimer := .running 250 }.answered s.supervisor .ok
          0x4B#8 [q.code, 0x04#8])) ∧
    (∀ o, s.offer = some o → o.target = q → exec (.handoverOffer s.supervisor q.code) s =
      .next ({ s.modPort q (·.post (.offer s.supervisor)) with
        offer := some { offering := s.supervisor, target := q }, offerTimer := .running 250 }.answered s.supervisor .ok
          0x4B#8 [q.code, q.code])) ∧
    (∀ o, s.offer = some o → o.target ≠ q → exec (.handoverOffer s.supervisor q.code) s =
      .next ({ (s.modPort o.target (·.post (.offerWithdrawn s.supervisor))).modPort q (·.post (.offer s.supervisor)) with
        offer := some { offering := s.supervisor, target := q }, offerTimer := .running 250 }.answered s.supervisor .ok
          0x4B#8 [q.code, o.target.code])) ∧
    (∀ b : Byte, 2 < b.toNat ∨ b = s.supervisor.code →
      exec (.handoverOffer s.supervisor b) s = .next (s.answered s.supervisor .badField 0x4B#8 []))) ∧
  (∀ (s : State) (p : Port), s.AwaitsFrame p →
    (∀ b : Byte, p ≠ s.supervisor → exec (.handoverOffer p b) s = .next (s.answered p .notSupervisor 0x4B#8 [])) ∧
    (∀ o, s.offer = some o → o.target = p → exec (.handoverAccept p) s =
      .next ({ s with supervisor := p, offer := none, offerTimer := .stopped,
                      ports := s.ports.map (PortState.post · (.supervisor p)) }.answered p .ok 0x4C#8
        [p.code, s.supervisor.code])) ∧
    ((∀ o, s.offer = some o → o.target ≠ p) → exec (.handoverAccept p) s = .next (s.answered p .noOffer 0x4C#8 []))) ∧
  ∀ s : State, ∀ o ms, s.offer = some o → s.offerTimer = .running ms →
    exec .offerLapse s = .next ({ s with offer := none, offerTimer := .stopped }.modPort o.offering
      (·.post (.offerLapsed o.target)))

/-! ## What each command may change -/

/-- The frame of every command and event on the settings: each moves by its own command alone (R32, R49, R21, R65, R108,
R135, R139, R130, R126, R93, R170), device reset apart. The opening that closes a transaction carries out the command in
its bytes (R171). -/
def Obligations.SettingsMoveByTheirOwnCommands : Prop :=
  ∀ (i : Instr) (s t : State), exec i s = .next t → i.isDeviceReset = false →
    let j := s.performed i
    t.targetAddress = s.targetAddress ∧
    (∀ q, (t.port q).weight ≠ (s.port q).weight → ∃ p w, j = .setWeight p q.code w) ∧
    (∀ q, (t.port q).reserve ≠ (s.port q).reserve ∨ (t.port q).ceiling ≠ (s.port q).ceiling →
      ∃ p r c, j = .setQuota p q.code r c) ∧
    (∀ q, (t.port q).allowance ≠ (s.port q).allowance → ∃ p a, j = .setAllowance p q.code a) ∧
    (∀ q, (t.port q).ringAlert ≠ (s.port q).ringAlert → (∃ c, j = .alertConfig q c) ∨ j = .portReset q) ∧
    (t.arbiter.limit ≠ s.arbiter.limit → ∃ p l, j = .setAffinity p l) ∧
    (t.monitor.sampleInterval ≠ s.monitor.sampleInterval ∨ t.monitor.maxAge ≠ s.monitor.maxAge ∨
      t.monitor.maxDelta ≠ s.monitor.maxDelta → ∃ p a b d, j = .setCalPolicy p a b d) ∧
    (t.monitor.temperature ≠ s.monitor.temperature ∨ t.monitor.valid ≠ s.monitor.valid →
      ∃ raw overload, j = .outputPeriodEnd raw overload) ∧
    (∀ o, (t.output o).warmUpTime ≠ (s.output o).warmUpTime ∨ (t.output o).lingerTime ≠ (s.output o).lingerTime →
      ∃ p w l, j = .setExciteTiming p o.code w l) ∧
    (∀ o, (t.output o).combine ≠ (s.output o).combine ∨ (t.output o).designated ≠ (s.output o).designated →
      ∃ p m d, j = .setCombine p o.code m d) ∧
    (∀ o q, (t.output o).votes.get q ≠ (s.output o).votes.get q →
      (∃ v, j = .exciteVote q o.code v) ∨ j = .portReset q)

/-- The frame of every command and event on rings and profiles: a ring changes by results and by its own port's FETCH and
PORT_RESET (R111, R120); a profile's contents by its own commands (R1, R11, R14, R18, R19), and its lifecycle state by
these, PROFILE_RETIRE and the completion of a retire with no live request left (R7, R9); an offset record also by the
results of the converter (R4); an owned count by claims and releases (R21). Device reset apart. -/
def Obligations.RingsAndProfilesMoveByTheirOwnCommands : Prop :=
  ∀ (i : Instr) (s t : State), exec i s = .next t → i.isDeviceReset = false →
    let j := s.performed i
    (∀ q, (t.port q).ring ≠ (s.port q).ring ∨ (t.port q).nextSeq ≠ (s.port q).nextSeq →
      (∃ raw overload, j = .outputPeriodEnd raw overload) ∨ (∃ n, j = .fetch q n) ∨ j = .portReset q) ∧
    (∀ n : Fin 32, (t.profile n).setup ≠ (s.profile n).setup ∨ (t.profile n).method ≠ (s.profile n).method ∨
      (t.profile n).need ≠ (s.profile n).need ∨ (t.profile n).autoRecal ≠ (s.profile n).autoRecal →
      (∃ p b, j = .profileClaim p b) ∨ (∃ p f, j = .profileWrite p f ∧ f.number = unsigned8 n.val) ∨
      (∃ p, j = .profileRelease p (unsigned8 n.val)) ∨ ∃ p, j = .forceRelease p (unsigned8 n.val)) ∧
    (∀ n : Fin 32, (t.profile n).state ≠ (s.profile n).state →
      (∃ p b, j = .profileClaim p b ∧ (s.profile n).state = .free ∧ (t.profile n).state = .claimed) ∨
      (∃ p f, j = .profileWrite p f ∧ f.number = unsigned8 n.val ∧ (t.profile n).state = .active) ∨
      (∃ p, j = .profileRetire p (unsigned8 n.val) ∧ (s.profile n).state = .active ∧
        ((t.profile n).state = .claimed ∨ (t.profile n).state = .retiring)) ∨
      (∃ p, j = .profileRelease p (unsigned8 n.val) ∧ (t.profile n).state = .free) ∨
      (∃ p, j = .forceRelease p (unsigned8 n.val) ∧ (t.profile n).state = .free) ∨
      (s.profile n).state = .retiring ∧ (t.profile n).state = .claimed ∧ (t.profile n).refCount = 0) ∧
    (∀ n : Fin 32, (t.profile n).owner ≠ (s.profile n).owner →
      (∃ p b, j = .profileClaim p b) ∨ (∃ p, j = .profileRelease p (unsigned8 n.val)) ∨
      ∃ p, j = .forceRelease p (unsigned8 n.val)) ∧
    (∀ n : Fin 32, (t.profile n).share ≠ (s.profile n).share →
      (∃ p b, j = .profileClaim p b) ∨ (∃ p set, j = .profileShare p (unsigned8 n.val) set) ∨
      (∃ p, j = .profileRelease p (unsigned8 n.val)) ∨ ∃ p, j = .forceRelease p (unsigned8 n.val)) ∧
    (∀ n : Fin 32, (t.profile n).record ≠ (s.profile n).record →
      (∃ raw overload, j = .outputPeriodEnd raw overload) ∨ (∃ p b, j = .profileClaim p b) ∨
      (∃ p f, j = .profileWrite p f ∧ f.number = unsigned8 n.val) ∨
      (∃ p, j = .profileRelease p (unsigned8 n.val)) ∨ ∃ p, j = .forceRelease p (unsigned8 n.val)) ∧
    (∀ q, (t.port q).owned ≠ (s.port q).owned →
      (∃ b, j = .profileClaim q b) ∨ (∃ b, j = .profileRelease q b) ∨ ∃ p b, j = .forceRelease p b)

/-! ## Profiles -/

/-- R10: PROFILE_CLAIM in its check order, and the claim. -/
def Obligations.ClaimTakesTheDefaultContents : Prop :=
  ∀ (s : State) (p : Port) (n : Fin 32), n ≠ 0 → s.AwaitsFrame p →
    (∀ b : Byte, b = unsigned8 n.val ∨ b = 0xFF#8 ∧ (∀ m : Fin 32, 0 < m → m < n → (s.profile m).state ≠ .free) →
      (s.profile n).state = .free →
      ((s.port p).owned < (s.port p).allowance → exec (.profileClaim p b) s =
        .next (((s.modProfile n fun _ =>
          { state := .claimed, owner := some (.port p), share := .all false,
            setup := { positive := .ain 0, negative := .common, reference := .internal, gain := .x1, osr := .r1024,
                       order := .three },
            method := .none, need := .all false, autoRecal := false, record := none, refCount := 0 }).modPort p
          fun ps => { ps with owned := ps.owned + 1 }).answered p .ok 0x10#8 [unsigned8 n.val])) ∧
      ((s.port p).allowance ≤ (s.port p).owned → exec (.profileClaim p b) s =
        .next (s.answered p .allowance 0x10#8 []))) ∧
    ((s.profile n).state ≠ .free → exec (.profileClaim p (unsigned8 n.val)) s =
      .next (s.answered p .profileState 0x10#8 [])) ∧
    ((∀ m : Fin 32, 0 < m → (s.profile m).state ≠ .free) → exec (.profileClaim p 0xFF#8) s =
      .next (s.answered p .profileState 0x10#8 [])) ∧
    ∀ b : Byte, b = 0x00#8 ∨ 31 < b.toNat ∧ b ≠ 0xFF#8 → exec (.profileClaim p b) s =
      .next (s.answered p .badField 0x10#8 [])

/-- R11, R2, R182: what PROFILE_WRITE reads from its nine field bytes; its check order, and the write: the fields, ACTIVE,
and the record kept when the analog setup and the method are equal. -/
def Obligations.WriteActivatesTheProfile : Prop :=
  (∀ f : WriteFields,
    let sound : Prop :=
      f.positive.toNat < 12 ∧ f.negative.toNat < 13 ∧ f.reference.toNat < 4 ∧ f.gain.toNat < 8 ∧ f.osr.toNat < 8 ∧
        2 ≤ f.order.toNat ∧ f.order.toNat ≤ 4 ∧ f.method.toNat < 3 ∧ f.need.toNat < 4 ∧ f.autoRecal.toNat < 2
    (¬ sound → writingOfFields f = none) ∧
    (sound → ∃ w, writingOfFields f = some w ∧ w.setup.positive.code = f.positive ∧ w.setup.negative.code = f.negative ∧
      w.setup.reference.code = f.reference ∧ w.setup.gain.code = f.gain ∧ w.setup.osr.code = f.osr ∧
      w.setup.order.code = f.order ∧ w.method.code = f.method ∧ needCode w.need = f.need ∧
      boolCode w.autoRecal = f.autoRecal)) ∧
  (∀ (s : State) (p : Port) (f : WriteFields), s.AwaitsFrame p → 31 < f.number.toNat →
    exec (.profileWrite p f) s = .next (s.answered p .badField 0x11#8 [])) ∧
  ∀ (s : State) (p : Port) (n : Fin 32) (f : WriteFields), s.AwaitsFrame p → f.number = unsigned8 n.val →
    (n = 0 ∨ writingOfFields f = none → exec (.profileWrite p f) s = .next (s.answered p .badField 0x11#8 [])) ∧
    ∀ w, n ≠ 0 → writingOfFields f = some w →
      (¬ ((s.profile n).written w).consistent →
        exec (.profileWrite p f) s = .next (s.answered p .badField 0x11#8 [])) ∧
      (((s.profile n).written w).consistent →
        ((s.profile n).state = .free ∨ (s.profile n).state = .retiring →
          exec (.profileWrite p f) s = .next (s.answered p .profileState 0x11#8 [])) ∧
        ((s.profile n).state = .claimed ∨ (s.profile n).state = .active →
          ((s.profile n).owner ≠ some (.port p) →
            exec (.profileWrite p f) s = .next (s.answered p .notOwner 0x11#8 [])) ∧
          ((s.profile n).owner = some (.port p) →
            (0 < (s.profile n).refCount → exec (.profileWrite p f) s = .next (s.answered p .inUse 0x11#8 [])) ∧
            ((s.profile n).refCount = 0 → exec (.profileWrite p f) s =
              .next ((s.modProfile n fun old =>
                { old with
                  state := .active, setup := w.setup, method := w.method, need := w.need, autoRecal := w.autoRecal
                  record := if old.setup = w.setup ∧ old.method = w.method then old.record else none }).answered p .ok
                0x11#8
                [if (s.profile n).record = none then 0x00#8
                 else if (s.profile n).setup = w.setup ∧ (s.profile n).method = w.method then 0x01#8
                 else 0x02#8])))))

/-- R178 to R181, R183: the codes of each table, in its order; every code reads back as its value, and a byte that is no
code of its field reads as out of range. -/
def Obligations.CodesReadBack : Prop :=
  ([Port.a, .b, .c].map Port.code = [0x00#8, 0x01#8, 0x02#8] ∧
    [some (.port .a), some (.port .b), some (.port .c), some .monitor, none].map ownerCode =
      [0x00#8, 0x01#8, 0x02#8, 0x03#8, 0x04#8] ∧
    [OutputId.exa, .exb].map OutputId.code = [0x00#8, 0x01#8] ∧
    [ProfileState.free, .claimed, .active, .retiring].map ProfileState.code = [0x00#8, 0x01#8, 0x02#8, 0x03#8] ∧
    (∀ n : Fin 12, (Input.ain n).code.toNat = n) ∧ [Input.common, .sense].map Input.code = [0x0C#8, 0x0D#8] ∧
    [Reference.internal, .external, .ratioA, .ratioB].map Reference.code = [0x00#8, 0x01#8, 0x02#8, 0x03#8] ∧
    [Gain.x1, .x2, .x4, .x8, .x16, .x32, .x64, .x128].map Gain.code =
      [0x00#8, 0x01#8, 0x02#8, 0x03#8, 0x04#8, 0x05#8, 0x06#8, 0x07#8] ∧
    [Osr.r64, .r128, .r256, .r512, .r1024, .r2048, .r4096, .r8192].map Osr.code =
      [0x00#8, 0x01#8, 0x02#8, 0x03#8, 0x04#8, 0x05#8, 0x06#8, 0x07#8] ∧
    [FilterOrder.two, .three, .four].map FilterOrder.code = [0x02#8, 0x03#8, 0x04#8] ∧
    [Method.none, .stored, .chop].map Method.code = [0x00#8, 0x01#8, 0x02#8] ∧
    (∀ a b, needCode { exa := a, exb := b } = BitVec.ofNat 8 ((if a then 1 else 0) + (if b then 2 else 0))) ∧
    (∀ a b c, portSetCode { a, b, c } =
      BitVec.ofNat 8 ((if a then 1 else 0) + (if b then 2 else 0) + (if c then 4 else 0))) ∧
    [RequestState.queued, .inFlight].map RequestState.code = [0x00#8, 0x01#8] ∧
    [WindowSide.unknown, .inside, .below, .above].map WindowSide.code = [0x00#8, 0x01#8, 0x02#8, 0x03#8] ∧
    [Reason.completed, .cancelled, .retired, .revoked, .excitationFault, .portReset].map Reason.code =
      [0x00#8, 0x01#8, 0x02#8, 0x03#8, 0x04#8, 0x05#8] ∧
    [EngineState.down, .starting, .running, .halting].map EngineState.code = [0x00#8, 0x01#8, 0x02#8, 0x03#8] ∧
    [OutputPhase.off, .warming, .ready, .linger, .tripped, .lockedOut].map OutputPhase.code =
      [0x00#8, 0x01#8, 0x02#8, 0x03#8, 0x04#8, 0x05#8] ∧
    [CombineMode.any, .all, .designated].map CombineMode.code = [0x00#8, 0x01#8, 0x02#8] ∧
    [Criterion.age, .temperature, .both].map Criterion.code = [0x00#8, 0x01#8, 0x02#8] ∧
    [false, true].map boolCode = [0x00#8, 0x01#8]) ∧
  (∀ f : ResultFlags, f.code = BitVec.ofNat 8
    ((if f.last then 1 else 0) + (if f.overrange then 2 else 0) + (if f.offsetStale then 4 else 0) +
      (if f.offsetAbsent then 8 else 0) + (if f.windowLow then 16 else 0) + (if f.windowHigh then 32 else 0) +
      (if f.zero then 64 else 0))) ∧
  [Status.ok, .frameError, .unknownCommand, .badField, .notSupervisor, .notOwner, .noAccess, .profileState,
    .profileRetiring, .inUse, .allowance, .quota, .duplicateTag, .unknownTag, .excitationLocked, .quotaConflict, .noOffer,
    .notApplicable, .engineState, .noResponse].map Status.code =
      [0x00#8, 0x01#8, 0x02#8, 0x03#8, 0x04#8, 0x05#8, 0x06#8, 0x07#8, 0x08#8, 0x09#8, 0x0A#8, 0x0B#8, 0x0C#8, 0x0D#8,
        0x0E#8, 0x0F#8, 0x10#8, 0x11#8, 0x12#8, 0xFF#8] ∧
  [CommandCode.nop, .status, .portReset, .alertConfig, .profileClaim, .profileWrite, .profileRead, .profileShare,
    .profileRetire, .profileRelease, .submit, .cancel, .query, .fetch, .readNotices, .exciteVote, .engineStart,
    .engineHalt, .setQuota, .setWeight, .setAffinity, .setAllowance, .setCombine, .setExciteTiming, .clearLockout,
    .setCalPolicy, .forceRelease, .handoverOffer, .handoverAccept].map (fun c => (c.byte, c.payloadLength)) =
      [(0x00#8, 0), (0x01#8, 0), (0x02#8, 0), (0x03#8, 1), (0x10#8, 1), (0x11#8, 10), (0x12#8, 1), (0x13#8, 2),
        (0x14#8, 1), (0x15#8, 1), (0x20#8, 12), (0x21#8, 1), (0x22#8, 1), (0x30#8, 1), (0x31#8, 1), (0x38#8, 2),
        (0x40#8, 0), (0x41#8, 0), (0x42#8, 3), (0x43#8, 2), (0x44#8, 1), (0x45#8, 2), (0x46#8, 3), (0x47#8, 3),
        (0x48#8, 1), (0x49#8, 4), (0x4A#8, 1), (0x4B#8, 1), (0x4C#8, 0)] ∧
  (kindOfCode 0x00#8 = some .measure ∧ kindOfCode 0x01#8 = some .zero ∧ runOfCode 0x00#8 = some .contiguous ∧
    runOfCode 0x01#8 = some .interleaved ∧ ∀ b : Byte, 1 < b.toNat → kindOfCode b = none ∧ runOfCode b = none) ∧
  (∀ n : Fin 12, positiveOfCode (Input.ain n).code = some (.ain n) ∧ negativeOfCode (Input.ain n).code = some (.ain n)) ∧
  negativeOfCode 0x0C#8 = some .common ∧ positiveOfCode 0x0C#8 = none ∧ negativeOfCode 0x0D#8 = none ∧
  (∀ x : Reference, referenceOfCode x.code = some x) ∧ (∀ x : Gain, gainOfCode x.code = some x) ∧
  (∀ x : Osr, osrOfCode x.code = some x) ∧ (∀ x : FilterOrder, orderOfCode x.code = some x) ∧
  (∀ x : Method, methodOfCode x.code = some x) ∧ (∀ x : PerOutput Bool, needOfCode (needCode x) = some x) ∧
  (∀ x : PerPort Bool, portSetOfCode (portSetCode x) = some x) ∧ (∀ x : Port, Port.ofCode x.code = some x) ∧
  (∀ x : OutputId, OutputId.ofCode x.code = some x) ∧ (∀ x : CombineMode, combineOfCode x.code = some x) ∧
  (∀ x : Bool, boolOfCode (boolCode x) = some x) ∧ (∀ x : CommandCode, CommandCode.ofByte x.byte = some x) ∧
  ∀ b : Byte,
    (∀ x, positiveOfCode b = some x → x.code = b) ∧ (∀ x, negativeOfCode b = some x → x.code = b) ∧
    (∀ x, referenceOfCode b = some x → x.code = b) ∧ (∀ x, gainOfCode b = some x → x.code = b) ∧
    (∀ x, osrOfCode b = some x → x.code = b) ∧ (∀ x, orderOfCode b = some x → x.code = b) ∧
    (∀ x, methodOfCode b = some x → x.code = b) ∧ (∀ x, needOfCode b = some x → needCode x = b) ∧
    (∀ x, portSetOfCode b = some x → portSetCode x = b) ∧ (∀ x, Port.ofCode b = some x → x.code = b) ∧
    (∀ x, OutputId.ofCode b = some x → x.code = b) ∧ (∀ x, combineOfCode b = some x → x.code = b) ∧
    (∀ x, boolOfCode b = some x → boolCode x = b) ∧ (∀ x, CommandCode.ofByte b = some x → x.byte = b)

/-- R13, R45, R174, R182, R183: PROFILE_READ, QUERY and STATUS report the state in their records' bytes and change nothing
but the response. -/
def Obligations.ReadsReportAndChangeNothing : Prop :=
  ∀ (s : State) (p : Port), s.AwaitsFrame p →
    (∀ n : Fin 32, exec (.profileRead p (unsigned8 n.val)) s = .next (s.answered p .ok 0x12#8
      ([unsigned8 n.val, (s.profile n).state.code, ownerCode (s.profile n).owner, portSetCode (s.profile n).share,
        (s.profile n).setup.positive.code, (s.profile n).setup.negative.code, (s.profile n).setup.reference.code,
        (s.profile n).setup.gain.code, (s.profile n).setup.osr.code, (s.profile n).setup.order.code,
        (s.profile n).method.code, needCode (s.profile n).need, boolCode (s.profile n).autoRecal,
        unsigned8 (s.profile n).refCount] ++
       match (s.profile n).record with
       | none => List.replicate 8 0x00#8
       | some r => 0x01#8 :: signed24 r.value ++ signed16 r.calTemperature ++ [unsigned8 r.age, boolCode r.stale]))) ∧
    (∀ b : Byte, 31 < b.toNat → exec (.profileRead p b) s = .next (s.answered p .badField 0x12#8 [])) ∧
    (∀ (tag : Byte) (before behind : List Request) (r : Request), (s.port p).queue = before ++ r :: behind →
      r.tag = some tag → (∀ x ∈ before, x.tag ≠ some tag) →
      exec (.query p tag) s = .next (s.answered p .ok 0x22#8
        ([tag, r.state.code, unsigned8 (before.length + 1)] ++ unsigned16 r.delivered ++
          [match r.side with | none => 0x04#8 | some side => side.code]))) ∧
    (∀ tag : Byte, (∀ x ∈ (s.port p).queue, x.tag ≠ some tag) →
      exec (.query p tag) s = .next (s.answered p .unknownTag 0x22#8 [])) ∧
    exec (.status p) s = .next (s.answered p .ok 0x01#8
      ([s.engine.state.code, s.supervisor.code, boolCode s.offer.isSome,
        match s.offer with | none => 0x04#8 | some o => o.target.code] ++
       signed16 (if s.monitor.valid then s.monitor.temperature else 0) ++
       [boolCode s.monitor.valid, (s.output .exa).state.code, (s.output .exb).state.code, unsigned8 (s.port .a).used,
        unsigned8 (s.port .b).used, unsigned8 (s.port .c).used,
        unsigned8 (24 - (max (s.port .a).used (s.port .a).reserve + max (s.port .b).used (s.port .b).reserve
          + max (s.port .c).used (s.port .c).reserve)),
        unsigned8 (s.port p).ring.length, unsigned8 (s.port p).reservations, unsigned8 (s.port p).notices.length,
        boolCode (s.port p).lost, signed8 (s.port p).credit]))

/-- R14: PROFILE_SHARE in its check order: the set is stored without the owner's own port. -/
def Obligations.ShareIsStoredWithoutTheOwner : Prop :=
  ∀ (s : State) (p : Port) (number share : Byte), s.AwaitsFrame p →
    (number = 0x00#8 ∨ 31 < number.toNat ∨ 7 < share.toNat →
      exec (.profileShare p number share) s = .next (s.answered p .badField 0x13#8 [])) ∧
    ∀ (n : Fin 32) (set : PerPort Bool), n ≠ 0 → number = unsigned8 n.val → share = portSetCode set →
      ((s.profile n).state = .free →
        exec (.profileShare p number share) s = .next (s.answered p .profileState 0x13#8 [])) ∧
      ((s.profile n).state ≠ .free → (s.profile n).owner ≠ some (.port p) →
        exec (.profileShare p number share) s = .next (s.answered p .notOwner 0x13#8 [])) ∧
      ((s.profile n).state ≠ .free → (s.profile n).owner = some (.port p) →
        exec (.profileShare p number share) s =
          .next ((s.modProfile n fun old => { old with share := set.set p false }).answered p .ok 0x13#8
            [portSetCode (set.set p false)]))

/-- R18: PROFILE_RELEASE in its check order: the profile is FREE with the default contents, and its owner owns one less. -/
def Obligations.ReleaseErasesTheProfile : Prop :=
  ∀ (s : State) (p : Port) (number : Byte), s.AwaitsFrame p →
    (number = 0x00#8 ∨ 31 < number.toNat →
      exec (.profileRelease p number) s = .next (s.answered p .badField 0x15#8 [])) ∧
    ∀ n : Fin 32, n ≠ 0 → number = unsigned8 n.val →
      ((s.profile n).state = .free →
        exec (.profileRelease p number) s = .next (s.answered p .profileState 0x15#8 [])) ∧
      ((s.profile n).state = .retiring →
        exec (.profileRelease p number) s = .next (s.answered p .profileRetiring 0x15#8 [])) ∧
      ((s.profile n).state = .claimed ∨ (s.profile n).state = .active →
        ((s.profile n).owner ≠ some (.port p) →
          exec (.profileRelease p number) s = .next (s.answered p .notOwner 0x15#8 [])) ∧
        ((s.profile n).owner = some (.port p) →
          (0 < (s.profile n).refCount →
            exec (.profileRelease p number) s = .next (s.answered p .inUse 0x15#8 [])) ∧
          ((s.profile n).refCount = 0 → exec (.profileRelease p number) s =
            .next (((s.modProfile n fun _ => Profile.default).modPort p fun ps =>
              { ps with owned := ps.owned - 1 }).answered p .ok 0x15#8 []))))

/-- R15, R16, R9: PROFILE_RETIRE in its check order. With no live request the profile is CLAIMED at once; else it is
RETIRING, its queued continuous requests are ended with their notices, one in flight is marked final, and the retire
completes in the same event when none is left. -/
def Obligations.RetireEndsContinuousRequests : Prop :=
  ∀ (s : State) (p : Port) (number : Byte), s.AwaitsFrame p →
    (number = 0x00#8 ∨ 31 < number.toNat →
      exec (.profileRetire p number) s = .next (s.answered p .badField 0x14#8 [])) ∧
    ∀ n : Fin 32, n ≠ 0 → number = unsigned8 n.val →
      ((s.profile n).state = .free ∨ (s.profile n).state = .claimed →
        exec (.profileRetire p number) s = .next (s.answered p .profileState 0x14#8 [])) ∧
      ((s.profile n).state = .retiring →
        exec (.profileRetire p number) s = .next (s.answered p .profileRetiring 0x14#8 [])) ∧
      ((s.profile n).state = .active → (s.profile n).owner ≠ some (.port p) →
        exec (.profileRetire p number) s = .next (s.answered p .notOwner 0x14#8 [])) ∧
      ((s.profile n).state = .active → (s.profile n).owner = some (.port p) → (s.profile n).refCount = 0 →
        exec (.profileRetire p number) s =
          .next ((s.modProfile n fun old => { old with state := .claimed }).answered p .ok 0x14#8 [0x00#8])) ∧
      ((s.profile n).state = .active → (s.profile n).owner = some (.port p) → 0 < (s.profile n).refCount → s.Lawful →
        let ends := fun r : Request => decide (r.profile = n ∧ r.count = 0 ∧ r.state = .queued)
        let left : Bool := s.live.any fun r => decide (r.profile = n) && !ends r
        ∃ t, exec (.profileRetire p number) s = .next t ∧
          t.profile n = { s.profile n with
            state := if left then .retiring else .claimed
            refCount := s.live.countP fun r => decide (r.profile = n) && !ends r } ∧
          (t.port p).holder = .make .ok 0x14#8 [if left then 0x01#8 else 0x00#8] ∧
          (∀ q, (t.port q).tags = ((s.port q).queue.filter (!ends ·)).map (·.tag)) ∧
          (∀ q, s.Posts t q ((s.port q).endNotices .retired ends ++
            if q = p ∧ left = false then [.profileRetired n] else [])) ∧
          (∀ q r, s.engine.inFlight = some (.port q) → (s.port q).queue.head? = some r → r.profile = n → r.count = 0 →
            t.flight = some { r with finalMark := true }))

/-- R19, R20, R87: FORCE_RELEASE from the supervisor: the profile is FREE with the default contents, every live request
against it is ended with its notices, in-flight work is abandoned, a grant point that is no result boundary follows while
RUNNING (R52), and a halt that awaited it ends in DOWN. Other profiles lose no live request, and work in flight on another
profile goes on. -/
def Obligations.ForcedReleaseRevokesRequests : Prop :=
  ∀ (s : State) (number : Byte), s.AwaitsFrame s.supervisor →
    (number = 0x00#8 ∨ 31 < number.toNat →
      exec (.forceRelease s.supervisor number) s = .next (s.answered s.supervisor .badField 0x4A#8 [])) ∧
    ∀ n : Fin 32, n ≠ 0 → number = unsigned8 n.val →
      ((s.profile n).state = .free →
        exec (.forceRelease s.supervisor number) s = .next (s.answered s.supervisor .profileState 0x4A#8 [])) ∧
      ((s.profile n).state ≠ .free → s.Lawful →
        let ends := fun r : Request => decide (r.profile = n)
        let abandons : Bool := s.flight.any ends
        ∃ t, exec (.forceRelease s.supervisor number) s = .next t ∧ t.profile n = Profile.default ∧
          (∀ m, m ≠ n → t.profile m = s.profileAfter ends m) ∧
          (∀ r ∈ t.live, r.profile ≠ n) ∧
          (∀ q, (t.port q).entries = (s.port q).entries.filter (!ends ·) ∧ (t.port q).ring = (s.port q).ring) ∧
          (abandons = true → s.engine.state = .running → ∃ u, s.AbandonsAt u ends (fun q => (s.port q).credit) ∧
            t = (u.grantPoint false).answered s.supervisor .ok 0x4A#8 (t.port s.supervisor).holder.payload) ∧
          (abandons = false → s.engine.inFlight ≠ none ∨ s.engine.state ≠ .running → s.ConverterStands t) ∧
          (abandons = true → s.engine.state = .halting → s.HaltEnds t) ∧
          (∀ o, t.output o =
            if abandons = true ∧ s.engine.state = .halting then (s.outputAfter ends id o).inDown
            else s.outputAfter ends id o) ∧
          (t.port s.supervisor).holder = .make .ok 0x4A#8 [ownerCode (s.profile n).owner,
            unsigned8 (((s.port .a).queue ++ (s.port .b).queue ++ (s.port .c).queue).countP ends)] ∧
          (∀ q, (t.port q).owned = (s.port q).owned - if (s.profile n).owner = some (.port q) then 1 else 0) ∧
          (∀ q, s.Posts t q ((s.port q).endNotices .revoked ends ++
            (if (s.profile n).owner = some (.port q) then [.profileRevoked n] else []) ++
            if abandons = true ∧ s.engine.state = .halting then [.engine .down] else [])) ∧
          (t.engine.state = if abandons = true ∧ s.engine.state = .halting then .down else s.engine.state))

/-! ## Requests -/

/-- R26, R178, R182: the fields of a SUBMIT judged together: a breach is refused with BAD_FIELD and the tag; else they are
read as the request's. -/
def Obligations.SubmitFieldsAreJudgedTogether : Prop :=
  ∀ f : SubmitFields,
    let sound : Prop :=
      f.number.toNat < 32 ∧ f.kind.toNat ≤ 1 ∧ f.count.toNat ≤ 16 ∧ f.run.toNat ≤ 1 ∧ f.window.toNat ≤ 1 ∧
      (f.count.toNat = 0 → f.run.toNat = 1 ∧ f.kind.toNat = 0) ∧
      (f.kind.toNat = 1 → f.count.toNat = 1 ∧ f.run.toNat = 0 ∧ f.window.toNat = 0) ∧
      (f.window.toNat = 1 → -4194303 ≤ f.low.toInt ∧ f.low.toInt ≤ f.high.toInt ∧ f.high.toInt ≤ 4194303)
    (¬ sound → ∀ (p : Port) (s : State), s.AwaitsFrame p →
      exec (.submit p f) s = .next (s.answered p .badField 0x20#8 [f.tag])) ∧
    (sound → ∃ w, submissionOfFields f = some w ∧ w.profile.val = f.number.toNat ∧
      w.kind = (if f.kind.toNat = 0 then .measure else .zero) ∧ w.count = f.count.toNat ∧
      w.run = (if f.run.toNat = 0 then .contiguous else .interleaved) ∧
      w.window = if f.window.toNat = 0 then none else some { low := f.low.toInt, high := f.high.toInt })

/-- R39 steps 2 to 7 with R22 and R31, and R40: SUBMIT of sound fields in its check order, each refusal with the tag; else
the request takes a slot, joins the tail, raises its profile's reference count, has its demand handed over (R46), and may
end an idle period (R53; how a kind-1 grant point is tried is log 13). -/
def Obligations.SubmitIsCheckedInOrderAndQueued : Prop :=
  ∀ (s : State) (p : Port) (f : SubmitFields) (w : Submission), s.AwaitsFrame p →
    submissionOfFields f = some w →
    let profile := s.profile w.profile
    let refused := fun status : Status => exec (.submit p f) s = .next (s.answered p status 0x20#8 [f.tag])
    let permitted : Prop :=
      profile.owner = some (.port p) ∨ w.kind = .measure ∧ profile.share.get p = true
    let locked : Prop := ∃ o, profile.need.get o = true ∧ (s.output o).state = .lockedOut
    let quota : Prop :=
      (s.port p).used < (s.port p).ceiling ∧
        ((s.port p).used < (s.port p).reserve ∨
          max (s.port .a).used (s.port .a).reserve + max (s.port .b).used (s.port .b).reserve
            + max (s.port .c).used (s.port .c).reserve < 24)
    (profile.state = .free ∨ profile.state = .claimed → refused .profileState) ∧
    (profile.state = .retiring → refused .profileRetiring) ∧
    (profile.state = .active →
      (¬ permitted → refused (if w.kind = .measure then .noAccess else .notOwner)) ∧
      (permitted →
        (w.kind = .zero → profile.method ≠ .stored → refused .notApplicable) ∧
        (w.kind = .measure ∨ profile.method = .stored →
          (locked → refused .excitationLocked) ∧
          (¬ locked →
            ((∃ r ∈ (s.port p).queue, r.tag = some f.tag) → refused .duplicateTag) ∧
            ((∀ r ∈ (s.port p).queue, r.tag ≠ some f.tag) →
              (¬ quota → refused .quota) ∧
              (quota → exec (.submit p f) s =
                .next (((((s.modPort p fun ps =>
                  { ps with
                    used := ps.used + 1
                    queue := ps.queue ++
                      [{ source := .port p, tag := some f.tag, profile := w.profile, kind := w.kind, count := w.count,
                         run := w.run, window := w.window, state := .queued, delivered := 0,
                         side := w.window.map fun _ => .unknown, finalMark := false }] }).modProfile w.profile
                  fun old => { old with refCount := old.refCount + 1 }).refreshDemand).kick).answered p .ok 0x20#8
                  [f.tag])))))))

/-- R46, R132, R136, R137, R138: the demand handed over is that of the live requests, and an output moves when its demand
changes, and is left as it stands otherwise. -/
def Obligations.HandedOverDemandMovesTheOutputs : Prop :=
  ∀ (s : State) (o : OutputId),
    let present : Bool := s.live.any fun r => (s.profile r.profile).need.get o
    let now : OutputState := { s.output o with requestDemand := present }
    (s.refreshDemand.output o = if now.demand = (s.output o).demand then now else now.afterDemand now.demand s.isDown) ∧
    s.refreshDemand = { s with outputs := s.refreshDemand.outputs }

/-- R42, R43, R28, R87: CANCEL of a live request of the port: it leaves its queue, its slot and reference are freed and a
retire it held open completes; one in flight is abandoned, a settle break, a grant point that is no result boundary follows
while RUNNING (R52), and a halt that awaited it ends in DOWN. No result and no offset record is formed. -/
def Obligations.CancelEndsTheTaggedRequest : Prop :=
  ∀ (s : State) (p : Port) (tag : Byte), s.AwaitsFrame p →
    ((∀ x ∈ (s.port p).queue, x.tag ≠ some tag) →
      exec (.cancel p tag) s = .next (s.answered p .unknownTag 0x21#8 [])) ∧
    ∀ r ∈ (s.port p).queue, r.tag = some tag → s.Lawful →
      let ends := fun x : Request => decide (x.source = .port p ∧ x.tag = some tag)
      let flying : Bool := decide (r.state = .inFlight)
      ∃ t, exec (.cancel p tag) s = .next t ∧
        (t.port p).holder = .make .ok 0x21#8 [tag, if flying then 0x01#8 else 0x00#8] ∧
        (t.port p).entries = (s.port p).entries.filter (!ends ·) ∧ (t.port p).used = (s.port p).used - 1 ∧
        (∀ q, q ≠ p → (t.port q).entries = (s.port q).entries ∧ (t.port q).used = (s.port q).used) ∧
        (flying = true → s.engine.state = .running → ∃ u, s.AbandonsAt u ends (fun q => (s.port q).credit) ∧
          t = (u.grantPoint false).answered p .ok 0x21#8 [tag, 0x01#8]) ∧
        (t.monitor.queue.map fun x => { x with state := .queued }) =
          (s.monitor.queue.map fun x => { x with state := .queued }) ∧
        (∀ n, t.profile n = s.profileAfter ends n) ∧ (∀ q, (t.port q).ring = (s.port q).ring) ∧
        (∀ q, s.Posts t q (s.retireNotices q ends ++ downNotice (flying && decide (s.engine.state = .halting)))) ∧
        (flying = true →
          t.engine.progress = 0 ∧ t.engine.marks = [] ∧ t.engine.held = .none ∧
          t.engine.state = if s.engine.state = .halting then .down else s.engine.state) ∧
        (flying = true → s.engine.state = .halting → s.HaltEnds t) ∧
        (flying = false → s.engine.inFlight ≠ none ∨ s.engine.state ≠ .running → s.ConverterStands t) ∧
        (∀ o, t.output o =
          if flying = true ∧ s.engine.state = .halting then (s.outputAfter ends id o).inDown else s.outputAfter ends id o)

/-! ## Rings and notices -/

/-- R117, R119, R127: FETCH returns the oldest records and removes them, and the room may end an idle period (R53; how a kind-1 grant
point is tried is log 13); an n of 0 or above 6 is refused. -/
def Obligations.FetchReturnsTheOldestResults : Prop :=
  ∀ (s : State) (p : Port) (n : Byte), s.AwaitsFrame p →
    (n.toNat = 0 ∨ 6 < n.toNat → exec (.fetch p n) s = .next (s.answered p .badField 0x30#8 [])) ∧
    (1 ≤ n.toNat → n.toNat ≤ 6 →
      let taken := (s.port p).ring.take n.toNat
      let left := (s.port p).ring.drop n.toNat
      exec (.fetch p n) s = .next (((s.modPort p fun ps =>
        { ps with
          ring := left
          highWater := if ps.highWater = .fired ∧ left.length < 8 then .armed else ps.highWater
          alertLow := !ps.notices.isEmpty || (ps.ringAlert && !left.isEmpty) }).kick).answered p .ok 0x30#8
        (unsigned8 taken.length :: taken.flatMap fun r =>
          [r.tag, unsigned8 r.profile.val] ++ bytes16 r.sequence ++ [r.index, r.flags.code] ++ signed24 r.value)))

/-- R123, R127: a posted notice joins the tail of a queue with room and drives ALERT low; a full queue discards it and sets the
lost flag. R124, R126: READ_NOTICES returns the oldest notices, each as the five bytes of its kind (R183), with the lost
flag and clears it; ALERT_CONFIG stores the choice; both judge the ALERT line. -/
def Obligations.NoticesArePostedReadAndAlerted : Prop :=
  (∀ (ps : PortState) (n : Notice),
    (ps.notices.length < 8 → ps.post n = { ps with notices := ps.notices ++ [n], alertLow := true }) ∧
    (8 ≤ ps.notices.length → ps.post n = { ps with lost := true })) ∧
  (∀ (tag : Byte) (n : Fin 32) (p : Port) (o : OutputId),
    (∀ x : Reason, (Notice.requestEnded tag x).bytes = [0x01#8, tag, 0x00#8, x.code, 0x00#8]) ∧
    (∀ x : WindowSide, (Notice.window tag x).bytes = [0x02#8, tag, 0x00#8, x.code, 0x00#8]) ∧
    (∀ x : Source, (Notice.offsetUpdated n x).bytes = [0x03#8, 0x00#8, unsigned8 n.val, ownerCode (some x), 0x00#8]) ∧
    (∀ x : Criterion, (Notice.offsetStale n x).bytes = [0x04#8, 0x00#8, unsigned8 n.val, x.code, 0x00#8]) ∧
    (Notice.profileRetired n).bytes = [0x05#8, 0x00#8, unsigned8 n.val, 0x00#8, 0x00#8] ∧
    (Notice.profileRevoked n).bytes = [0x06#8, 0x00#8, unsigned8 n.val, 0x00#8, 0x00#8] ∧
    (Notice.ringHigh 12).bytes = [0x07#8, 0x00#8, 0x00#8, 0x0C#8, 0x00#8] ∧
    (∀ x : OutputPhase, (Notice.excitation o x).bytes = [0x08#8, 0x00#8, 0x00#8, o.code, x.code]) ∧
    (∀ x : EngineState, (Notice.engine x).bytes = [0x09#8, 0x00#8, 0x00#8, x.code, 0x00#8]) ∧
    (Notice.supervisor p).bytes = [0x0A#8, 0x00#8, 0x00#8, p.code, 0x00#8] ∧
    (Notice.offer p).bytes = [0x0B#8, 0x00#8, 0x00#8, p.code, 0x00#8] ∧
    (Notice.offerLapsed p).bytes = [0x0C#8, 0x00#8, 0x00#8, p.code, 0x00#8] ∧
    (Notice.offerWithdrawn p).bytes = [0x0D#8, 0x00#8, 0x00#8, p.code, 0x00#8]) ∧
  ∀ (s : State) (p : Port) (b : Byte), s.AwaitsFrame p →
    (b.toNat = 0 ∨ 8 < b.toNat → exec (.readNotices p b) s = .next (s.answered p .badField 0x31#8 [])) ∧
    (1 ≤ b.toNat → b.toNat ≤ 8 →
      let taken := (s.port p).notices.take b.toNat
      let left := (s.port p).notices.drop b.toNat
      exec (.readNotices p b) s = .next ((s.modPort p fun ps =>
        { ps with
          notices := left, lost := false
          alertLow := !left.isEmpty || (ps.ringAlert && !ps.ring.isEmpty) }).answered p .ok 0x31#8
        ([boolCode (s.port p).lost, unsigned8 taken.length] ++ taken.flatMap (·.bytes)))) ∧
    (1 < b.toNat → exec (.alertConfig p b) s = .next (s.answered p .badField 0x03#8 [])) ∧
    ∀ on : Bool, exec (.alertConfig p (boolCode on)) s = .next ((s.modPort p fun ps =>
      { ps with
        ringAlert := on
        alertLow := !ps.notices.isEmpty || (on && !ps.ring.isEmpty) }).answered p .ok 0x03#8 [boolCode on])

/-! ## The supervisor's settings -/

/-- R33, R62, R65, R151: SET_QUOTA, SET_WEIGHT, SET_AFFINITY and SET_ALLOWANCE: refused from a port that is not the
supervisor; from the supervisor, their checks in order, and the values they leave. -/
def Obligations.PoolAndArbiterSettingsTakeEffect : Prop :=
  ∀ (s : State) (q : Port) (x y : Byte),
    let p := s.supervisor
    let sum := fun r : Nat =>
      max (s.port .a).used (if q = .a then r else (s.port .a).reserve)
        + max (s.port .b).used (if q = .b then r else (s.port .b).reserve)
        + max (s.port .c).used (if q = .c then r else (s.port .c).reserve)
    (∀ (other : Port) (b : Byte), other ≠ p → s.AwaitsFrame other →
      exec (.setQuota other b x y) s = .next (s.answered other .notSupervisor 0x42#8 []) ∧
      exec (.setWeight other b x) s = .next (s.answered other .notSupervisor 0x43#8 []) ∧
      exec (.setAffinity other x) s = .next (s.answered other .notSupervisor 0x44#8 []) ∧
      exec (.setAllowance other b x) s = .next (s.answered other .notSupervisor 0x45#8 [])) ∧
    (s.AwaitsFrame p →
    (∀ b : Byte, 2 < b.toNat →
      exec (.setQuota p b x y) s = .next (s.answered p .badField 0x42#8 []) ∧
      exec (.setWeight p b x) s = .next (s.answered p .badField 0x43#8 []) ∧
      exec (.setAllowance p b x) s = .next (s.answered p .badField 0x45#8 [])) ∧
    (24 < x.toNat ∨ 24 < y.toNat → exec (.setQuota p q.code x y) s = .next (s.answered p .badField 0x42#8 [])) ∧
    (x.toNat ≤ 24 → y.toNat ≤ 24 →
      (y.toNat < x.toNat ∨ y.toNat < (s.port q).used ∨ 24 < sum x.toNat →
        exec (.setQuota p q.code x y) s = .next (s.answered p .quotaConflict 0x42#8 [])) ∧
      (x.toNat ≤ y.toNat → (s.port q).used ≤ y.toNat → sum x.toNat ≤ 24 →
        exec (.setQuota p q.code x y) s =
          .next ((s.modPort q fun ps => { ps with reserve := x.toNat, ceiling := y.toNat }).answered p .ok 0x42#8
            [q.code, x, y]))) ∧
    (x.toNat = 0 ∨ 8 < x.toNat → exec (.setWeight p q.code x) s = .next (s.answered p .badField 0x43#8 [])) ∧
    (1 ≤ x.toNat → x.toNat ≤ 8 → exec (.setWeight p q.code x) s =
      .next ((s.modPort q fun ps =>
        { ps with weight := x.toNat, credit := if (x.toNat : Int) < ps.credit then x.toNat else ps.credit }).answered p
        .ok 0x43#8
        [q.code, x, signed8 (if (x.toNat : Int) < (s.port q).credit then x.toNat else (s.port q).credit)])) ∧
    (15 < x.toNat → exec (.setAffinity p x) s = .next (s.answered p .badField 0x44#8 [])) ∧
    (x.toNat ≤ 15 → exec (.setAffinity p x) s =
      .next ({ s with arbiter := { s.arbiter with limit := x.toNat } }.answered p .ok 0x44#8 [x])) ∧
    (31 < x.toNat → exec (.setAllowance p q.code x) s = .next (s.answered p .badField 0x45#8 [])) ∧
    (x.toNat ≤ 31 → exec (.setAllowance p q.code x) s =
      .next ((s.modPort q fun ps => { ps with allowance := x.toNat }).answered p .ok 0x45#8
        [q.code, x, unsigned8 (s.port q).owned])))

/-- R108, R139: SET_CAL_POLICY and SET_EXCITE_TIMING: refused from a port that is not the supervisor; from the supervisor,
their checks, the values, and the interval timer that restarts when it runs, while an output's running timers keep
theirs. -/
def Obligations.PolicyAndTimingTakeEffect : Prop :=
  ∀ (s : State) (x y : Byte) (d : BitVec 16) (o : OutputId),
    let p := s.supervisor
    (∀ (other : Port) (b : Byte), other ≠ p → s.AwaitsFrame other →
      exec (.setCalPolicy other x y d) s = .next (s.answered other .notSupervisor 0x49#8 []) ∧
      exec (.setExciteTiming other b x y) s = .next (s.answered other .notSupervisor 0x47#8 [])) ∧
    (s.AwaitsFrame p →
    (x.toNat = 0 ∨ y.toNat = 0 ∨ d.toNat = 0 ∨ 2000 < d.toNat →
      exec (.setCalPolicy p x y d) s = .next (s.answered p .badField 0x49#8 [])) ∧
    (1 ≤ x.toNat → 1 ≤ y.toNat → 1 ≤ d.toNat → d.toNat ≤ 2000 →
      exec (.setCalPolicy p x y d) s =
        .next ({ s with monitor :=
          { s.monitor with
            sampleInterval := x.toNat, maxAge := y.toNat, maxDelta := d.toNat
            intervalTimer :=
              if s.monitor.intervalTimer = Timer.stopped then Timer.stopped
              else .running (x.toNat * 1000) } }.answered p .ok 0x49#8 ([x, y] ++ bytes16 d))) ∧
    (∀ b : Byte, 1 < b.toNat → exec (.setExciteTiming p b x y) s = .next (s.answered p .badField 0x47#8 [])) ∧
    (x.toNat = 0 → exec (.setExciteTiming p o.code x y) s = .next (s.answered p .badField 0x47#8 [])) ∧
    (1 ≤ x.toNat → exec (.setExciteTiming p o.code x y) s =
      .next ((s.modOutput o fun out => { out with warmUpTime := x.toNat, lingerTime := y.toNat }).answered p .ok 0x47#8
        [o.code, x, y])))

/-! ## The engine -/

/-- R69, R68, R138: ENGINE_START from the supervisor is accepted in DOWN: STARTING with the 20 ms timer and its notice, and the
demanded outputs that are OFF warm up; in the other states it is refused. R70, R72, R95: ENGINE_HALT from the supervisor:
from STARTING or an idle RUNNING engine to DOWN at once, with the engine cleared, its notice, the outputs switched off and
the interval timer stopped; with a request in flight to HALTING; in DOWN and HALTING it is refused. -/
def Obligations.StartLeavesDownAndHaltReturns : Prop :=
  (∀ s : State, s.AwaitsFrame s.supervisor →
    let warmed := fun out : OutputState => if out.demand = true then out.afterDemand true false else out
    let raised := fun out : OutputState => if out.state = .off then warmed out else out
    (s.engine.state = .down → exec (.engineStart s.supervisor) s =
      .next ({ s with
        engine := { s.engine with state := .starting, startTimer := .running 20 }
        ports := s.ports.map (PortState.post · (.engine .starting))
        outputs := { exa := raised s.outputs.exa, exb := raised s.outputs.exb } }.answered s.supervisor .ok 0x40#8
        [0x01#8])) ∧
    (s.engine.state ≠ .down → exec (.engineStart s.supervisor) s =
      .next (s.answered s.supervisor .engineState 0x40#8 []))) ∧
  ∀ s : State, s.AwaitsFrame s.supervisor →
    (s.engine.state = .down ∨ s.engine.state = .halting → exec (.engineHalt s.supervisor) s =
      .next (s.answered s.supervisor .engineState 0x41#8 [])) ∧
    (s.engine.state = .running → s.engine.inFlight ≠ none → exec (.engineHalt s.supervisor) s =
      .next ({ s with
        engine := { s.engine with state := .halting }
        ports := s.ports.map (PortState.post · (.engine .halting)) }.answered s.supervisor .ok 0x41#8 [0x03#8])) ∧
    (s.engine.state = .starting ∨ s.engine.state = .running → s.engine.inFlight = none →
      exec (.engineHalt s.supervisor) s =
        .next ({ s with
          engine := .inDown
          ports := s.ports.map (PortState.post · (.engine .down))
          outputs := { exa := s.outputs.exa.inDown, exb := s.outputs.exb.inDown }
          monitor := { s.monitor with intervalTimer := .stopped } }.answered s.supervisor .ok 0x41#8 [0x00#8]))

/-- R73, R95, R38, R53, R77: the start timer's expiry: RUNNING with its notice, the interval timer started, one temperature
sample in the monitor queue, and that sample granted, to settle on profile 0's setup. The interval timer's expiry in
RUNNING or HALTING: restarted, and a sample placed unless one is in the queue; a declined placement leaves no trace. That
a kind-1 grant point is tried after it, which in a state with no eligible candidate waiting grants nothing, is the model's
choice (log 13). -/
def Obligations.TimersPlaceTemperatureSamples : Prop :=
  ∀ (s : State) (ms : Nat),
    (s.engine.state = .starting → s.engine.startTimer = .running ms → s.Lawful →
      ∃ t, exec .startTimerExpiry s = .next t ∧ t.engine.state = .running ∧ t.engine.startTimer = .stopped ∧
        t.monitor.intervalTimer = .running (s.monitor.sampleInterval * 1000) ∧
        t.monitor.queue.countP (fun r => decide (r.kind = .measure)) = 1 ∧
        t.engine.inFlight = some (.monitor 0) ∧ t.engine.step = some .settling ∧ t.engine.progress = 0 ∧
        t.engine.loaded = some { setup := (s.profile 0).setup, shorted := false, phase := .none } ∧
        t.arbiter = s.arbiter ∧ ∀ q, s.Posts t q [.engine .running] ∧ (t.port q).queue = (s.port q).queue ∧
          (t.port q).credit = (s.port q).credit) ∧
    (s.engine.state = .running ∨ s.engine.state = .halting → s.monitor.intervalTimer = .running ms →
      let restarted := { s with monitor := { s.monitor with
        intervalTimer := .running (s.monitor.sampleInterval * 1000) } }
      let sample : Request :=
        { source := .monitor, tag := none, profile := 0, kind := .measure, count := 1, run := .contiguous, window := none,
          state := .queued, delivered := 0, side := none, finalMark := false }
      ((∃ r ∈ s.monitor.queue, r.kind = .measure) → exec .intervalTimerExpiry s = .next restarted.kick ∧
        (s.NoCandidateWaits → exec .intervalTimerExpiry s = .next restarted)) ∧
      ((∀ r ∈ s.monitor.queue, r.kind ≠ .measure) → exec .intervalTimerExpiry s =
        .next (({ restarted with monitor := { restarted.monitor with queue := s.monitor.queue ++ [sample] } }.modProfile 0
          fun old => { old with refCount := old.refCount + 1 }).refreshDemand).kick))

/-- R72, R36, R16: an entry to DOWN gives the request in flight back where it stands, its reservation released; a
final-marked one ends RETIRED, with its notice ahead of ENGINE (DOWN), and completes the retire it held open (R9). -/
def Obligations.EntryToDownGivesTheRequestBack : Prop :=
  ∀ s : State, s.Lawful →
    s.enterDown.engine = .inDown ∧ s.enterDown.monitor.intervalTimer = .stopped ∧
    (∀ o, (s.enterDown.output o).state =
      if (s.output o).state = .tripped ∨ (s.output o).state = .lockedOut then (s.output o).state else .off) ∧
    (∀ r, s.flight = some r → r.finalMark = false →
      (∀ q, (s.enterDown.port q).queue = (s.port q).queue.map fun x => { x with state := .queued }) ∧
      s.enterDown.monitor.queue = (s.monitor.queue.map fun x => { x with state := .queued }) ∧
      (∀ n, s.enterDown.profile n = s.profile n) ∧
      (∀ q, (s.enterDown.port q).reservations = 0) ∧ ∀ q, s.Posts s.enterDown q [.engine .down]) ∧
    ∀ p r rest, s.engine.inFlight = some (.port p) → (s.port p).queue = r :: rest → r.finalMark = true →
      (s.enterDown.port p).queue = rest ∧
      (∀ n, s.enterDown.profile n = s.profileAfter (fun x => decide (x.state = .inFlight)) n) ∧
      ∀ q, s.Posts s.enterDown q ((s.port q).endNotices .retired (fun x => decide (x.state = .inFlight)) ++
        s.retireNotices q (fun x => decide (x.state = .inFlight)) ++ [.engine .down])

/-! ## Output periods and results -/

/-- R74, R75, R77, R78, R71: the end of a discarded period, in RUNNING: its mark enters, it counts into the settle progress,
and at a full progress the step advances; the phase + output of a chopped result is held and the phase swapped, a settle
break. In HALTING the same, and then the entry to DOWN. -/
def Obligations.DiscardedPeriodsSettleTheFilter : Prop :=
  ∀ (s : State) (r : Request) (l : LoadedSetup) (step next : OpStep) (raw : Int) (overload : Bool),
    s.flight = some r → s.engine.loaded = some l → s.engine.step = some step → InResultRange raw →
    let marks := (overload :: s.engine.marks).take 4
    let progress := min (s.engine.progress + 1) (l.setup.order.toNat - 1)
    let ended := fun e : Engine =>
      (s.engine.state = .running → s.engine.inFlight ≠ none → exec (.outputPeriodEnd raw overload) s =
        .next { s with engine := e }) ∧
      (s.engine.state = .halting → exec (.outputPeriodEnd raw overload) s = .next { s with engine := e }.enterDown)
    ((step, next) ∈ [(OpStep.settling, OpStep.output), (.chopPlusSettling, .chopPlusOutput),
        (.chopMinusSettling, .chopMinusOutput), (.zeroSettling, .zeroAveraging)] →
      ended { s.engine with
        marks := marks, progress := progress
        step := some (if l.setup.order.toNat - 1 ≤ progress then next else step) }) ∧
    (step = .chopPlusOutput →
      ended { s.engine with
        loaded := some { l with phase := .minus }, progress := 0, marks := [], step := some .chopMinusSettling
        held := .plus raw ((overload :: s.engine.marks).take l.setup.order.toNat |>.any id) }) ∧
    (step = .zeroAveraging → ∀ sum number before,
      (s.engine.held = .average sum number before ∨ s.engine.held = .none ∧ sum = 0 ∧ number = 0 ∧ before = false) →
      number < 3 →
      ended { s.engine with
        marks := marks, progress := progress
        held := .average (sum + raw) (number + 1) (before || s.engine.overloadSpan l overload) })

/-- R79 to R82, R78, R35, R61, R112 to R114, R119, R6: the end of an OUTPUT period, or of the phase − output of a chopped
result, of a port request forms its result and delivers it: the record, the high-water state, the request's delivered count
and window side, its place in the queue, and the cost of one credit. A turn that ends while RUNNING is followed by a grant
point at a result boundary (R52). The order of RING_HIGH, WINDOW and PROFILE_RETIRED is the
model's (log 11), and so is the characteristic of the die temperature (log 5). -/
def Obligations.FormedResultsAreDelivered : Prop :=
  ∀ (s : State) (p : Port) (r : Request) (rest : List Request) (tag : Byte) (l : LoadedSetup) (raw : Int)
    (overload : Bool), s.Lawful → s.engine.state = .running ∨ s.engine.state = .halting →
    s.engine.inFlight = some (.port p) → (s.port p).queue = r :: rest → r.tag = some tag → s.engine.loaded = some l →
    InResultRange raw →
    let clamp := fun low high v : Int => if v < low then low else if high < v then high else v
    let profile := s.profile r.profile
    let spanned := s.engine.overloadSpan l overload
    let result := fun (v : Int) (flags : ResultFlags) =>
      ∃ t, exec (.outputPeriodEnd raw overload) s = .next t ∧ s.DeliversResult t p r tag v flags ∧
        (s.engine.state = .running → r.lastNext = true ∨ r.run = .interleaved →
          ∃ u, s.TurnEndsAt u l overload s.monitor (some p) ∧ t = u.grantPoint true)
    let flagged := fun before after : Int => ({ ResultFlags.clear with overrange := spanned || before ≠ after } : ResultFlags)
    (s.engine.step = some .output → r.profile = 0 →
      result (clamp (-4000) 12500 (Config.dieTemperature raw))
        (flagged (Config.dieTemperature raw) (clamp (-4000) 12500 (Config.dieTemperature raw)))) ∧
    (s.engine.step = some .output → r.profile ≠ 0 →
      (profile.method ≠ .stored →
        result (clamp (-4194303) 4194303 raw) (flagged raw (clamp (-4194303) 4194303 raw))) ∧
      (profile.method = .stored → profile.record = none →
        result (clamp (-4194303) 4194303 raw)
          { flagged raw (clamp (-4194303) 4194303 raw) with offsetAbsent := true }) ∧
      (∀ rec, profile.method = .stored → profile.record = some rec →
        result (clamp (-4194303) 4194303 (raw - rec.value))
          { flagged (raw - rec.value) (clamp (-4194303) 4194303 (raw - rec.value)) with offsetStale := rec.stale })) ∧
    (∀ plus before, s.engine.step = some .chopMinusOutput → s.engine.held = .plus plus before →
      let v := (plus - raw).tdiv 2
      result (clamp (-4194303) 4194303 v)
        { ResultFlags.clear with overrange := before || spanned || v ≠ clamp (-4194303) 4194303 v })

/-- R61, R62, R82, R63: a result of a CONTIGUOUS run that owes more, in RUNNING, costs its port one credit and one
reservation, and the run goes on with its next result. -/
def Obligations.RunsPayForEachResult : Prop :=
  ∀ (s : State) (p : Port) (r : Request) (rest : List Request) (l : LoadedSetup) (raw : Int) (overload : Bool),
    s.Lawful → s.engine.state = .running → s.engine.inFlight = some (.port p) → (s.port p).queue = r :: rest →
    r.run = .contiguous → r.delivered + 1 < r.count → s.engine.loaded = some l → InResultRange raw →
    s.engine.step = some .output ∨
      s.engine.step = some .chopMinusOutput ∧ (∃ plus before, s.engine.held = .plus plus before) →
    ∃ t, exec (.outputPeriodEnd raw overload) s = .next t ∧ (t.port p).credit = (s.port p).credit - 1 ∧
      (t.port p).reservations + 1 = (s.port p).reservations ∧ t.engine.inFlight = some (.port p) ∧
      t.arbiter = s.arbiter ∧ (∀ q, q ≠ p → (t.port q).credit = (s.port q).credit) ∧
      ∃ r', (t.port p).queue = r' :: rest ∧ r'.delivered = r.delivered + 1 ∧ r'.state = .inFlight ∧ r'.tag = r.tag

/-- R83, R105, R114: the fourth averaged output completes a ZERO: the record is rewritten with the average, rounded toward
zero, the current temperature and age 0, not stale; a port ZERO also writes its ring, which may leave the high-water state
FIRED (R119), and costs one credit (R61). While RUNNING a grant point at a result boundary follows (R52). The notices in order: RING_HIGH,
OFFSET_UPDATED, PROFILE_RETIRED, ENGINE (DOWN). -/
def Obligations.FourthOutputCompletesTheZero : Prop :=
  ∀ (s : State) (r : Request) (l : LoadedSetup) (raw sum : Int) (overload before : Bool),
    s.Lawful → s.engine.state = .running ∨ s.engine.state = .halting → s.flight = some r → r.kind = .zero →
    s.engine.loaded = some l → s.engine.step = some .zeroAveraging → s.engine.held = .average sum 3 before →
    InResultRange raw →
    let value := (sum + raw).tdiv 4
    let profile := s.profile r.profile
    let payer : Option Port := match r.source with | .port p => some p | .monitor => none
    ∃ t, exec (.outputPeriodEnd raw overload) s = .next t ∧
      (∀ n, t.profile n = { s.profileAfter (fun x => decide (x.state = .inFlight)) n with
        record := if n = r.profile then
            some { value, calTemperature := s.monitor.temperature, age := 0, stale := false }
          else (s.profile n).record }) ∧
      (∀ q, (t.port q).ring = (s.port q).ring ++
        (if s.engine.inFlight = some (.port q) then
          [{ tag := r.tag.getD 0, profile := r.profile, sequence := (s.port q).nextSeq, index := 0x01#8,
             flags := { ResultFlags.clear with
               last := true, overrange := before || s.engine.overloadSpan l overload, zero := true },
             value }] else [])) ∧
      (∀ q, (t.port q).entries =
        if s.engine.inFlight = some (.port q) then (s.port q).entries.tail else (s.port q).entries) ∧
      (∀ q, (t.port q).highWater =
        if s.engine.inFlight = some (.port q) then (s.port q).highAfter else (s.port q).highWater) ∧
      s.Charges t payer (decide (s.engine.state = .running)) ∧
      (s.engine.state = .running → ∃ u,
        s.TurnEndsAt u l overload
          { s.monitor with queue := s.monitor.queue.filter fun x => decide (x.state ≠ .inFlight) } payer ∧
        t = u.grantPoint true) ∧
      ∀ q, s.Posts t q ((if s.engine.inFlight = some (.port q) then (s.port q).highNotices else []) ++
        (if profile.owner = some (.port q) then [.offsetUpdated r.profile r.source] else []) ++
        (if profile.refCount = 1 ∧ profile.state = .retiring ∧ profile.owner = some (.port q) then
          [.profileRetired r.profile] else []) ++
        downNotice (s.engine.state = .halting))

/-- R98 to R102, R37: an ageing pass ages and judges every offset record, posts OFFSET_STALE at each onset in ascending
number, and fills the free ZERO places of the monitor queue with the qualifying profiles, lowest first. -/
def Obligations.AgeingPassJudgesEveryRecord : Prop :=
  ∀ s : State, s.NoticesSound →
    (∀ n, (s.ageingPass.profile n).record = (s.profile n).record.map (·.afterPass s.monitor)) ∧
    (∀ q, s.Posts s.ageingPass q (s.staleNotices q)) ∧
    s.ageingPass.monitor.queue = s.monitor.queue ++ s.placedZeros

/-- R84, R93, R6: the output of a temperature sample becomes the current temperature, clamped and VALID; every record is
aged and judged against it; the sample leaves the monitor queue, in which the ZEROs that were waiting stand before those
that the ageing pass places (R102); it costs no credit (R61), and writes nothing to a ring. While RUNNING a grant point at a
result boundary follows (R52). The characteristic is
a free value (log 5). -/
def Obligations.SampleUpdatesTheTemperature : Prop :=
  ∀ (s : State) (r : Request) (l : LoadedSetup) (raw : Int) (overload : Bool),
    s.Lawful → s.engine.state = .running ∨ s.engine.state = .halting → s.engine.inFlight = some (.monitor 0) →
    s.flight = some r → s.engine.loaded = some l → s.engine.step = some .output → InResultRange raw →
    let read := Config.dieTemperature raw
    let value := if read < -4000 then -4000 else if 12500 < read then 12500 else read
    let now := { s with monitor := { s.monitor with temperature := value, valid := true } }
    let zeros := s.monitor.queue.filter (fun x => decide (x.kind = .zero)) ++ now.placedZeros
    ∃ t, exec (.outputPeriodEnd raw overload) s = .next t ∧ t.monitor.temperature = value ∧ t.monitor.valid = true ∧
      (∀ n, (t.profile n).record = (s.profile n).record.map (·.afterPass now.monitor)) ∧
      (t.monitor.queue.map fun x => { x with state := .queued }) = zeros ∧
      (s.engine.state = .running → ∃ u, s.TurnEndsAt u l overload { now.monitor with queue := zeros } none ∧
        t = u.grantPoint true) ∧
      s.Charges t none (decide (s.engine.state = .running)) ∧
      (∀ q, (t.port q).ring = (s.port q).ring ∧ (t.port q).entries = (s.port q).entries ∧
        s.Posts t q (now.staleNotices q ++ downNotice (s.engine.state = .halting)))

/-- R77: no output is written to a ring, used as a temperature or taken into an offset unless at least (filter order − 1)
periods preceded it on the loaded setup with no settle break between; with `FilterSettled`, which every step keeps. -/
def Obligations.UnsettledOutputsAreNotUsed : Prop :=
  ∀ (s t : State) (l : LoadedSetup) (raw : Int) (overload : Bool), s.FilterSettled → s.engine.loaded = some l →
    exec (.outputPeriodEnd raw overload) s = .next t →
    (∃ q, (t.port q).ring ≠ (s.port q).ring) ∨ t.monitor.temperature ≠ s.monitor.temperature ∨
      (∃ n, (t.profile n).record ≠ (s.profile n).record) →
    l.setup.order.toNat - 1 ≤ s.engine.progress

/-! ## Arbitration -/

/-- R50, R51: when the head of a port's queue, and when a monitor entry, is an eligible candidate. R57: when a head matches the
loaded setup. R77, R76: a granted request keeps an equal loaded setup with its settle progress and loads any other, a
settle break; it starts with a settling step, or with its first output where the progress is full. -/
def Obligations.CandidatesMatchAndLoad : Prop :=
  (∀ (s : State) (p : Port) (r : Request) (rest : List Request),
    let ready : Prop := ∀ o, (s.profile r.profile).need.get o = true → (s.output o).state = .ready
    let valid : Prop := r.kind = .zero → s.monitor.valid = true
    let free := 16 - (s.port p).ring.length - (s.port p).reservations
    ((s.port p).queue = [] → s.headEligible p = false) ∧
    ((s.port p).queue = r :: rest → (s.headEligible p = true ↔
      r.state = .queued ∧ s.engine.state = .running ∧ ready ∧ valid ∧
        match r.run with
        | .interleaved => 1 ≤ free
        | .contiguous => r.count - r.delivered ≤ free)) ∧
    (s.monitorEligible r = true ↔ r.state = .queued ∧ s.engine.state = .running ∧ ready ∧ valid)) ∧
  (∀ (s : State) (p : Port), s.headMatches p = true ↔
    ∃ r rest, (s.port p).queue = r :: rest ∧ r.kind = .measure ∧ (s.profile r.profile).method ≠ .chop ∧
      s.engine.loaded = some { setup := (s.profile r.profile).setup, shorted := false, phase := .none }) ∧
  ∀ (e : Engine) (kind : Kind) (profile : Profile),
    let need : LoadedSetup :=
      { setup := profile.setup, shorted := decide (kind = .zero),
        phase := if kind = .measure ∧ profile.method = .chop then .plus else .none }
    let steps : OpStep × OpStep :=
      if kind = .zero then (.zeroSettling, .zeroAveraging)
      else if profile.method = .chop then (.chopPlusSettling, .chopPlusOutput) else (.settling, .output)
    (e.loaded = some need → e.begin kind profile =
      { e with held := .none, step := some (if profile.setup.order.toNat - 1 ≤ e.progress then steps.2 else steps.1) }) ∧
    (e.loaded ≠ some need → e.begin kind profile =
      { e with loaded := some need, progress := 0, marks := [], held := .none, step := some steps.1 })

/-- R52 to R60, R63, R77: a grant point, at a result boundary or not, grants the monitor's first eligible entry, leaving
credits, pointer, streak and rings; else a port with an eligible head and a credit above 0 after any refill, by affinity
where R58 allows it and by turn otherwise. The granted request is IN_FLIGHT, a CONTIGUOUS port request reserves the places
it owes, and the engine begins its operation. Where nothing is eligible nothing is granted and the converter's settle progress and marks end, a settle break. The monitor's order is the
temperature sample first, then the ZEROs, oldest first (R37, R50). That a kind-1 grant point is tried without R53's "where
none was eligible before" is the model's choice (log 13): no eligible candidate waits in a lawful state. -/
def Obligations.GrantPointsFollowTheChoice : Prop :=
  ∀ (s : State) (boundary : Bool), s.MonitorQueueLawful →
    (∀ q, 1 ≤ (s.port q).weight ∧ ∀ r ∈ (s.port q).queue, r.source = .port q) →
    let t := s.grantPoint boundary
    let monitorOrder := s.monitor.queue.filter (fun r => decide (r.kind = .measure)) ++
      s.monitor.queue.filter (fun r => decide (r.kind = .zero))
    let can := fun q : Port => s.headEligible q = true ∧ 0 < (s.refill.port q).credit
    let affine : Prop := boundary = true ∧ 0 < s.arbiter.limit ∧ s.arbiter.streak < s.arbiter.limit ∧
      ∃ q, can q ∧ s.headMatches q = true
    let idleEnds : Prop := s.engine.state = .running ∧ s.engine.inFlight = none ∧
      ((monitorOrder.find? s.monitorEligible).isSome = true ∨ ∃ q, s.headEligible q = true)
    let order := [s.arbiter.pointer, s.arbiter.pointer.next, s.arbiter.pointer.next.next]
    (∀ r, monitorOrder.find? s.monitorEligible = some r →
      t = { s with
        engine := { s.engine with inFlight := some (.monitor r.profile) }.begin r.kind (s.profile r.profile)
        monitor := { s.monitor with queue := s.monitor.queue.map fun x =>
          if x.profile = r.profile then { x with state := .inFlight } else x } }) ∧
    (monitorOrder.find? s.monitorEligible = none → (∀ q, s.headEligible q = false) →
      t = { s with engine := { s.engine with progress := 0, marks := [] } }) ∧
    (monitorOrder.find? s.monitorEligible = none → (∃ q, s.headEligible q = true) →
      ∃ p before after r rest, order = before ++ p :: after ∧ can p ∧ (s.port p).queue = r :: rest ∧
        t.engine = { s.engine with inFlight := some (.port p) }.begin r.kind (s.profile r.profile) ∧
        t.port p = { s.port p with
          credit := (s.refill.port p).credit, queue := { r with state := .inFlight } :: rest
          reservations := (s.port p).reservations + if r.run = .contiguous then r.count - r.delivered else 0 } ∧
        (∀ q, q ≠ p → t.port q = { s.port q with credit := (s.refill.port q).credit }) ∧
        t = { s with engine := t.engine, ports := t.ports, arbiter := t.arbiter } ∧
        (affine → s.headMatches p = true ∧ (∀ q ∈ before, ¬ (can q ∧ s.headMatches q = true)) ∧
          t.arbiter = { s.arbiter with streak := s.arbiter.streak + 1 }) ∧
        (¬ affine → (∀ q ∈ before, ¬ can q) ∧ t.arbiter = { s.arbiter with streak := 0, pointer := p.next })) ∧
    (idleEnds → s.kick = s.grantPoint false) ∧ (¬ idleEnds → s.kick = s)

/-- R56: a refill is made when some port has an eligible head and none of these a credit above 0; its k is the smallest that
lifts one of them above 0, and it raises every port's credit by k weights up to its weight. -/
def Obligations.RefillsAreTheSmallestThatServe : Prop :=
  ∀ s : State, (∀ q, 1 ≤ (s.port q).weight) → (∃ q, s.headEligible q = true) →
    ((∃ q, s.headEligible q = true ∧ 0 < (s.port q).credit) → s.refill = s) ∧
    ((∀ q, s.headEligible q = true → (s.port q).credit ≤ 0) →
      ∃ k : Nat, 1 ≤ k ∧ (∃ q, s.headEligible q = true ∧ 0 < (s.port q).credit + k * (s.port q).weight) ∧
        (∀ j : Nat, j < k → ∀ q, s.headEligible q = true → (s.port q).credit + j * (s.port q).weight ≤ 0) ∧
        s.refill = s.mapPorts fun ps =>
          { ps with credit := if (ps.weight : Int) < ps.credit + k * ps.weight then ps.weight
                              else ps.credit + k * ps.weight })

/-! ## Excitation -/

/-- R134, R135, R133: EXCITE_VOTE of any port and SET_COMBINE of the supervisor: the vote, or the rule, takes its new value
and the output moves with its demand in the same event; a field out of range is refused. -/
def Obligations.VotesAndRulesMoveTheOutput : Prop :=
  ∀ (s : State) (p q : Port) (o : OutputId) (on : Bool) (mode : CombineMode),
    let moved := fun old new : OutputState =>
      if new.demand = old.demand then new else new.afterDemand new.demand s.isDown
    let combined := fun out : OutputState =>
      match out.combine with
      | .any => out.votes.a || out.votes.b || out.votes.c
      | .all => out.votes.a && out.votes.b && out.votes.c
      | .designated => out.votes.get out.designated
    let voted := moved (s.output o) { s.output o with votes := (s.output o).votes.set p on }
    let ruled := moved (s.output o) { s.output o with combine := mode, designated := q }
    (∀ out : OutputState, out.demand = (out.requestDemand || combined out)) ∧
    (s.AwaitsFrame p → exec (.exciteVote p o.code (boolCode on)) s = .next ((s.modOutput o fun _ => voted).answered p .ok 0x38#8
      [o.code, boolCode on, boolCode (combined voted), voted.state.code, unsigned8 voted.tripCount])) ∧
    (s.AwaitsFrame s.supervisor → exec (.setCombine s.supervisor o.code mode.code q.code) s =
      .next ((s.modOutput o fun _ => ruled).answered s.supervisor .ok 0x46#8
        [o.code, mode.code, q.code, boolCode (combined ruled), ruled.state.code])) ∧
    ∀ x y z : Byte,
      (s.AwaitsFrame p → 1 < x.toNat ∨ 1 < y.toNat → exec (.exciteVote p x y) s = .next (s.answered p .badField 0x38#8 [])) ∧
      (s.AwaitsFrame s.supervisor → 1 < x.toNat ∨ 2 < y.toNat ∨ 2 < z.toNat →
        exec (.setCombine s.supervisor x y z) s = .next (s.answered s.supervisor .badField 0x46#8 []))

/-- R136, R137, R142, R138: the expiries of an output's timers. Warm-up: READY with the dwell timer and its notice, and perhaps
the end of an idle period (R53, log 13). Linger and hold-off: OFF, and WARMING where it is demanded and the engine is not DOWN.
READY dwell: trip count 0. R143: CLEAR_LOCKOUT from the supervisor: a LOCKED_OUT output becomes OFF with trip count 0, and
warms up in the same way; another output is not applicable. -/
def Obligations.TimersAndClearanceMoveTheOutput : Prop :=
  (∀ (s : State) (o : OutputId) (ms : Nat),
    let out := s.output o
    let rewarm := fun off : OutputState => if off.demand = true then off.afterDemand true s.isDown else off
    (out.state = .warming → out.warmUpTimer = .running ms → exec (.warmUpExpiry o) s =
      .next ({ s.modOutput o (fun _ =>
          { out with state := .ready, warmUpTimer := .stopped, lingerTimer := .stopped, dwellTimer := .running 1000 })
        with ports := s.ports.map (PortState.post · (.excitation o .ready)) }.kick)) ∧
    (out.state = .linger → out.lingerTimer = .running ms → exec (.lingerExpiry o) s =
      .next (s.modOutput o fun _ =>
        rewarm { out with state := .off, warmUpTimer := .stopped, lingerTimer := .stopped, dwellTimer := .stopped })) ∧
    (out.state = .tripped → out.holdOffTimer = .running ms → exec (.holdOffExpiry o) s =
      .next (s.modOutput o fun _ => rewarm { out with state := .off, holdOffTimer := .stopped })) ∧
    (out.state = .ready → out.dwellTimer = .running ms → exec (.readyDwellExpiry o) s =
      .next (s.modOutput o fun _ => { out with tripCount := 0, dwellTimer := .stopped }))) ∧
  ∀ (s : State) (o : OutputId), s.AwaitsFrame s.supervisor →
    let off := { s.output o with state := .off, tripCount := 0 }
    let cleared := if off.demand = true then off.afterDemand true s.isDown else off
    ((s.output o).state = .lockedOut → exec (.clearLockout s.supervisor o.code) s =
      .next ((s.modOutput o fun _ => cleared).answered s.supervisor .ok 0x48#8
        [o.code, cleared.state.code, 0x00#8])) ∧
    ((s.output o).state ≠ .lockedOut → exec (.clearLockout s.supervisor o.code) s =
      .next (s.answered s.supervisor .notApplicable 0x48#8 [])) ∧
    ∀ b : Byte, 1 < b.toNat → exec (.clearLockout s.supervisor b) s =
      .next (s.answered s.supervisor .badField 0x48#8 [])

/-- R140, R141, R28, R30, R87: a trip of a switched-on output: its state, count and timers; every live request that needs it
ended; the notices in their order; after an abandonment a grant point that is no result boundary while RUNNING (R52); and a
halt that awaited the abandoned period ended in DOWN. Work in flight that does not need the output goes on (R85), and
the other output is left but for its loss of demand (R145). -/
def Obligations.TripsEndTheWorkThatNeedsTheOutput : Prop :=
  ∀ (s : State) (o : OutputId), s.Lawful →
    (s.output o).state = .warming ∨ (s.output o).state = .ready ∨ (s.output o).state = .linger →
    let ends := fun r : Request => (s.profile r.profile).need.get o
    let abandons : Bool := s.flight.any ends
    let locks : Bool := decide ((s.output o).tripCount = 2)
    ∃ t, exec (.overcurrentTrip o) s = .next t ∧
      t.output o = { s.output o with
        state := if locks then .lockedOut else .tripped
        tripCount := (s.output o).tripCount + 1
        warmUpTimer := .stopped, lingerTimer := .stopped, dwellTimer := .stopped
        holdOffTimer := if locks then .stopped else .running 100
        requestDemand := false } ∧
      (∀ x, x ≠ o → t.output x =
        if abandons = true ∧ s.engine.state = .halting then (s.outputAfter ends id x).inDown else s.outputAfter ends id x) ∧
      (∀ r ∈ t.live, (t.profile r.profile).need.get o = false) ∧ (∀ n, t.profile n = s.profileAfter ends n) ∧
      (∀ q, (t.port q).entries = (s.port q).entries.filter (!ends ·) ∧ (t.port q).ring = (s.port q).ring) ∧
      (abandons = true → s.engine.state = .running → ∃ u, s.AbandonsAt u ends (fun q => (s.port q).credit) ∧
        t = u.grantPoint false) ∧
      (abandons = false → s.engine.inFlight ≠ none ∨ s.engine.state ≠ .running → s.ConverterStands t) ∧
      (abandons = true → s.engine.state = .halting → s.HaltEnds t) ∧
      (t.engine.state = if abandons = true ∧ s.engine.state = .halting then .down else s.engine.state) ∧
      ∀ q, s.Posts t q ((s.port q).endNotices .excitationFault ends ++ s.retireNotices q ends ++
        [.excitation o .tripped] ++ (if locks then [.excitation o .lockedOut] else []) ++
        downNotice (abandons && decide (s.engine.state = .halting)))

/-! ## Resets -/

/-- R175, R129, R48, R24, R66, R146, R156, R87: PORT_RESET ends the port's requests, empties its ring and notices, resets
its credit, alert choice and votes, withdraws its offer and keeps the rest; after an abandonment a grant point that is no
result boundary follows while RUNNING (R52), and another source's work in flight goes on (R89). The ascending order of several PROFILE_RETIRED
is the model's (log 10). -/
def Obligations.PortResetClearsThePort : Prop :=
  ∀ (s : State) (p : Port), s.AwaitsFrame p → s.Lawful →
    let ends := fun r : Request => decide (r.source = .port p)
    let abandons : Bool := s.flight.any ends
    let halts : Bool := abandons && decide (s.engine.state = .halting)
    let withdrawn : Prop := ∃ o, s.offer = some o ∧ (o.offering = p ∨ o.target = p)
    ∃ t, exec (.portReset p) s = .next t ∧
      t.port p = { s.port p with
        transaction := .closed, holder := .make .ok 0x02#8 [], queue := [], used := 0, ring := [], reservations := 0
        nextSeq := 0, highWater := .armed, notices := downNotice halts, lost := false, ringAlert := false
        alertLow := halts, credit := (s.port p).weight } ∧
      (∀ o, let after := s.outputAfter ends (fun out => { out with votes := out.votes.set p false }) o
        t.output o = if halts then after.inDown else after) ∧
      (∀ n, t.profile n = s.profileAfter ends n) ∧
      (abandons = false → s.engine.inFlight ≠ none ∨ s.engine.state ≠ .running →
        t.engine = s.engine ∧ t.arbiter = s.arbiter ∧ t.monitor = s.monitor ∧
          ∀ q, q ≠ p → (t.port q).credit = (s.port q).credit) ∧
      (halts = true → t.engine = .inDown ∧ t.arbiter = s.arbiter ∧
        t.monitor = { s.monitor with intervalTimer := .stopped } ∧ ∀ q, q ≠ p → (t.port q).credit = (s.port q).credit) ∧
      (abandons = true → s.engine.state = .running → ∃ u,
        s.AbandonsAt u ends (fun q => if q = p then ((s.port p).weight : Int) else (s.port q).credit) ∧
        t = (u.grantPoint false).answered p .ok 0x02#8 []) ∧
      (∀ q, q ≠ p → (t.port q).entries = (s.port q).entries ∧
        t.port q = { s.port q with
          queue := (t.port q).queue, reservations := (t.port q).reservations, credit := (t.port q).credit
          notices := (t.port q).notices, lost := (t.port q).lost, alertLow := (t.port q).alertLow } ∧
        s.Posts t q (s.retireNotices q ends ++
          (if ∃ o, s.offer = some o ∧ (o.offering = p ∧ o.target = q ∨ o.target = p ∧ o.offering = q) then
            [.offerWithdrawn p] else []) ++ downNotice halts)) ∧
      (withdrawn → t.offer = none ∧ t.offerTimer = .stopped) ∧
      (¬ withdrawn → t.offer = s.offer ∧ t.offerTimer = s.offerTimer) ∧
      t.supervisor = s.supervisor ∧ t.targetAddress = s.targetAddress ∧
      (t.monitor.queue.map fun r => (r.kind, r.profile)) = (s.monitor.queue.map fun r => (r.kind, r.profile)) ∧
      (t.engine.state = if halts then .down else s.engine.state)

/-- R47, R128, R23, R5, R66, R90, R109, R146, R148, R177: DEVICE_RESET leaves every block at its value after device reset, with
the straps sampled. The commands that wait are the model's own and stay (log 8). -/
def Obligations.DeviceResetRestoresEveryBlock : Prop :=
  ∀ (s : State) (straps : Straps), ∃ t, exec (.deviceReset straps) s = .next t ∧
    (∀ q, t.port q =
      { transaction := .closed, holder := { status := .noResponse, code := 0x00#8, payload := [], crc := 0x00#8 }
        ring := [], reservations := 0, nextSeq := 0, highWater := .armed, notices := [], lost := false, ringAlert := false
        alertLow := false, queue := [], used := 0, reserve := 4, ceiling := 16, credit := 2, weight := 2, allowance := 10
        owned := 0 }) ∧
    (∀ n : Fin 32, n ≠ 0 → t.profile n =
      { state := .free, owner := none, share := .all false, method := .none, need := .all false
        setup := { positive := .ain 0, negative := .common, reference := .internal, gain := .x1, osr := .r1024, order := .three }
        autoRecal := false, record := none, refCount := 0 }) ∧
    t.profile 0 =
      { state := .active, owner := some .monitor, share := .all true, method := .none, need := .all false
        setup := { positive := .sense, negative := .sense, reference := .internal, gain := .x1, osr := .r1024, order := .three }
        autoRecal := false, record := none, refCount := 0 } ∧
    t.arbiter = { pointer := .a, streak := 0, limit := 4 } ∧ t.engine = .inDown ∧
    t.monitor = { temperature := 0, valid := false, intervalTimer := .stopped, sampleInterval := 10, maxAge := 60
                  maxDelta := 500, queue := [] } ∧
    (∀ o, t.output o =
      { state := .off, warmUpTime := 10, lingerTime := 20, warmUpTimer := .stopped, lingerTimer := .stopped
        holdOffTimer := .stopped, dwellTimer := .stopped, tripCount := 0, combine := .any, designated := .a
        votes := .all false, requestDemand := false }) ∧
    t.supervisor = (if straps.supsel then .c else .a) ∧ t.offer = none ∧ t.offerTimer = .stopped ∧
    t.busTimer = .stopped ∧ t.pending = s.pending ∧
    t.targetAddress =
      match straps.adr1, straps.adr0 with
      | false, false => 0x62#7
      | false, true => 0x63#7
      | true, false => 0x64#7
      | true, true => 0x65#7

/-! ## Laws that every step keeps -/

/-- Every law of `State.Lawful`, and the laws of holders, sequences and results, hold after device reset. -/
def Obligations.LawsHoldAfterDeviceReset : Prop :=
  ∀ straps : Straps, (State.resetWith straps).Lawful ∧ (State.resetWith straps).HoldersSound ∧
    (State.resetWith straps).SequencesRun ∧ (State.resetWith straps).ResultsSound

/-- R121, R123, R127: no notice queue holds more than 8 notices, a set lost flag goes with a full queue, and each ALERT line
stands as its conditions say. -/
def Obligations.NoticeQueuesStayLawful : Prop :=
  ∀ s t : State, s.NoticesSound → step s = .next t → t.NoticesSound

/-- R116, R114: the sequence numbers in a ring stay consecutive, up to the ring's next one. R112, R113, R4: every result in a
ring stays within its range and the flag combinations of R113, and every offset value within its range. -/
def Obligations.RingRecordsStayConsecutiveAndInRange : Prop :=
  (∀ s t : State, s.SequencesRun → step s = .next t → t.SequencesRun) ∧
  ∀ s t : State, s.ResultsSound → step s = .next t → t.ResultsSound

/-- R2, R5: every user profile stays consistent, and profile 0 keeps its contents. R7, R1, R21: user profiles without an
owner are the FREE ones, with the default contents; no share set holds the owner; the owned counts are right. R9: a
RETIRING profile has a live request, for the end of the last one completes the retire in the same event. R4, R5: an
offset record stands in STORED profiles that are not FREE alone, and profile 0 has none. -/
def Obligations.ProfilesStayConsistent : Prop :=
  (∀ s t : State, s.ProfilesSound → step s = .next t → t.ProfilesSound) ∧
  (∀ s t : State, s.ReferencesCount → s.OwnersSound → step s = .next t → t.OwnersSound) ∧
  (∀ s t : State, s.ReferencesCount → s.RetiringHeld → step s = .next t → t.RetiringHeld) ∧
  ∀ s t : State, s.Lawful → step s = .next t → t.RecordsSound

/-- R8, R7, R46: reference counts stay the numbers of live requests, a FREE or CLAIMED profile has none, and the demand
handed over stays that of the live requests. -/
def Obligations.ReferencesAndDemandFollowLiveRequests : Prop :=
  (∀ s t : State, s.ReferencesCount → step s = .next t → t.ReferencesCount) ∧
  ∀ s t : State, s.ReferencesCount → s.DemandHandedOver → step s = .next t → t.DemandHandedOver

/-- R31 to R34: the slot-pool law, with distinct tags in each port's queue. -/
def Obligations.SlotPoolLawIsKept : Prop :=
  ∀ s t : State, s.SlotsLawful → step s = .next t → t.SlotsLawful

/-- R37, R25, R60: the monitor queue's limits, and at most one request in flight, where each port queue holds its own
port's requests. R53, R54: no eligible candidate waits for an idle converter. -/
def Obligations.MonitorQueueAndFlightStayLawful : Prop :=
  (∀ s t : State, s.ProfilesSound → s.MonitorQueueLawful → step s = .next t → t.MonitorQueueLawful) ∧
  (∀ s t : State, s.ProfilesSound → s.MonitorQueueLawful → s.SlotsLawful → s.OneInFlight → step s = .next t →
    t.OneInFlight) ∧
  ∀ s t : State, s.Lawful → step s = .next t → t.NoCandidateWaits

/-- R63, R64, R111, R115: ring entries and reservations never exceed 16, and the request in flight has the places its results
need. R49, R61: every credit stays between −15 and its port's weight, and every weight between 1 and 8. -/
def Obligations.RingRoomAndCreditsAreKept : Prop :=
  (∀ s t : State, s.RingsHoldRoom → step s = .next t → t.RingsHoldRoom) ∧
  ∀ s t : State, s.RingsHoldRoom → s.CreditsLawful → step s = .next t → t.CreditsLawful

/-- R77: an output-using step is entered and left at a full settle progress alone. R67, R68, R72, R95: the start timer runs in
STARTING alone and the interval timer in RUNNING and HALTING alone, and DOWN and STARTING have no setup loaded and nothing
in flight. -/
def Obligations.FilterAndEngineStatesStayLawful : Prop :=
  (∀ s t : State, s.FilterSettled → step s = .next t → t.FilterSettled) ∧
  ∀ s t : State, s.EngineLawful → step s = .next t → t.EngineLawful

/-- R130 to R142, R60: each output's timers, trip count and demand stay in step with its state; and every output that the
request in flight needs stays READY. -/
def Obligations.ExcitationStaysInStep : Prop :=
  (∀ s t : State, s.ExcitationSound → step s = .next t → t.ExcitationSound) ∧
  ∀ s t : State, s.ReferencesCount → s.DemandHandedOver → s.OneInFlight → s.ExcitationSound → s.FlightExcited →
    step s = .next t → t.FlightExcited
end

