-- ==== Sys2Proof/Laws/State.lean ====
section
/-! SUPPORT. One lemma per field and update of the state, true by unfolding, and how the accessors read through the
updates: so that no later proof unfolds a record update. -/

namespace Sys2Proof.Machine

variable (s : State)

/-! ## `modPort` -/

@[simp] theorem State.modPort_profiles (p : Port) (f : PortState → PortState) : (s.modPort p f).profiles = s.profiles := rfl
@[simp] theorem State.modPort_outputs (p : Port) (f : PortState → PortState) : (s.modPort p f).outputs = s.outputs := rfl
@[simp] theorem State.modPort_engine (p : Port) (f : PortState → PortState) : (s.modPort p f).engine = s.engine := rfl
@[simp] theorem State.modPort_arbiter (p : Port) (f : PortState → PortState) : (s.modPort p f).arbiter = s.arbiter := rfl
@[simp] theorem State.modPort_monitor (p : Port) (f : PortState → PortState) : (s.modPort p f).monitor = s.monitor := rfl
@[simp] theorem State.modPort_supervisor (p : Port) (f : PortState → PortState) : (s.modPort p f).supervisor = s.supervisor := rfl
@[simp] theorem State.modPort_offer (p : Port) (f : PortState → PortState) : (s.modPort p f).offer = s.offer := rfl
@[simp] theorem State.modPort_offerTimer (p : Port) (f : PortState → PortState) : (s.modPort p f).offerTimer = s.offerTimer := rfl
@[simp] theorem State.modPort_targetAddress (p : Port) (f : PortState → PortState) : (s.modPort p f).targetAddress = s.targetAddress := rfl
@[simp] theorem State.modPort_busTimer (p : Port) (f : PortState → PortState) : (s.modPort p f).busTimer = s.busTimer := rfl
@[simp] theorem State.modPort_pending (p : Port) (f : PortState → PortState) : (s.modPort p f).pending = s.pending := rfl
@[simp] theorem State.modPort_profile (p : Port) (f : PortState → PortState) (m : Fin 32) : (s.modPort p f).profile m = s.profile m := rfl
@[simp] theorem State.modPort_output (p : Port) (f : PortState → PortState) (q : OutputId) : (s.modPort p f).output q = s.output q := rfl

/-! ## `mapPorts` -/

@[simp] theorem State.mapPorts_profiles (f : PortState → PortState) : (s.mapPorts f).profiles = s.profiles := rfl
@[simp] theorem State.mapPorts_outputs (f : PortState → PortState) : (s.mapPorts f).outputs = s.outputs := rfl
@[simp] theorem State.mapPorts_engine (f : PortState → PortState) : (s.mapPorts f).engine = s.engine := rfl
@[simp] theorem State.mapPorts_arbiter (f : PortState → PortState) : (s.mapPorts f).arbiter = s.arbiter := rfl
@[simp] theorem State.mapPorts_monitor (f : PortState → PortState) : (s.mapPorts f).monitor = s.monitor := rfl
@[simp] theorem State.mapPorts_supervisor (f : PortState → PortState) : (s.mapPorts f).supervisor = s.supervisor := rfl
@[simp] theorem State.mapPorts_offer (f : PortState → PortState) : (s.mapPorts f).offer = s.offer := rfl
@[simp] theorem State.mapPorts_offerTimer (f : PortState → PortState) : (s.mapPorts f).offerTimer = s.offerTimer := rfl
@[simp] theorem State.mapPorts_targetAddress (f : PortState → PortState) : (s.mapPorts f).targetAddress = s.targetAddress := rfl
@[simp] theorem State.mapPorts_busTimer (f : PortState → PortState) : (s.mapPorts f).busTimer = s.busTimer := rfl
@[simp] theorem State.mapPorts_pending (f : PortState → PortState) : (s.mapPorts f).pending = s.pending := rfl
@[simp] theorem State.mapPorts_profile (f : PortState → PortState) (m : Fin 32) : (s.mapPorts f).profile m = s.profile m := rfl
@[simp] theorem State.mapPorts_output (f : PortState → PortState) (q : OutputId) : (s.mapPorts f).output q = s.output q := rfl

/-! ## `modProfile` -/

@[simp] theorem State.modProfile_ports (n : Fin 32) (f : Profile → Profile) : (s.modProfile n f).ports = s.ports := rfl
@[simp] theorem State.modProfile_outputs (n : Fin 32) (f : Profile → Profile) : (s.modProfile n f).outputs = s.outputs := rfl
@[simp] theorem State.modProfile_engine (n : Fin 32) (f : Profile → Profile) : (s.modProfile n f).engine = s.engine := rfl
@[simp] theorem State.modProfile_arbiter (n : Fin 32) (f : Profile → Profile) : (s.modProfile n f).arbiter = s.arbiter := rfl
@[simp] theorem State.modProfile_monitor (n : Fin 32) (f : Profile → Profile) : (s.modProfile n f).monitor = s.monitor := rfl
@[simp] theorem State.modProfile_supervisor (n : Fin 32) (f : Profile → Profile) : (s.modProfile n f).supervisor = s.supervisor := rfl
@[simp] theorem State.modProfile_offer (n : Fin 32) (f : Profile → Profile) : (s.modProfile n f).offer = s.offer := rfl
@[simp] theorem State.modProfile_offerTimer (n : Fin 32) (f : Profile → Profile) : (s.modProfile n f).offerTimer = s.offerTimer := rfl
@[simp] theorem State.modProfile_targetAddress (n : Fin 32) (f : Profile → Profile) : (s.modProfile n f).targetAddress = s.targetAddress := rfl
@[simp] theorem State.modProfile_busTimer (n : Fin 32) (f : Profile → Profile) : (s.modProfile n f).busTimer = s.busTimer := rfl
@[simp] theorem State.modProfile_pending (n : Fin 32) (f : Profile → Profile) : (s.modProfile n f).pending = s.pending := rfl
@[simp] theorem State.modProfile_port (n : Fin 32) (f : Profile → Profile) (q : Port) : (s.modProfile n f).port q = s.port q := rfl
@[simp] theorem State.modProfile_output (n : Fin 32) (f : Profile → Profile) (q : OutputId) : (s.modProfile n f).output q = s.output q := rfl

/-! ## `mapProfiles` -/

@[simp] theorem State.mapProfiles_ports (f : Fin 32 → Profile → Profile) : (s.mapProfiles f).ports = s.ports := rfl
@[simp] theorem State.mapProfiles_outputs (f : Fin 32 → Profile → Profile) : (s.mapProfiles f).outputs = s.outputs := rfl
@[simp] theorem State.mapProfiles_engine (f : Fin 32 → Profile → Profile) : (s.mapProfiles f).engine = s.engine := rfl
@[simp] theorem State.mapProfiles_arbiter (f : Fin 32 → Profile → Profile) : (s.mapProfiles f).arbiter = s.arbiter := rfl
@[simp] theorem State.mapProfiles_monitor (f : Fin 32 → Profile → Profile) : (s.mapProfiles f).monitor = s.monitor := rfl
@[simp] theorem State.mapProfiles_supervisor (f : Fin 32 → Profile → Profile) : (s.mapProfiles f).supervisor = s.supervisor := rfl
@[simp] theorem State.mapProfiles_offer (f : Fin 32 → Profile → Profile) : (s.mapProfiles f).offer = s.offer := rfl
@[simp] theorem State.mapProfiles_offerTimer (f : Fin 32 → Profile → Profile) : (s.mapProfiles f).offerTimer = s.offerTimer := rfl
@[simp] theorem State.mapProfiles_targetAddress (f : Fin 32 → Profile → Profile) : (s.mapProfiles f).targetAddress = s.targetAddress := rfl
@[simp] theorem State.mapProfiles_busTimer (f : Fin 32 → Profile → Profile) : (s.mapProfiles f).busTimer = s.busTimer := rfl
@[simp] theorem State.mapProfiles_pending (f : Fin 32 → Profile → Profile) : (s.mapProfiles f).pending = s.pending := rfl
@[simp] theorem State.mapProfiles_port (f : Fin 32 → Profile → Profile) (q : Port) : (s.mapProfiles f).port q = s.port q := rfl
@[simp] theorem State.mapProfiles_output (f : Fin 32 → Profile → Profile) (q : OutputId) : (s.mapProfiles f).output q = s.output q := rfl

/-! ## `modOutput` -/

@[simp] theorem State.modOutput_ports (o : OutputId) (f : OutputState → OutputState) : (s.modOutput o f).ports = s.ports := rfl
@[simp] theorem State.modOutput_profiles (o : OutputId) (f : OutputState → OutputState) : (s.modOutput o f).profiles = s.profiles := rfl
@[simp] theorem State.modOutput_engine (o : OutputId) (f : OutputState → OutputState) : (s.modOutput o f).engine = s.engine := rfl
@[simp] theorem State.modOutput_arbiter (o : OutputId) (f : OutputState → OutputState) : (s.modOutput o f).arbiter = s.arbiter := rfl
@[simp] theorem State.modOutput_monitor (o : OutputId) (f : OutputState → OutputState) : (s.modOutput o f).monitor = s.monitor := rfl
@[simp] theorem State.modOutput_supervisor (o : OutputId) (f : OutputState → OutputState) : (s.modOutput o f).supervisor = s.supervisor := rfl
@[simp] theorem State.modOutput_offer (o : OutputId) (f : OutputState → OutputState) : (s.modOutput o f).offer = s.offer := rfl
@[simp] theorem State.modOutput_offerTimer (o : OutputId) (f : OutputState → OutputState) : (s.modOutput o f).offerTimer = s.offerTimer := rfl
@[simp] theorem State.modOutput_targetAddress (o : OutputId) (f : OutputState → OutputState) : (s.modOutput o f).targetAddress = s.targetAddress := rfl
@[simp] theorem State.modOutput_busTimer (o : OutputId) (f : OutputState → OutputState) : (s.modOutput o f).busTimer = s.busTimer := rfl
@[simp] theorem State.modOutput_pending (o : OutputId) (f : OutputState → OutputState) : (s.modOutput o f).pending = s.pending := rfl
@[simp] theorem State.modOutput_port (o : OutputId) (f : OutputState → OutputState) (q : Port) : (s.modOutput o f).port q = s.port q := rfl
@[simp] theorem State.modOutput_profile (o : OutputId) (f : OutputState → OutputState) (m : Fin 32) : (s.modOutput o f).profile m = s.profile m := rfl

/-! ## `modEngine` -/

@[simp] theorem State.modEngine_ports (f : Engine → Engine) : (s.modEngine f).ports = s.ports := rfl
@[simp] theorem State.modEngine_profiles (f : Engine → Engine) : (s.modEngine f).profiles = s.profiles := rfl
@[simp] theorem State.modEngine_outputs (f : Engine → Engine) : (s.modEngine f).outputs = s.outputs := rfl
@[simp] theorem State.modEngine_engine (f : Engine → Engine) : (s.modEngine f).engine = f s.engine := rfl
@[simp] theorem State.modEngine_arbiter (f : Engine → Engine) : (s.modEngine f).arbiter = s.arbiter := rfl
@[simp] theorem State.modEngine_monitor (f : Engine → Engine) : (s.modEngine f).monitor = s.monitor := rfl
@[simp] theorem State.modEngine_supervisor (f : Engine → Engine) : (s.modEngine f).supervisor = s.supervisor := rfl
@[simp] theorem State.modEngine_offer (f : Engine → Engine) : (s.modEngine f).offer = s.offer := rfl
@[simp] theorem State.modEngine_offerTimer (f : Engine → Engine) : (s.modEngine f).offerTimer = s.offerTimer := rfl
@[simp] theorem State.modEngine_targetAddress (f : Engine → Engine) : (s.modEngine f).targetAddress = s.targetAddress := rfl
@[simp] theorem State.modEngine_busTimer (f : Engine → Engine) : (s.modEngine f).busTimer = s.busTimer := rfl
@[simp] theorem State.modEngine_pending (f : Engine → Engine) : (s.modEngine f).pending = s.pending := rfl
@[simp] theorem State.modEngine_port (f : Engine → Engine) (q : Port) : (s.modEngine f).port q = s.port q := rfl
@[simp] theorem State.modEngine_profile (f : Engine → Engine) (m : Fin 32) : (s.modEngine f).profile m = s.profile m := rfl
@[simp] theorem State.modEngine_output (f : Engine → Engine) (q : OutputId) : (s.modEngine f).output q = s.output q := rfl

/-! ## `modArbiter` -/

@[simp] theorem State.modArbiter_ports (f : Arbiter → Arbiter) : (s.modArbiter f).ports = s.ports := rfl
@[simp] theorem State.modArbiter_profiles (f : Arbiter → Arbiter) : (s.modArbiter f).profiles = s.profiles := rfl
@[simp] theorem State.modArbiter_outputs (f : Arbiter → Arbiter) : (s.modArbiter f).outputs = s.outputs := rfl
@[simp] theorem State.modArbiter_engine (f : Arbiter → Arbiter) : (s.modArbiter f).engine = s.engine := rfl
@[simp] theorem State.modArbiter_arbiter (f : Arbiter → Arbiter) : (s.modArbiter f).arbiter = f s.arbiter := rfl
@[simp] theorem State.modArbiter_monitor (f : Arbiter → Arbiter) : (s.modArbiter f).monitor = s.monitor := rfl
@[simp] theorem State.modArbiter_supervisor (f : Arbiter → Arbiter) : (s.modArbiter f).supervisor = s.supervisor := rfl
@[simp] theorem State.modArbiter_offer (f : Arbiter → Arbiter) : (s.modArbiter f).offer = s.offer := rfl
@[simp] theorem State.modArbiter_offerTimer (f : Arbiter → Arbiter) : (s.modArbiter f).offerTimer = s.offerTimer := rfl
@[simp] theorem State.modArbiter_targetAddress (f : Arbiter → Arbiter) : (s.modArbiter f).targetAddress = s.targetAddress := rfl
@[simp] theorem State.modArbiter_busTimer (f : Arbiter → Arbiter) : (s.modArbiter f).busTimer = s.busTimer := rfl
@[simp] theorem State.modArbiter_pending (f : Arbiter → Arbiter) : (s.modArbiter f).pending = s.pending := rfl
@[simp] theorem State.modArbiter_port (f : Arbiter → Arbiter) (q : Port) : (s.modArbiter f).port q = s.port q := rfl
@[simp] theorem State.modArbiter_profile (f : Arbiter → Arbiter) (m : Fin 32) : (s.modArbiter f).profile m = s.profile m := rfl
@[simp] theorem State.modArbiter_output (f : Arbiter → Arbiter) (q : OutputId) : (s.modArbiter f).output q = s.output q := rfl

/-! ## `modMonitor` -/

@[simp] theorem State.modMonitor_ports (f : Monitor → Monitor) : (s.modMonitor f).ports = s.ports := rfl
@[simp] theorem State.modMonitor_profiles (f : Monitor → Monitor) : (s.modMonitor f).profiles = s.profiles := rfl
@[simp] theorem State.modMonitor_outputs (f : Monitor → Monitor) : (s.modMonitor f).outputs = s.outputs := rfl
@[simp] theorem State.modMonitor_engine (f : Monitor → Monitor) : (s.modMonitor f).engine = s.engine := rfl
@[simp] theorem State.modMonitor_arbiter (f : Monitor → Monitor) : (s.modMonitor f).arbiter = s.arbiter := rfl
@[simp] theorem State.modMonitor_monitor (f : Monitor → Monitor) : (s.modMonitor f).monitor = f s.monitor := rfl
@[simp] theorem State.modMonitor_supervisor (f : Monitor → Monitor) : (s.modMonitor f).supervisor = s.supervisor := rfl
@[simp] theorem State.modMonitor_offer (f : Monitor → Monitor) : (s.modMonitor f).offer = s.offer := rfl
@[simp] theorem State.modMonitor_offerTimer (f : Monitor → Monitor) : (s.modMonitor f).offerTimer = s.offerTimer := rfl
@[simp] theorem State.modMonitor_targetAddress (f : Monitor → Monitor) : (s.modMonitor f).targetAddress = s.targetAddress := rfl
@[simp] theorem State.modMonitor_busTimer (f : Monitor → Monitor) : (s.modMonitor f).busTimer = s.busTimer := rfl
@[simp] theorem State.modMonitor_pending (f : Monitor → Monitor) : (s.modMonitor f).pending = s.pending := rfl
@[simp] theorem State.modMonitor_port (f : Monitor → Monitor) (q : Port) : (s.modMonitor f).port q = s.port q := rfl
@[simp] theorem State.modMonitor_profile (f : Monitor → Monitor) (m : Fin 32) : (s.modMonitor f).profile m = s.profile m := rfl
@[simp] theorem State.modMonitor_output (f : Monitor → Monitor) (q : OutputId) : (s.modMonitor f).output q = s.output q := rfl

/-! ## Access by port and by output -/

@[simp] theorem PerPort.get_set {α : Type} (x : PerPort α) (p q : Port) (v : α) :
    (x.set p v).get q = if q = p then v else x.get q := by
  cases p <;> cases q <;> rfl

@[simp] theorem PerPort.get_map {α β : Type} (x : PerPort α) (f : α → β) (q : Port) : (x.map f).get q = f (x.get q) := by
  cases q <;> rfl

@[simp] theorem PerPort.get_all {α : Type} (v : α) (q : Port) : (PerPort.all v).get q = v := by cases q <;> rfl

theorem PerPort.ext_get {α : Type} {x y : PerPort α} (h : ∀ p, x.get p = y.get p) : x = y := by
  cases x; cases y
  have ha := h .a
  have hb := h .b
  have hc := h .c
  simp only [PerPort.get] at ha hb hc
  simp [ha, hb, hc]

@[simp] theorem PerOutput.get_set {α : Type} (x : PerOutput α) (p q : OutputId) (v : α) :
    (x.set p v).get q = if q = p then v else x.get q := by
  cases p <;> cases q <;> rfl

@[simp] theorem PerOutput.get_all {α : Type} (v : α) (q : OutputId) : (PerOutput.all v).get q = v := by cases q <;> rfl

/-- A port reads what was written to it, and every other port is as before. -/
theorem State.port_modPort (p q : Port) (f : PortState → PortState) :
    (s.modPort p f).port q = if q = p then f (s.port p) else s.port q := by
  simp [State.modPort, State.port]

@[simp] theorem State.port_modPort_self (p : Port) (f : PortState → PortState) :
    (s.modPort p f).port p = f (s.port p) := by
  simp [State.port_modPort]

@[simp] theorem State.port_modPort_other {p q : Port} (h : q ≠ p) (f : PortState → PortState) :
    (s.modPort p f).port q = s.port q := by
  simp [State.port_modPort, h]

@[simp] theorem State.port_mapPorts (q : Port) (f : PortState → PortState) : (s.mapPorts f).port q = f (s.port q) := by
  simp [State.mapPorts, State.port]

/-- An output reads what was written to it, and the other is as before. -/
theorem State.output_modOutput (o q : OutputId) (f : OutputState → OutputState) :
    (s.modOutput o f).output q = if q = o then f (s.output o) else s.output q := by
  simp [State.modOutput, State.output]

@[simp] theorem State.output_modOutput_self (o : OutputId) (f : OutputState → OutputState) :
    (s.modOutput o f).output o = f (s.output o) := by
  simp [State.output_modOutput]

/-- A profile reads what was written to it, and every other profile is as before. -/
theorem State.profile_modProfile (n m : Fin 32) (f : Profile → Profile) :
    (s.modProfile n f).profile m = if m = n then f (s.profile n) else s.profile m := by
  simp only [State.modProfile, State.profile, Vector.getElem_set]
  by_cases h : m = n
  · simp [h]
  · have hne : n.val ≠ m.val := fun e => h (Fin.ext e.symm)
    simp [h, hne]

@[simp] theorem State.profile_modProfile_self (n : Fin 32) (f : Profile → Profile) :
    (s.modProfile n f).profile n = f (s.profile n) := by
  simp [State.profile_modProfile]

@[simp] theorem State.profile_modProfile_other {n m : Fin 32} (h : m ≠ n) (f : Profile → Profile) :
    (s.modProfile n f).profile m = s.profile m := by
  simp [State.profile_modProfile, h]

@[simp] theorem State.profile_mapProfiles (f : Fin 32 → Profile → Profile) (m : Fin 32) :
    (s.mapProfiles f).profile m = f m (s.profile m) := by
  simp [State.mapProfiles, State.profile]

end Sys2Proof.Machine
end

