-- ==== Sys2Proof/Laws/Ports.lean ====
section
/-! SUPPORT. The shared operations of the port interfaces and of the notice queues: what posting a notice changes
(R123), how postings of one event add up, and what the taking of a command leaves (R160, R163). -/

namespace Sys2Proof.Machine

/-! ## Posting a notice (R123) -/

/-- Posting changes the notice queue, the lost flag and the ALERT line alone. -/
theorem PortState.post_rest (ps : PortState) (n : Notice) :
    ps.post n = { ps with notices := (ps.post n).notices, lost := (ps.post n).lost, alertLow := (ps.post n).alertLow } := by
  unfold PortState.post PortState.judgeAlert
  split <;> rfl

@[simp] theorem PortState.post_transaction (ps : PortState) (n : Notice) : (ps.post n).transaction = ps.transaction := by
  rw [PortState.post_rest]

@[simp] theorem PortState.post_holder (ps : PortState) (n : Notice) : (ps.post n).holder = ps.holder := by
  rw [PortState.post_rest]

@[simp] theorem PortState.post_ring (ps : PortState) (n : Notice) : (ps.post n).ring = ps.ring := by
  rw [PortState.post_rest]

@[simp] theorem PortState.post_reservations (ps : PortState) (n : Notice) :
    (ps.post n).reservations = ps.reservations := by
  rw [PortState.post_rest]

@[simp] theorem PortState.post_nextSeq (ps : PortState) (n : Notice) : (ps.post n).nextSeq = ps.nextSeq := by
  rw [PortState.post_rest]

@[simp] theorem PortState.post_highWater (ps : PortState) (n : Notice) : (ps.post n).highWater = ps.highWater := by
  rw [PortState.post_rest]

@[simp] theorem PortState.post_ringAlert (ps : PortState) (n : Notice) : (ps.post n).ringAlert = ps.ringAlert := by
  rw [PortState.post_rest]

@[simp] theorem PortState.post_queue (ps : PortState) (n : Notice) : (ps.post n).queue = ps.queue := by
  rw [PortState.post_rest]

@[simp] theorem PortState.post_used (ps : PortState) (n : Notice) : (ps.post n).used = ps.used := by
  rw [PortState.post_rest]

@[simp] theorem PortState.post_reserve (ps : PortState) (n : Notice) : (ps.post n).reserve = ps.reserve := by
  rw [PortState.post_rest]

@[simp] theorem PortState.post_ceiling (ps : PortState) (n : Notice) : (ps.post n).ceiling = ps.ceiling := by
  rw [PortState.post_rest]

@[simp] theorem PortState.post_credit (ps : PortState) (n : Notice) : (ps.post n).credit = ps.credit := by
  rw [PortState.post_rest]

@[simp] theorem PortState.post_weight (ps : PortState) (n : Notice) : (ps.post n).weight = ps.weight := by
  rw [PortState.post_rest]

@[simp] theorem PortState.post_allowance (ps : PortState) (n : Notice) : (ps.post n).allowance = ps.allowance := by
  rw [PortState.post_rest]

@[simp] theorem PortState.post_owned (ps : PortState) (n : Notice) : (ps.post n).owned = ps.owned := by
  rw [PortState.post_rest]

/-- The queue after a posting, where no more than 8 notices stood before it. -/
theorem PortState.post_notices (ps : PortState) (n : Notice) (h : ps.notices.length ≤ 8) :
    (ps.post n).notices = (ps.notices ++ [n]).take 8 := by
  unfold PortState.post PortState.judgeAlert noticeCapacity
  split
  · rw [List.take_of_length_le (by simp; omega)]
  · rw [List.take_append_of_le_length (by omega), List.take_of_length_le h]

/-- The lost flag after a posting: set before, or set by it when 8 notices stood in the queue. -/
theorem PortState.post_lost (ps : PortState) (n : Notice) :
    (ps.post n).lost = (ps.lost || decide (8 ≤ ps.notices.length)) := by
  unfold PortState.post PortState.judgeAlert noticeCapacity
  split <;> rename_i h
  · simp [h]
  · simp at h; simp [h]

/-- The postings of one state to the next, where none is made. -/
theorem State.Posts.refl {s t : State} {q : Port} (h : (s.port q).notices.length ≤ 8)
    (hn : (t.port q).notices = (s.port q).notices) (hl : (t.port q).lost = (s.port q).lost) : s.Posts t q [] := by
  refine ⟨?_, ?_⟩
  · rw [List.append_nil, List.take_of_length_le h, hn]
  · simp only [List.length_nil, Nat.add_zero, hl]
    constructor
    · exact Or.inl
    · rintro (h' | h')
      · exact h'
      · omega

/-- The postings of two parts of an event, one after the other, where at most 8 notices stood before. -/
theorem State.Posts.trans {s t u : State} {q : Port} {x y : List Notice} (h : (s.port q).notices.length ≤ 8)
    (first : s.Posts t q x) (second : t.Posts u q y) : s.Posts u q (x ++ y) := by
  obtain ⟨hn, hl⟩ := first
  obtain ⟨kn, kl⟩ := second
  have len : (t.port q).notices.length = min 8 ((s.port q).notices.length + x.length) := by simp [hn]
  refine ⟨?_, ?_⟩
  · rw [kn, hn, ← List.append_assoc, List.take_append, List.take_take, List.take_append (l₁ := _ ++ x)]
    congr 1
    simp only [List.length_take, List.length_append, List.take_eq_take_iff]
    omega
  · rw [kl, hl, len, List.length_append]
    constructor
    · rintro ((h' | h') | h')
      · exact .inl h'
      · exact .inr (by omega)
      · exact .inr (by omega)
    · rintro (h' | h')
      · exact .inl (.inl h')
      · by_cases hx : 8 < (s.port q).notices.length + x.length
        · exact .inl (.inr hx)
        · exact .inr (by omega)

/-- One posting to a port. -/
theorem State.Posts.post {s : State} {q : Port} (n : Notice) (h : (s.port q).notices.length ≤ 8) :
    s.Posts (s.post q n) q [n] := by
  have e : (s.post q n).port q = (s.port q).post n := by simp [State.post]
  refine ⟨by rw [e, PortState.post_notices _ _ h], ?_⟩
  rw [e, PortState.post_lost]
  simp only [Bool.or_eq_true, decide_eq_true_eq, List.length_singleton]
  constructor <;> rintro (h' | h') <;> first | exact .inl h' | exact .inr (by omega)

/-! ## Taking a command (R160, R163) -/

/-- Closing a transaction and placing a response is all that a refused command does. -/
theorem State.respond_closeTransaction (s : State) (p : Port) (status : Status) (code : Byte) (payload : List Byte) :
    (s.closeTransaction p).respond p status code payload = s.answered p status code payload := by
  cases p <;> rfl

/-- Closing a transaction (R167, R171). -/
theorem State.closeTransaction_eq (s : State) (p : Port) : s.closeTransaction p = s.closedAt p := by
  cases p <;> rfl

/-- The bytes of a transaction, read off its state. -/
theorem State.receivedAt_eq (s : State) (p : Port) : (s.port p).transaction.received = s.receivedAt p := by
  unfold State.receivedAt Transaction.received
  cases (s.port p).transaction <;> rfl

/-- Bytes that carry no frame byte, and no others, are judged to be no frame. -/
theorem judgeFrame_eq_noFrame (p : Port) (frame : List Byte) : judgeFrame p frame = .noFrame ↔ frame = [] := by
  match frame with
  | [] => simp [judgeFrame]
  | [_] => simp [judgeFrame]
  | code :: length :: rest =>
    simp only [judgeFrame, reduceCtorEq, iff_false]
    repeat' split
    all_goals simp

/-- The close by the row of a command, where no frame byte was received before: the command is taken. -/
theorem State.closeBy_of_awaits (s : State) (p : Port) (frame : List Byte) (taken : State) (h : s.AwaitsFrame p) :
    s.closeBy p frame taken = taken := by
  have : frameBytes p (s.receivedAt p) = [] := (judgeFrame_eq_noFrame p _).1 h
  simp [State.closeBy, State.receivedAt_eq, this]

/-- The row of a command whose port awaits a frame. -/
theorem takeCommand_of_awaits {i : Instr} {p : Port} {code : CommandCode} {payload : List Byte} (act : State → Answer)
    (s : State) (parts : commandParts i = some (p, code, payload)) (h : s.AwaitsFrame p) :
    takeCommand i act s = .next (s.take p code act) := by
  simp [takeCommand, parts, s.closeBy_of_awaits p _ _ h]

/-- What a close answers to bytes that are no sound command, in the words of the statements. -/
theorem State.answerVerdict_eq (s : State) (p : Port) (v : Verdict) :
    s.answerVerdict p v =
      match v with
      | .noFrame => s.closedAt p
      | .frameError first => s.answered p .frameError first []
      | .unknownCommand code => s.answered p .unknownCommand code []
      | .command _ => s := by
  cases v with
  | noFrame => exact s.closeTransaction_eq p
  | frameError first => exact s.respond_closeTransaction p _ _ _
  | unknownCommand code => exact s.respond_closeTransaction p _ _ _
  | command i => rfl

/-- A command that the bytes of a transaction carry is taken by the meaning of its own row. -/
theorem takeCarried_eq_exec (i : Instr) (s : State) (h : commandParts i ≠ none) : takeCarried i s = exec i s := by
  cases i <;> first | rfl | exact absurd rfl h

/-- What a payload spells is a command. -/
theorem commandParts_of_readPayload {p : Port} {code : CommandCode} {payload : List Byte} {i : Instr}
    (h : readPayload p code payload = some i) : commandParts i ≠ none := by
  unfold readPayload at h
  split at h <;> split at h <;> cases h <;> simp [commandParts]

/-- What the bytes of a transaction spell is a command. -/
theorem commandParts_of_judge {p : Port} {received : List Byte} {i : Instr} (h : judge p received = .command i) :
    commandParts i ≠ none := by
  unfold judge judgeFrame at h
  split at h <;> try cases h
  split at h <;> try cases h
  split at h <;> try cases h
  split at h <;> try cases h
  split at h <;> try cases h
  split at h <;> cases h
  exact commandParts_of_readPayload ‹_›

/-- Everything that the close made by an opening can do (R160, R163, R171). -/
theorem State.closeOnBytes_closesTo {s u : State} {p : Port} (h : s.closeOnBytes p = .next u) : s.ClosesTo u p := by
  unfold State.closeOnBytes State.judgeClose at h
  rw [List.append_nil, State.receivedAt_eq] at h
  unfold State.ClosesTo
  split at h <;> rename_i e <;> rw [e]
  · rw [takeCarried_eq_exec _ _ (commandParts_of_judge e)] at h
    exact h
  all_goals simpa [State.answerVerdict_eq, eq_comm] using h

/-- A supervisor-only command from another port is turned away before its own rule is asked (R149). -/
theorem State.take_notSupervisor (s : State) (p : Port) (code : CommandCode) (act : State → Answer)
    (only : code.supervisorOnly = true) (other : s.supervisor ≠ p) :
    s.take p code act = s.answered p .notSupervisor code.byte [] := by
  have : (s.closeTransaction p).supervisor = s.supervisor := by cases p <;> rfl
  simp only [State.take, only, other, ne_eq, not_false_eq_true, decide_true, Bool.and_self, if_true]
  exact s.respond_closeTransaction p _ _ _

/-- A command with the rights it needs: its own rule on the state with the transaction closed, then its response. -/
theorem State.take_allowed (s : State) (p : Port) (code : CommandCode) (act : State → Answer)
    (h : code.supervisorOnly = false ∨ s.supervisor = p) :
    s.take p code act = (act (s.closeTransaction p)).state.respond p (act (s.closeTransaction p)).status code.byte
      (act (s.closeTransaction p)).payload := by
  rcases h with h | h <;> simp [State.take, h]

/-- A command whose own rule refuses it changes the holder and the transaction alone (R178). -/
theorem State.take_refused (s : State) (p : Port) (code : CommandCode) (act : State → Answer)
    (h : code.supervisorOnly = false ∨ s.supervisor = p)
    (refused : (act (s.closeTransaction p)).state = s.closeTransaction p) :
    s.take p code act = s.answered p (act (s.closeTransaction p)).status code.byte (act (s.closeTransaction p)).payload := by
  rw [State.take_allowed s p code act h, refused, State.respond_closeTransaction]

/-! ## The bus timer of port C (R173) -/

/-- The last edge of SCL decides: the timer is stopped after a rising one, and runs otherwise. -/
theorem busTimerAfter_eq (edges : List ClockEdge) :
    busTimerAfter edges = if edges.getLast? = some .rising then .stopped else .running 30 := by
  induction edges using List.reverseRecOn with
  | nil => rfl
  | append_singleton edges e _ => cases e <;> simp [busTimerAfter, timerAtEdge, busTimeoutTime]

end Sys2Proof.Machine
end

