-- ==== Sys2Proof/Laws/Keeps.lean ====
section
/-! SUPPORT. What the engine, arbiter, pool, excitation and monitor operations leave alone, said once for each: the
settings, the port interfaces, the contents of profiles, the rights and the queue (`State.Keeps`); and, for those that
deliver no result, rings, offset records and the temperature too (`State.Still`). -/

namespace Sys2Proof.Machine

/-! ## The two relations -/

/-- Two states of a port with the same interface, settings and owned count. -/
structure PortState.SameSettings (a b : PortState) : Prop where
  transaction : b.transaction = a.transaction
  holder : b.holder = a.holder
  ringAlert : b.ringAlert = a.ringAlert
  reserve : b.reserve = a.reserve
  ceiling : b.ceiling = a.ceiling
  weight : b.weight = a.weight
  allowance : b.allowance = a.allowance
  owned : b.owned = a.owned

/-- Two states of an output with the same times, combine rule and votes. -/
structure OutputState.SameSettings (a b : OutputState) : Prop where
  warmUpTime : b.warmUpTime = a.warmUpTime
  lingerTime : b.lingerTime = a.lingerTime
  combine : b.combine = a.combine
  designated : b.designated = a.designated
  votes : b.votes = a.votes

/-- Two records of a profile with the same contents, owner and share set. -/
structure Profile.SameContents (a b : Profile) : Prop where
  setup : b.setup = a.setup
  method : b.method = a.method
  need : b.need = a.need
  autoRecal : b.autoRecal = a.autoRecal
  owner : b.owner = a.owner
  share : b.share = a.share

/-- The operation moved work alone. -/
structure State.Keeps (s t : State) : Prop where
  ports : ∀ q, (s.port q).SameSettings (t.port q)
  outputs : ∀ o, (s.output o).SameSettings (t.output o)
  profiles : ∀ n, (s.profile n).SameContents (t.profile n)
  limit : t.arbiter.limit = s.arbiter.limit
  sampleInterval : t.monitor.sampleInterval = s.monitor.sampleInterval
  maxAge : t.monitor.maxAge = s.monitor.maxAge
  maxDelta : t.monitor.maxDelta = s.monitor.maxDelta
  supervisor : t.supervisor = s.supervisor
  offer : t.offer = s.offer
  offerTimer : t.offerTimer = s.offerTimer
  targetAddress : t.targetAddress = s.targetAddress
  busTimer : t.busTimer = s.busTimer
  pending : t.pending = s.pending

/-- The operation delivered nothing. -/
structure State.Still (s t : State) : Prop where
  ring : ∀ q, (t.port q).ring = (s.port q).ring
  nextSeq : ∀ q, (t.port q).nextSeq = (s.port q).nextSeq
  record : ∀ n, (t.profile n).record = (s.profile n).record
  temperature : t.monitor.temperature = s.monitor.temperature
  valid : t.monitor.valid = s.monitor.valid

theorem PortState.SameSettings.refl (a : PortState) : a.SameSettings a := ⟨rfl, rfl, rfl, rfl, rfl, rfl, rfl, rfl⟩
theorem OutputState.SameSettings.refl (a : OutputState) : a.SameSettings a := ⟨rfl, rfl, rfl, rfl, rfl⟩
theorem Profile.SameContents.refl (a : Profile) : a.SameContents a := ⟨rfl, rfl, rfl, rfl, rfl, rfl⟩

theorem OutputState.SameSettings.trans {a b c : OutputState} (h : a.SameSettings b) (k : b.SameSettings c) :
    a.SameSettings c :=
  ⟨k.1.trans h.1, k.2.trans h.2, k.3.trans h.3, k.4.trans h.4, k.5.trans h.5⟩

theorem State.Keeps.refl (s : State) : s.Keeps s :=
  ⟨fun _ => .refl _, fun _ => .refl _, fun _ => .refl _, rfl, rfl, rfl, rfl, rfl, rfl, rfl, rfl, rfl, rfl⟩

theorem State.Keeps.trans {s t u : State} (h : s.Keeps t) (k : t.Keeps u) : s.Keeps u where
  ports q :=
    let a := h.ports q
    let b := k.ports q
    ⟨b.1.trans a.1, b.2.trans a.2, b.3.trans a.3, b.4.trans a.4, b.5.trans a.5, b.6.trans a.6, b.7.trans a.7,
      b.8.trans a.8⟩
  outputs o := (h.outputs o).trans (k.outputs o)
  profiles n :=
    let a := h.profiles n
    let b := k.profiles n
    ⟨b.1.trans a.1, b.2.trans a.2, b.3.trans a.3, b.4.trans a.4, b.5.trans a.5, b.6.trans a.6⟩
  limit := k.limit.trans h.limit
  sampleInterval := k.sampleInterval.trans h.sampleInterval
  maxAge := k.maxAge.trans h.maxAge
  maxDelta := k.maxDelta.trans h.maxDelta
  supervisor := k.supervisor.trans h.supervisor
  offer := k.offer.trans h.offer
  offerTimer := k.offerTimer.trans h.offerTimer
  targetAddress := k.targetAddress.trans h.targetAddress
  busTimer := k.busTimer.trans h.busTimer
  pending := k.pending.trans h.pending

theorem State.Still.refl (s : State) : s.Still s := ⟨fun _ => rfl, fun _ => rfl, fun _ => rfl, rfl, rfl⟩

theorem State.Still.trans {s t u : State} (h : s.Still t) (k : t.Still u) : s.Still u :=
  ⟨fun q => (k.ring q).trans (h.ring q), fun q => (k.nextSeq q).trans (h.nextSeq q),
    fun n => (k.record n).trans (h.record n), k.temperature.trans h.temperature, k.valid.trans h.valid⟩

/-- Both at once. -/
def State.Quiet (s t : State) : Prop := s.Keeps t ∧ s.Still t

theorem State.Quiet.refl (s : State) : s.Quiet s := ⟨.refl s, .refl s⟩

theorem State.Quiet.trans {s t u : State} (h : s.Quiet t) (k : t.Quiet u) : s.Quiet u :=
  ⟨h.1.trans k.1, h.2.trans k.2⟩

/-! ## The updates -/

theorem State.keeps_modPort (s : State) (p : Port) {f : PortState → PortState}
    (h : ∀ ps, PortState.SameSettings ps (f ps)) : s.Keeps (s.modPort p f) where
  ports q := by
    rw [State.port_modPort]
    split
    · subst q; exact h _
    · exact .refl _
  outputs _ := .refl _
  profiles _ := .refl _
  limit := rfl
  sampleInterval := rfl
  maxAge := rfl
  maxDelta := rfl
  supervisor := rfl
  offer := rfl
  offerTimer := rfl
  targetAddress := rfl
  busTimer := rfl
  pending := rfl

theorem State.quiet_modPort (s : State) (p : Port) {f : PortState → PortState}
    (h : ∀ ps, PortState.SameSettings ps (f ps)) (hr : ∀ ps, (f ps).ring = ps.ring)
    (hs : ∀ ps, (f ps).nextSeq = ps.nextSeq) : s.Quiet (s.modPort p f) := by
  refine ⟨s.keeps_modPort p h, fun q => ?_, fun q => ?_, fun _ => rfl, rfl, rfl⟩ <;> rw [State.port_modPort] <;> split
  · subst q; exact hr _
  · rfl
  · subst q; exact hs _
  · rfl

theorem State.quiet_mapPorts (s : State) {f : PortState → PortState} (h : ∀ ps, PortState.SameSettings ps (f ps))
    (hr : ∀ ps, (f ps).ring = ps.ring) (hs : ∀ ps, (f ps).nextSeq = ps.nextSeq) : s.Quiet (s.mapPorts f) := by
  refine ⟨⟨fun q => ?_, fun _ => .refl _, fun _ => .refl _, rfl, rfl, rfl, rfl, rfl, rfl, rfl, rfl, rfl, rfl⟩,
    fun q => ?_, fun q => ?_, fun _ => rfl, rfl, rfl⟩ <;> rw [State.port_mapPorts]
  · exact h _
  · exact hr _
  · exact hs _

theorem State.keeps_modProfile (s : State) (n : Fin 32) {f : Profile → Profile}
    (h : ∀ profile, Profile.SameContents profile (f profile)) : s.Keeps (s.modProfile n f) := by
  refine ⟨fun _ => .refl _, fun _ => .refl _, fun m => ?_, rfl, rfl, rfl, rfl, rfl, rfl, rfl, rfl, rfl, rfl⟩
  rw [State.profile_modProfile]
  split
  · subst m; exact h _
  · exact .refl _

theorem State.quiet_modProfile (s : State) (n : Fin 32) {f : Profile → Profile}
    (h : ∀ profile, Profile.SameContents profile (f profile)) (hr : ∀ profile, (f profile).record = profile.record) :
    s.Quiet (s.modProfile n f) := by
  refine ⟨s.keeps_modProfile n h, fun _ => rfl, fun _ => rfl, fun m => ?_, rfl, rfl⟩
  rw [State.profile_modProfile]
  split
  · subst m; exact hr _
  · rfl

theorem State.quiet_mapProfiles (s : State) {f : Fin 32 → Profile → Profile}
    (h : ∀ n profile, Profile.SameContents profile (f n profile))
    (hr : ∀ n profile, (f n profile).record = profile.record) : s.Quiet (s.mapProfiles f) := by
  refine ⟨⟨fun _ => .refl _, fun _ => .refl _, fun m => ?_, rfl, rfl, rfl, rfl, rfl, rfl, rfl, rfl, rfl, rfl⟩,
    fun _ => rfl, fun _ => rfl, fun m => ?_, rfl, rfl⟩ <;> rw [State.profile_mapProfiles]
  · exact h _ _
  · exact hr _ _

theorem State.quiet_outputs (s : State) {x : PerOutput OutputState}
    (h : ∀ o, (s.output o).SameSettings (x.get o)) : s.Quiet { s with outputs := x } :=
  ⟨⟨fun _ => .refl _, h, fun _ => .refl _, rfl, rfl, rfl, rfl, rfl, rfl, rfl, rfl, rfl, rfl⟩,
    fun _ => rfl, fun _ => rfl, fun _ => rfl, rfl, rfl⟩

theorem State.quiet_modEngine (s : State) (f : Engine → Engine) : s.Quiet (s.modEngine f) :=
  ⟨⟨fun _ => .refl _, fun _ => .refl _, fun _ => .refl _, rfl, rfl, rfl, rfl, rfl, rfl, rfl, rfl, rfl, rfl⟩,
    fun _ => rfl, fun _ => rfl, fun _ => rfl, rfl, rfl⟩

theorem State.quiet_modArbiter (s : State) {f : Arbiter → Arbiter} (h : ∀ a, (f a).limit = a.limit) :
    s.Quiet (s.modArbiter f) :=
  ⟨⟨fun _ => .refl _, fun _ => .refl _, fun _ => .refl _, h _, rfl, rfl, rfl, rfl, rfl, rfl, rfl, rfl, rfl⟩,
    fun _ => rfl, fun _ => rfl, fun _ => rfl, rfl, rfl⟩

/-- A change of the monitor that keeps its policy and its temperature. -/
theorem State.quiet_monitor (s : State) {m : Monitor} (hi : m.sampleInterval = s.monitor.sampleInterval)
    (ha : m.maxAge = s.monitor.maxAge) (hd : m.maxDelta = s.monitor.maxDelta)
    (ht : m.temperature = s.monitor.temperature) (hv : m.valid = s.monitor.valid) :
    s.Quiet { s with monitor := m } :=
  ⟨⟨fun _ => .refl _, fun _ => .refl _, fun _ => .refl _, rfl, hi, ha, hd, rfl, rfl, rfl, rfl, rfl, rfl⟩,
    fun _ => rfl, fun _ => rfl, fun _ => rfl, ht, hv⟩

/-! ## Notices -/

theorem PortState.sameSettings_post (ps : PortState) (n : Notice) : ps.SameSettings (ps.post n) := by
  constructor <;> simp

theorem State.quiet_post (s : State) (p : Port) (n : Notice) : s.Quiet (s.post p n) :=
  s.quiet_modPort p (fun ps => ps.sameSettings_post n) (fun ps => ps.post_ring n) fun ps => ps.post_nextSeq n

theorem State.quiet_postAll (s : State) (n : Notice) : s.Quiet (s.postAll n) :=
  s.quiet_mapPorts (fun ps => ps.sameSettings_post n) (fun ps => ps.post_ring n) fun ps => ps.post_nextSeq n

theorem State.quiet_postOwner (s : State) (owner : Option Source) (n : Notice) : s.Quiet (s.postOwner owner n) := by
  unfold State.postOwner
  split
  · exact s.quiet_post _ n
  · exact .refl s

theorem State.quiet_postEnded (s : State) (reason : Reason) (r : Request) : s.Quiet (s.postEnded reason r) := by
  unfold State.postEnded
  split
  · exact s.quiet_post _ _
  · exact .refl s

/-! ## Outputs and demand -/

theorem OutputState.sameSettings_move (o : OutputState) (down : Bool) : o.SameSettings (o.move down) := by
  unfold OutputState.move OutputState.warmIfDemanded OutputState.warm OutputState.switchOff OutputState.leaveReady
    OutputState.becomeReady OutputState.switchOff
  split <;> (try split) <;> exact ⟨rfl, rfl, rfl, rfl, rfl⟩

theorem OutputState.sameSettings_judgedFrom (new old : OutputState) (down : Bool) :
    new.SameSettings (new.judgedFrom old down) := by
  unfold OutputState.judgedFrom
  split
  · exact .refl new
  · exact new.sameSettings_move down

/-- Handing over the demand changes the outputs alone (R46). -/
theorem State.handOverDemand_rest (s : State) (f : OutputState → OutputState) :
    s.handOverDemand f = { s with outputs := (s.handOverDemand f).outputs } := rfl

theorem State.quiet_refreshDemand (s : State) : s.Quiet s.refreshDemand := by
  refine s.quiet_outputs fun o => ?_
  cases o <;>
  · refine .trans ?_ (OutputState.sameSettings_judgedFrom _ _ _)
    exact ⟨rfl, rfl, rfl, rfl, rfl⟩

theorem OutputState.sameSettings_forceOff (o : OutputState) : o.SameSettings o.forceOff := by
  unfold OutputState.forceOff OutputState.switchOff
  split <;> exact ⟨rfl, rfl, rfl, rfl, rfl⟩

theorem OutputState.sameSettings_trip (o : OutputState) : o.SameSettings o.trip := by
  unfold OutputState.trip OutputState.switchOff
  dsimp only
  split <;> exact ⟨rfl, rfl, rfl, rfl, rfl⟩

/-! ## Live requests and terminations -/

theorem State.quiet_modFlight (s : State) (f : Request → Request) : s.Quiet (s.modFlight f) := by
  unfold State.modFlight
  split
  · exact .refl s
  · exact s.quiet_modPort _ (fun _ => ⟨rfl, rfl, rfl, rfl, rfl, rfl, rfl, rfl⟩) (fun _ => rfl) fun _ => rfl
  · exact s.quiet_monitor rfl rfl rfl rfl rfl

theorem State.quiet_modSource (s : State) (r : Request) {f : PortState → PortState}
    (h : ∀ ps, PortState.SameSettings ps (f ps)) (hr : ∀ ps, (f ps).ring = ps.ring)
    (hs : ∀ ps, (f ps).nextSeq = ps.nextSeq) : s.Quiet (s.modSource r f) := by
  unfold State.modSource
  split
  · exact s.quiet_modPort _ h hr hs
  · exact .refl s

theorem State.quiet_releaseReservation (s : State) (r : Request) : s.Quiet (s.releaseReservation r) :=
  s.quiet_modSource r (fun _ => ⟨rfl, rfl, rfl, rfl, rfl, rfl, rfl, rfl⟩) (fun _ => rfl) fun _ => rfl

theorem State.quiet_drop (s : State) (ends : Request → Bool) : s.Quiet (s.drop ends) := by
  unfold State.drop
  refine .trans (.trans (s.quiet_mapPorts ?_ ?_ ?_) (State.quiet_monitor _ ?_ ?_ ?_ ?_ ?_))
    (State.quiet_mapProfiles _ ?_ ?_)
  · exact fun _ => ⟨rfl, rfl, rfl, rfl, rfl, rfl, rfl, rfl⟩
  · exact fun _ => rfl
  · exact fun _ => rfl
  all_goals first | rfl | exact fun _ _ => ⟨rfl, rfl, rfl, rfl, rfl, rfl⟩ | exact fun _ _ => rfl

theorem State.quiet_completeRetire (s : State) (n : Fin 32) : s.Quiet (s.completeRetire n) := by
  unfold State.completeRetire
  split
  · refine .trans ?_ (State.quiet_postOwner _ _ _)
    exact s.quiet_modProfile n (fun _ => ⟨rfl, rfl, rfl, rfl, rfl, rfl⟩) fun _ => rfl
  · exact .refl s

/-- An operation made of quiet ones over a list is quiet. -/
theorem State.quiet_foldl {α : Type} (f : State → α → State) (h : ∀ (s : State) x, s.Quiet (f s x)) (l : List α) (s : State) :
    s.Quiet (l.foldl f s) := by
  induction l generalizing s with
  | nil => exact .refl s
  | cons x rest ih => exact (h s x).trans (ih _)

theorem State.quiet_completeRetires (s : State) (ended : List Request) : s.Quiet (s.completeRetires ended) := by
  refine State.quiet_foldl _ (fun s n => ?_) _ s
  split
  · exact s.quiet_completeRetire n
  · exact .refl s

theorem State.quiet_abandon (s : State) (r : Request) : s.Quiet (s.abandon r) :=
  (s.quiet_releaseReservation r).trans (State.quiet_modEngine _ _)

theorem State.quiet_terminate (s : State) (reason : Reason) (ends : Request → Bool) :
    s.Quiet (s.terminate reason ends) := by
  unfold State.terminate
  dsimp only
  refine .trans ?_ (State.quiet_completeRetires _ _)
  have first : s.Quiet (match s.flight with | some r => if ends r then s.abandon r else s | none => s) := by
    split
    · split
      · exact s.quiet_abandon _
      · exact .refl s
    · exact .refl s
  split
  · exact (first.trans (State.quiet_drop _ _)).trans (State.quiet_foldl _ (fun s r => s.quiet_postEnded reason r) _ _)
  · exact first.trans (State.quiet_drop _ _)

theorem State.quiet_finish (s : State) : s.Quiet s.finish :=
  .trans (.trans (.trans (s.quiet_modEngine _) (State.quiet_drop _ _)) (State.quiet_completeRetires _ _))
    (State.quiet_refreshDemand _)

/-! ## Engine and arbiter -/

theorem State.quiet_giveBack (s : State) : s.Quiet s.giveBack := by
  unfold State.giveBack
  split
  · exact .refl s
  · split
    · exact .trans (s.quiet_terminate _ _) (State.quiet_refreshDemand _)
    · exact .trans (s.quiet_releaseReservation _) (State.quiet_modFlight _ _)

theorem State.quiet_enterDown (s : State) : s.Quiet s.enterDown := by
  have down : s.Quiet ((s.giveBack.modEngine (·.downed)).postAll (.engine .down)) :=
    (s.quiet_giveBack.trans (State.quiet_modEngine _ _)).trans (State.quiet_postAll _ _)
  unfold State.enterDown
  dsimp only
  generalize (s.giveBack.modEngine (·.downed)).postAll (.engine .down) = t at down ⊢
  have off : t.Quiet { t with outputs := { exa := t.outputs.exa.forceOff, exb := t.outputs.exb.forceOff } } := by
    refine t.quiet_outputs fun o => ?_
    cases o
    · exact OutputState.sameSettings_forceOff _
    · exact OutputState.sameSettings_forceOff _
  refine (down.trans off).trans ?_
  generalize ht : ({ t with outputs := _ } : State) = u
  have e := u.quiet_monitor (m := { u.monitor with intervalTimer := .stopped }) rfl rfl rfl rfl rfl
  rw [← ht] at e ⊢
  exact e

theorem State.quiet_grant (s : State) (f : Flight) : s.Quiet (s.grant f) := by
  unfold State.grant
  dsimp only
  split
  · exact .refl s
  · refine .trans (.trans (.trans (s.quiet_modEngine _) (State.quiet_modFlight _ _)) (State.quiet_modSource _ _ ?_ ?_ ?_))
      (State.quiet_modEngine _ _)
    · exact fun _ => ⟨rfl, rfl, rfl, rfl, rfl, rfl, rfl, rfl⟩
    · exact fun _ => rfl
    · exact fun _ => rfl

theorem State.quiet_refill (s : State) : s.Quiet s.refill := by
  unfold State.refill
  split
  · exact .refl s
  · exact s.quiet_mapPorts (fun _ => ⟨rfl, rfl, rfl, rfl, rfl, rfl, rfl, rfl⟩) (fun _ => rfl) fun _ => rfl

theorem State.quiet_choosePort (s : State) (boundary : Bool) : s.Quiet (s.choosePort boundary) := by
  unfold State.choosePort
  split
  · refine .trans ?_ (State.quiet_grant _ _)
    exact s.quiet_modArbiter fun _ => rfl
  · split
    · refine .trans ?_ (State.quiet_grant _ _)
      exact s.quiet_modArbiter fun _ => rfl
    · exact s.quiet_modEngine _

theorem State.quiet_grantPoint (s : State) (boundary : Bool) : s.Quiet (s.grantPoint boundary) := by
  unfold State.grantPoint
  split
  · exact s.quiet_grant _
  · split
    · exact .trans s.quiet_refill (State.quiet_choosePort _ _)
    · exact s.quiet_modEngine _

/-- A kick does nothing, or is a grant point of kind 1 at an idle converter with an eligible candidate (R52, R53). -/
theorem State.kick_cases (s : State) :
    (s.isIdle && s.anyEligible) = false ∧ s.kick = s ∨ (s.isIdle && s.anyEligible) = true ∧ s.kick = s.grantPoint false := by
  unfold State.kick
  cases s.isIdle && s.anyEligible <;> simp

theorem State.quiet_kick (s : State) : s.Quiet s.kick := by
  rcases s.kick_cases with ⟨-, e⟩ | ⟨-, e⟩ <;> rw [e]
  · exact .refl s
  · exact s.quiet_grantPoint _

/-- A freed converter: a grant point in RUNNING, the end of the halt in HALTING, nothing in DOWN and STARTING (R52, R71). -/
theorem State.freed_cases (s : State) (boundary : Bool) :
    s.engine.state = .running ∧ s.freed boundary = s.grantPoint boundary ∨
      s.engine.state = .halting ∧ s.freed boundary = s.enterDown ∨
      (s.engine.state = .down ∨ s.engine.state = .starting) ∧ s.freed boundary = s := by
  unfold State.freed
  cases s.engine.state <;> simp

theorem State.quiet_freed (s : State) (boundary : Bool) : s.Quiet (s.freed boundary) := by
  rcases s.freed_cases boundary with ⟨-, e⟩ | ⟨-, e⟩ | ⟨-, e⟩ <;> rw [e]
  · exact s.quiet_grantPoint _
  · exact s.quiet_enterDown
  · exact .refl s

theorem State.quiet_afterTerminations (s : State) (abandoned : Bool) : s.Quiet (s.afterTerminations abandoned) := by
  unfold State.afterTerminations
  split
  · exact s.quiet_freed _
  · exact s.quiet_kick

/-! ## Monitor -/

theorem State.quiet_place (s : State) (n : Fin 32) (kind : Kind) : s.Quiet (s.place n kind) := by
  have h := s.quiet_monitor (m := { s.monitor with queue := s.monitor.queue ++ [monitorEntry n kind] }) rfl rfl rfl rfl rfl
  refine h.trans (State.quiet_modProfile _ n (f := fun profile => { profile with refCount := profile.refCount + 1 }) ?_ ?_)
  · exact fun _ => ⟨rfl, rfl, rfl, rfl, rfl, rfl⟩
  · exact fun _ => rfl

theorem State.quiet_placeSample (s : State) : s.Quiet s.placeSample := by
  unfold State.placeSample
  split
  · exact .refl s
  · exact .trans (s.quiet_place _ _) (State.quiet_refreshDemand _)

theorem State.quiet_offerZero (s : State) (n : Fin 32) : s.Quiet (s.offerZero n) := by
  unfold State.offerZero
  split
  · exact s.quiet_place _ _
  · exact .refl s

theorem State.keeps_ageProfile (s : State) (n : Fin 32) : s.Keeps (s.ageProfile n) := by
  unfold State.ageProfile
  split
  · exact .refl s
  · rename_i r _
    have aged : s.Keeps (s.modProfile n fun profile => { profile with record := some (r.aged s.monitor) }) :=
      s.keeps_modProfile n fun _ => ⟨rfl, rfl, rfl, rfl, rfl, rfl⟩
    have judged : s.Keeps (match r.newlyStale s.monitor with
        | some criterion => (s.modProfile n fun profile => { profile with record := some (r.aged s.monitor) }).postOwner
            (s.profile n).owner (.offsetStale n criterion)
        | none => s.modProfile n fun profile => { profile with record := some (r.aged s.monitor) }) := by
      split
      · exact aged.trans (State.quiet_postOwner _ _ _).1
      · exact aged
    dsimp only
    split
    · exact judged.trans (State.quiet_offerZero _ _).1
    · exact judged

theorem State.keeps_ageingPass (s : State) : s.Keeps s.ageingPass := by
  unfold State.ageingPass
  generalize profileNumbers = l
  induction l generalizing s with
  | nil => exact .refl s
  | cons n rest ih => exact (s.keeps_ageProfile n).trans (ih _)

/-- A finished sample gives the temperature; rings and settings stay. -/
theorem State.keeps_completeSample (s : State) (value : Int) : s.Keeps (s.completeSample value) := by
  refine .trans (.trans ?_ (State.keeps_ageingPass _)) (State.quiet_finish _).1
  exact ⟨fun _ => .refl _, fun _ => .refl _, fun _ => .refl _, rfl, rfl, rfl, rfl, rfl, rfl, rfl, rfl, rfl, rfl⟩

/-! ## Results -/

theorem PortState.sameSettings_judgeHighWater (ps : PortState) : ps.SameSettings ps.judgeHighWater := by
  unfold PortState.judgeHighWater
  split
  · constructor <;> simp
  · exact .refl ps

theorem PortState.sameSettings_writeResult (ps : PortState) (reserved : Bool) (record : ResultRecord) :
    ps.SameSettings (ps.writeResult reserved record) := by
  have h := PortState.sameSettings_judgeHighWater
    { ps with
      reservations := if reserved then ps.reservations - 1 else ps.reservations
      nextSeq := ps.nextSeq + 1
      ring := ps.ring ++ [{ record with sequence := ps.nextSeq }] }
  exact ⟨h.1, h.2, h.3, h.4, h.5, h.6, h.7, h.8⟩

theorem State.keeps_writeToRing (s : State) (r : Request) (record : ResultRecord) : s.Keeps (s.writeToRing r record) := by
  unfold State.writeToRing State.modSource
  split
  · refine s.keeps_modPort _ fun ps => ?_
    have h := ps.sameSettings_writeResult (decide (r.run = .contiguous)) record
    exact ⟨h.1, h.2, h.3, h.4, h.5, h.6, h.7, h.8⟩
  · exact .refl s

theorem State.quiet_postWindow (s : State) (r : Request) (value : Int) : s.Quiet (s.postWindow r value) := by
  unfold State.postWindow
  split
  · split
    · exact s.quiet_post _ _
    · exact .refl s
  · exact .refl s

theorem State.quiet_endTurn (s : State) (r : Request) (value : Int) : s.Quiet (s.endTurn r value) := by
  unfold State.endTurn
  split
  · exact s.quiet_finish
  · split
    · refine .trans (s.quiet_modSource r ?_ ?_ ?_) (State.quiet_modEngine _ _)
      · exact fun _ => ⟨rfl, rfl, rfl, rfl, rfl, rfl, rfl, rfl⟩
      · exact fun _ => rfl
      · exact fun _ => rfl
    · exact .trans (s.quiet_modFlight _) (State.quiet_modEngine _ _)

theorem State.keeps_deliver (s : State) (r : Request) (formed : Formed) : s.Keeps (s.deliver r formed) :=
  .trans (.trans (s.keeps_writeToRing r _) (State.quiet_postWindow _ _ _).1) (State.quiet_endTurn _ _ _).1

theorem State.keeps_writeRecord (s : State) (r : Request) (value : Int) : s.Keeps (s.writeRecord r value) := by
  unfold State.writeRecord
  refine .trans ?_ (State.quiet_postOwner _ _ _).1
  exact s.keeps_modProfile _ fun _ => ⟨rfl, rfl, rfl, rfl, rfl, rfl⟩

theorem State.keeps_completeZero (s : State) (r : Request) (value : Int) (overload : Bool) :
    s.Keeps (s.completeZero r value overload) := by
  unfold State.completeZero
  exact ((s.keeps_writeToRing r _).trans (State.keeps_writeRecord _ _ _)).trans (State.quiet_finish _).1

theorem State.keeps_useOutput (s : State) (r : Request) (step : OpStep) (l : LoadedSetup) (raw : Int) (overload : Bool) :
    s.Keeps (s.useOutput r step l raw overload) := by
  unfold State.useOutput
  split
  iterate 4 exact (s.quiet_modEngine _).1
  · unfold State.useResult
    split
    · exact s.keeps_completeSample _
    · exact s.keeps_deliver _ _
  · exact (s.quiet_modEngine _).1
  · unfold State.chopOutput
    split
    · exact s.keeps_deliver _ _
    · exact .refl s
  · unfold State.averageOutput
    dsimp only
    split
    · exact (s.quiet_modEngine _).1
    · exact s.keeps_completeZero _ _ _

theorem State.quiet_afterPeriod (s : State) : s.Quiet s.afterPeriod := by
  unfold State.afterPeriod
  split
  · exact s.quiet_enterDown
  · split
    · exact s.quiet_freed _
    · exact .refl s

/-- The end of an output period moves work and results alone. -/
theorem State.keeps_endPeriod (s : State) (raw : Int) (overload : Bool) : s.Keeps (s.endPeriod raw overload) := by
  unfold State.endPeriod
  split
  · exact .trans (.trans (s.quiet_modEngine _).1 (State.keeps_useOutput _ _ _ _ _ _)) (State.quiet_afterPeriod _).1
  · exact .refl s

end Sys2Proof.Machine
end

