-- ==== Sys2Proof/Laws/Requests.lean ====
section
/-! SUPPORT. What posting, dropping, retiring and terminating leave of queues, slots, reference counts and the engine
(R8, R9, R28 to R31): one lemma for each part of the state that the operation moves. -/

namespace Sys2Proof.Machine

/-! ## Postings move notices alone -/

section
variable (s : State) (p q : Port) (n : Notice)

@[simp] theorem State.post_profile (m : Fin 32) : (s.post p n).profile m = s.profile m := rfl
@[simp] theorem State.post_output (o : OutputId) : (s.post p n).output o = s.output o := rfl
@[simp] theorem State.post_outputs : (s.post p n).outputs = s.outputs := rfl
@[simp] theorem State.post_engine : (s.post p n).engine = s.engine := rfl
@[simp] theorem State.post_arbiter : (s.post p n).arbiter = s.arbiter := rfl
@[simp] theorem State.post_monitor : (s.post p n).monitor = s.monitor := rfl
@[simp] theorem State.postAll_profile (m : Fin 32) : (s.postAll n).profile m = s.profile m := rfl
@[simp] theorem State.postAll_output (o : OutputId) : (s.postAll n).output o = s.output o := rfl
@[simp] theorem State.postAll_outputs : (s.postAll n).outputs = s.outputs := rfl
@[simp] theorem State.postAll_engine : (s.postAll n).engine = s.engine := rfl
@[simp] theorem State.postAll_arbiter : (s.postAll n).arbiter = s.arbiter := rfl
@[simp] theorem State.postAll_monitor : (s.postAll n).monitor = s.monitor := rfl
@[simp] theorem State.postAll_port : (s.postAll n).port q = (s.port q).post n := State.port_mapPorts _ _ _

/-- A posting reaches its own port alone. -/
theorem State.post_port : (s.post p n).port q = if q = p then (s.port p).post n else s.port q := State.port_modPort _ _ _ _

end

/-- Two states that differ in notice queues, lost flags and ALERT lines alone. -/
structure State.NoticesOnly (s t : State) : Prop where
  ports : ∀ q, t.port q = { s.port q with
    notices := (t.port q).notices, lost := (t.port q).lost, alertLow := (t.port q).alertLow }
  rest : t = { s with ports := t.ports }

theorem State.NoticesOnly.refl (s : State) : s.NoticesOnly s := ⟨fun _ => rfl, rfl⟩

theorem State.NoticesOnly.trans {s t u : State} (h : s.NoticesOnly t) (k : t.NoticesOnly u) : s.NoticesOnly u := by
  refine ⟨fun q => ?_, ?_⟩
  · have a := h.ports q
    have b := k.ports q
    rw [a] at b
    rw [b]
  · have a := h.rest
    have b := k.rest
    rw [a] at b
    rw [b]

theorem State.noticesOnly_post (s : State) (p : Port) (n : Notice) : s.NoticesOnly (s.post p n) := by
  refine ⟨fun q => ?_, rfl⟩
  rw [State.post_port]
  split
  · subst q; exact PortState.post_rest _ _
  · rfl

theorem State.noticesOnly_postAll (s : State) (n : Notice) : s.NoticesOnly (s.postAll n) := by
  refine ⟨fun q => ?_, rfl⟩
  rw [State.postAll_port]
  exact PortState.post_rest _ _

theorem State.noticesOnly_postOwner (s : State) (owner : Option Source) (n : Notice) :
    s.NoticesOnly (s.postOwner owner n) := by
  unfold State.postOwner
  split
  · exact s.noticesOnly_post _ n
  · exact .refl s

theorem State.noticesOnly_postEnded (s : State) (reason : Reason) (r : Request) :
    s.NoticesOnly (s.postEnded reason r) := by
  unfold State.postEnded
  split
  · exact s.noticesOnly_post _ _
  · exact .refl s

theorem State.noticesOnly_postEnds (s : State) (reason : Reason) (ended : List Request) :
    s.NoticesOnly (ended.foldl (·.postEnded reason ·) s) := by
  induction ended generalizing s with
  | nil => exact .refl s
  | cons r rest ih => exact (s.noticesOnly_postEnded reason r).trans (ih _)

namespace State.NoticesOnly

variable {s t : State} (h : s.NoticesOnly t)
include h

theorem queue (q : Port) : (t.port q).queue = (s.port q).queue := by rw [h.ports q]
theorem used (q : Port) : (t.port q).used = (s.port q).used := by rw [h.ports q]
theorem reservations (q : Port) : (t.port q).reservations = (s.port q).reservations := by rw [h.ports q]
theorem credit (q : Port) : (t.port q).credit = (s.port q).credit := by rw [h.ports q]
theorem profiles : t.profiles = s.profiles := by rw [h.rest]
theorem profile (n : Fin 32) : t.profile n = s.profile n := by rw [h.rest]; rfl
theorem outputs : t.outputs = s.outputs := by rw [h.rest]
theorem engine : t.engine = s.engine := by rw [h.rest]
theorem arbiter : t.arbiter = s.arbiter := by rw [h.rest]
theorem monitor : t.monitor = s.monitor := by rw [h.rest]

end State.NoticesOnly

/-! ## Dropping (R28 steps 1 to 3) -/

theorem State.port_drop (s : State) (ends : Request → Bool) (q : Port) : (s.drop ends).port q = (s.port q).drop ends := by
  simp [State.drop]

theorem State.monitor_drop (s : State) (ends : Request → Bool) :
    (s.drop ends).monitor = { s.monitor with queue := s.monitor.queue.filter (!ends ·) } := rfl

theorem State.profile_drop (s : State) (ends : Request → Bool) (n : Fin 32) :
    (s.drop ends).profile n =
      { s.profile n with
        refCount := (s.profile n).refCount - (s.live.filter ends).countP (fun r => decide (r.profile = n)) } := by
  simp [State.drop]

theorem State.engine_drop (s : State) (ends : Request → Bool) : (s.drop ends).engine = s.engine := rfl
theorem State.arbiter_drop (s : State) (ends : Request → Bool) : (s.drop ends).arbiter = s.arbiter := rfl
theorem State.outputs_drop (s : State) (ends : Request → Bool) : (s.drop ends).outputs = s.outputs := rfl

/-! ## Completed retires (R9) -/

/-- Two states that differ in notices, and in profiles by a state gone from RETIRING to CLAIMED at reference count 0. -/
structure State.RetiresOnly (s t : State) : Prop where
  ports : ∀ q, t.port q = { s.port q with
    notices := (t.port q).notices, lost := (t.port q).lost, alertLow := (t.port q).alertLow }
  profile : ∀ n, t.profile n = s.profile n ∨ (s.profile n).state = .retiring ∧ (s.profile n).refCount = 0 ∧
    t.profile n = { s.profile n with state := .claimed }
  rest : t = { s with ports := t.ports, profiles := t.profiles }

theorem State.RetiresOnly.refl (s : State) : s.RetiresOnly s := ⟨fun _ => rfl, fun _ => .inl rfl, rfl⟩

theorem State.NoticesOnly.retiresOnly {s t : State} (h : s.NoticesOnly t) : s.RetiresOnly t :=
  ⟨h.ports, fun n => .inl (h.profile n), by rw [h.rest]⟩

theorem State.RetiresOnly.trans {s t u : State} (h : s.RetiresOnly t) (k : t.RetiresOnly u) : s.RetiresOnly u := by
  refine ⟨fun q => ?_, fun n => ?_, ?_⟩
  · have a := h.ports q
    have b := k.ports q
    rw [a] at b
    rw [b]
  · rcases h.profile n with a | ⟨a1, a2, a3⟩ <;> rcases k.profile n with b | ⟨b1, b2, b3⟩
    · exact .inl (b.trans a)
    · exact .inr ⟨a ▸ b1, a ▸ b2, by rw [b3, a]⟩
    · exact .inr ⟨a1, a2, b.trans a3⟩
    · rw [a3] at b1; cases b1
  · have a := h.rest
    have b := k.rest
    rw [a] at b
    rw [b]

theorem State.retiresOnly_completeRetire (s : State) (n : Fin 32) : s.RetiresOnly (s.completeRetire n) := by
  unfold State.completeRetire
  split
  · rename_i h
    refine .trans ?_ (State.noticesOnly_postOwner _ _ _).retiresOnly
    refine ⟨fun _ => rfl, fun m => ?_, rfl⟩
    rw [State.profile_modProfile]
    split
    · subst m; exact .inr ⟨h.1, h.2, rfl⟩
    · exact .inl rfl
  · exact .refl s

/-- A completed retire, profile by profile: nothing where it does not apply. -/
theorem State.completeRetire_profile (s : State) (n m : Fin 32) :
    (s.completeRetire n).profile m =
      if m = n ∧ (s.profile n).state = .retiring ∧ (s.profile n).refCount = 0 then { s.profile n with state := .claimed }
      else s.profile m := by
  unfold State.completeRetire
  split
  · rename_i h
    rw [(State.noticesOnly_postOwner _ _ _).profile, State.profile_modProfile]
    by_cases e : m = n <;> simp [e, h]
  · rename_i h
    have : ¬ (m = n ∧ (s.profile n).state = .retiring ∧ (s.profile n).refCount = 0) := fun x => h x.2
    rw [if_neg this]

theorem State.retiresOnly_completeRetires (s : State) (ended : List Request) : s.RetiresOnly (s.completeRetires ended) := by
  unfold State.completeRetires
  generalize profileNumbers = l
  induction l generalizing s with
  | nil => exact .refl s
  | cons n rest ih =>
    refine .trans ?_ (ih _)
    dsimp only
    split
    · exact s.retiresOnly_completeRetire n
    · exact .refl s

namespace State.RetiresOnly

variable {s t : State} (h : s.RetiresOnly t)
include h

theorem queue (q : Port) : (t.port q).queue = (s.port q).queue := by rw [h.ports q]
theorem used (q : Port) : (t.port q).used = (s.port q).used := by rw [h.ports q]
theorem reservations (q : Port) : (t.port q).reservations = (s.port q).reservations := by rw [h.ports q]
theorem credit (q : Port) : (t.port q).credit = (s.port q).credit := by rw [h.ports q]
theorem outputs : t.outputs = s.outputs := by rw [h.rest]
theorem engine : t.engine = s.engine := by rw [h.rest]
theorem arbiter : t.arbiter = s.arbiter := by rw [h.rest]
theorem monitor : t.monitor = s.monitor := by rw [h.rest]

theorem refCount (n : Fin 32) : (t.profile n).refCount = (s.profile n).refCount := by
  rcases h.profile n with e | ⟨-, -, e⟩ <;> rw [e]

end State.RetiresOnly

/-! ## Terminations (R28) -/

/-- Abandoning the in-flight request moves the engine and its port's reservation alone (R87). -/
theorem State.abandon_queue (s : State) (r : Request) (q : Port) : ((s.abandon r).port q).queue = (s.port q).queue := by
  cases hr : r.source <;> simp only [State.abandon, State.releaseReservation, State.modSource, hr]
  · rw [State.modEngine_port, State.port_modPort]; split <;> simp_all
  · rfl

theorem State.abandon_used (s : State) (r : Request) (q : Port) : ((s.abandon r).port q).used = (s.port q).used := by
  cases hr : r.source <;> simp only [State.abandon, State.releaseReservation, State.modSource, hr]
  · rw [State.modEngine_port, State.port_modPort]; split <;> simp_all
  · rfl

theorem State.abandon_monitor (s : State) (r : Request) : (s.abandon r).monitor = s.monitor := by
  cases hr : r.source <;> simp only [State.abandon, State.releaseReservation, State.modSource, hr] <;> rfl

theorem State.abandon_profile (s : State) (r : Request) (n : Fin 32) : (s.abandon r).profile n = s.profile n := by
  cases hr : r.source <;> simp only [State.abandon, State.releaseReservation, State.modSource, hr] <;> rfl

theorem State.abandon_engine (s : State) (r : Request) : (s.abandon r).engine = s.engine.noFlight.settleBreak := by
  cases hr : r.source <;> simp only [State.abandon, State.releaseReservation, State.modSource, hr] <;> rfl

theorem State.abandon_live (s : State) (r : Request) : (s.abandon r).live = s.live := by
  have a := s.abandon_queue r .a
  have b := s.abandon_queue r .b
  have c := s.abandon_queue r .c
  simp only [State.port, PerPort.get] at a b c
  simp only [State.live, a, b, c, s.abandon_monitor r]

/-- A termination in its four parts: the abandoned flight, the drop, the notices, the completed retires. -/
theorem State.terminate_parts (s : State) (reason : Reason) (ends : Request → Bool) :
    ∃ t u : State, (t = s ∧ s.flightEnds ends = false ∨ ∃ r, s.flight = some r ∧ ends r = true ∧ t = s.abandon r) ∧
      (t.drop ends).NoticesOnly u ∧ s.terminate reason ends = u.completeRetires (s.live.filter ends) := by
  unfold State.terminate
  dsimp only
  refine ⟨match s.flight with | some r => if ends r = true then s.abandon r else s | none => s, _, ?_, ?_, rfl⟩
  · cases hf : s.flight with
    | none => exact .inl ⟨rfl, by simp [State.flightEnds, hf]⟩
    | some r =>
      by_cases h : ends r = true
      · exact .inr ⟨r, rfl, h, by simp [h]⟩
      · exact .inl ⟨by simp [h], by simp [State.flightEnds, hf, h]⟩
  · have posted : ∀ x : State,
        x.NoticesOnly (if reason.posts then (s.live.filter ends).foldl (·.postEnded reason ·) x else x) := by
      intro x
      split
      · exact x.noticesOnly_postEnds _ _
      · exact .refl x
    exact posted _

/-- Every queue loses the requests that end, and keeps the others in their order. -/
theorem State.terminate_queue (s : State) (reason : Reason) (ends : Request → Bool) (q : Port) :
    ((s.terminate reason ends).port q).queue = (s.port q).queue.filter (!ends ·) := by
  obtain ⟨t, u, ht, hu, e⟩ := s.terminate_parts reason ends
  rw [e, (State.retiresOnly_completeRetires _ _).queue, hu.queue, State.port_drop]
  rcases ht with ⟨rfl, -⟩ | ⟨r, -, -, rfl⟩
  · rfl
  · simp [PortState.drop, State.abandon_queue]

/-- A port's slots fall by the requests of its queue that end. -/
theorem State.terminate_used (s : State) (reason : Reason) (ends : Request → Bool) (q : Port) :
    ((s.terminate reason ends).port q).used = (s.port q).used - (s.port q).queue.countP ends := by
  obtain ⟨t, u, ht, hu, e⟩ := s.terminate_parts reason ends
  rw [e, (State.retiresOnly_completeRetires _ _).used, hu.used, State.port_drop]
  rcases ht with ⟨rfl, -⟩ | ⟨r, -, -, rfl⟩
  · rfl
  · simp [PortState.drop, State.abandon_queue, State.abandon_used]

/-- The monitor queue loses the entries that end. -/
theorem State.terminate_monitor (s : State) (reason : Reason) (ends : Request → Bool) :
    (s.terminate reason ends).monitor = { s.monitor with queue := s.monitor.queue.filter (!ends ·) } := by
  obtain ⟨t, u, ht, hu, e⟩ := s.terminate_parts reason ends
  rw [e, (State.retiresOnly_completeRetires _ _).monitor, hu.monitor, State.monitor_drop]
  rcases ht with ⟨rfl, -⟩ | ⟨r, -, -, rfl⟩
  · rfl
  · rw [State.abandon_monitor]

/-- A reference count falls by the live requests against the profile that end. -/
theorem State.terminate_refCount (s : State) (reason : Reason) (ends : Request → Bool) (n : Fin 32) :
    ((s.terminate reason ends).profile n).refCount =
      (s.profile n).refCount - (s.live.filter ends).countP (fun r => decide (r.profile = n)) := by
  obtain ⟨t, u, ht, hu, e⟩ := s.terminate_parts reason ends
  rw [e, (State.retiresOnly_completeRetires _ _).refCount, hu.profile, State.profile_drop]
  rcases ht with ⟨rfl, -⟩ | ⟨r, -, -, rfl⟩
  · rfl
  · simp [State.abandon_profile, State.abandon_live]

/-- The engine loses its flight, with a settle break, where the in-flight request ends, and stands otherwise. -/
theorem State.terminate_engine (s : State) (reason : Reason) (ends : Request → Bool) :
    (s.terminate reason ends).engine = if s.flightEnds ends then s.engine.noFlight.settleBreak else s.engine := by
  obtain ⟨t, u, ht, hu, e⟩ := s.terminate_parts reason ends
  rw [e, (State.retiresOnly_completeRetires _ _).engine, hu.engine, State.engine_drop]
  rcases ht with ⟨rfl, h⟩ | ⟨r, hf, h, rfl⟩
  · simp [h]
  · simp [State.flightEnds, hf, h, State.abandon_engine]

/-- A termination leaves every output to the hand-over of the demand. -/
theorem State.terminate_outputs (s : State) (reason : Reason) (ends : Request → Bool) :
    (s.terminate reason ends).outputs = s.outputs := by
  obtain ⟨t, u, ht, hu, e⟩ := s.terminate_parts reason ends
  rw [e, (State.retiresOnly_completeRetires _ _).outputs, hu.outputs, State.outputs_drop]
  rcases ht with ⟨rfl, -⟩ | ⟨r, -, -, rfl⟩
  · rfl
  · cases hr : r.source <;> simp only [State.abandon, State.releaseReservation, State.modSource, hr] <;> rfl

end Sys2Proof.Machine
end

