-- ==== Sys2Proof/Laws/Arbitration.lean ====
section
/-! SUPPORT. The operations of the Converter Arbiter (R50 to R60): what a grant and a refill move, the outcomes of a grant
point, and that neither reads nor moves a port's interface. -/

namespace Sys2Proof.Machine

/-! ## The grant (R60) -/

/-- A grant with no request at the flight's place does not occur. -/
theorem State.grant_none (s : State) (f : Flight) (h : (s.modEngine fun e => { e with inFlight := some f }).flight = none) :
    s.grant f = s := by
  simp only [State.grant, h]

/-- A grant of the request that stands at the flight's place: in flight, its ring places reserved, its operation begun. -/
theorem State.grant_some (s : State) (f : Flight) (r : Request)
    (h : (s.modEngine fun e => { e with inFlight := some f }).flight = some r) :
    s.grant f = ((((s.modEngine fun e => { e with inFlight := some f }).modFlight
      fun r => { r with state := .inFlight }).modSource r
        fun ps => { ps with reservations := ps.reservations + r.reserves }).beginOperation r) := by
  simp only [State.grant, h]

/-- The engine after a grant: the flight, and the operation begun. -/
theorem State.grant_engine (s : State) (f : Flight) (r : Request)
    (h : (s.modEngine fun e => { e with inFlight := some f }).flight = some r) :
    (s.grant f).engine = { s.engine with inFlight := some f }.begin r.kind (s.profile r.profile) := by
  rw [s.grant_some f r h]
  cases hr : r.source <;> cases f <;> simp only [State.modSource, hr] <;> rfl

/-- A grant moves the engine, the granted request's record and its port's reservation; nothing else. -/
theorem State.grant_rest (s : State) (f : Flight) :
    (s.grant f).profiles = s.profiles ∧ (s.grant f).outputs = s.outputs ∧ (s.grant f).arbiter = s.arbiter ∧
      ∀ q, (s.grant f).port q =
        { s.port q with queue := ((s.grant f).port q).queue, reservations := ((s.grant f).port q).reservations } := by
  cases h : (s.modEngine fun e => { e with inFlight := some f }).flight with
  | none => rw [s.grant_none f h]; exact ⟨rfl, rfl, rfl, fun _ => rfl⟩
  | some r =>
    rw [s.grant_some f r h]
    cases hr : r.source with
    | monitor =>
      simp only [State.modSource, hr]
      cases f with
      | monitor n => exact ⟨rfl, rfl, rfl, fun _ => rfl⟩
      | port p => refine ⟨rfl, rfl, rfl, fun q => ?_⟩; cases p <;> cases q <;> rfl
    | port x =>
      simp only [State.modSource, hr]
      cases f with
      | monitor n => refine ⟨rfl, rfl, rfl, fun q => ?_⟩; cases x <;> cases q <;> rfl
      | port p => refine ⟨rfl, rfl, rfl, fun q => ?_⟩; cases x <;> cases p <;> cases q <;> rfl

/-! ## The refill and the grant point (R52 to R59) -/

/-- A refill moves credits alone. -/
theorem State.refill_rest (s : State) :
    s.refill = { s with ports := s.refill.ports } ∧
      ∀ q, s.refill.port q = { s.port q with credit := (s.refill.port q).credit } := by
  unfold State.refill
  split
  · exact ⟨rfl, fun _ => rfl⟩
  · refine ⟨rfl, fun q => ?_⟩
    rw [State.port_mapPorts]
    rfl

/-- The outcomes of a grant point, with what each rests on. -/
theorem State.grantPoint_cases (s : State) (boundary : Bool) :
    (∃ r, s.monitorCandidate = some r ∧ s.grantPoint boundary = s.grant (.monitor r.profile)) ∨
    s.monitorCandidate = none ∧
      (allPorts.any s.headEligible = false ∧ s.grantPoint boundary = s.goIdle ∨
        allPorts.any s.headEligible = true ∧
          ((∃ p, s.refill.affinityChoice boundary = some p ∧ s.grantPoint boundary = s.refill.grantByAffinity p) ∨
            s.refill.affinityChoice boundary = none ∧
              ((∃ p, s.refill.turnChoice = some p ∧ s.grantPoint boundary = s.refill.grantByTurn p) ∨
                s.refill.turnChoice = none ∧ s.grantPoint boundary = s.refill.goIdle))) := by
  unfold State.grantPoint
  cases hm : s.monitorCandidate with
  | some r => exact .inl ⟨r, rfl, rfl⟩
  | none =>
    refine .inr ⟨rfl, ?_⟩
    cases hh : allPorts.any s.headEligible with
    | false => exact .inl ⟨rfl, rfl⟩
    | true =>
      refine .inr ⟨rfl, ?_⟩
      simp only [if_true]
      unfold State.choosePort
      cases ha : s.refill.affinityChoice boundary with
      | some p => exact .inl ⟨p, rfl, rfl⟩
      | none =>
        refine .inr ⟨rfl, ?_⟩
        cases ht : s.refill.turnChoice with
        | some p => exact .inl ⟨p, rfl, rfl⟩
        | none => exact .inr ⟨rfl, rfl⟩

/-! ## The arbiter does not read an interface -/

/-! ## What a grant leaves of the queues -/

/-- The mark of being in flight is all that a change of a queue's head to IN_FLIGHT moves. -/
theorem entries_modHead (ps : PortState) :
    ({ ps with queue := modHead (fun r => { r with state := .inFlight }) ps.queue } : PortState).entries = ps.entries := by
  cases h : ps.queue <;> simp [PortState.entries, modHead, h]

/-- A grant leaves the entries of every port's queue. -/
theorem State.grant_entries (s : State) (f : Flight) (q : Port) : ((s.grant f).port q).entries = (s.port q).entries := by
  cases h : (s.modEngine fun e => { e with inFlight := some f }).flight with
  | none => rw [s.grant_none f h]
  | some r =>
    rw [s.grant_some f r h]
    cases hr : r.source with
    | monitor =>
      simp only [State.modSource, hr]
      cases f with
      | monitor n => rfl
      | port p => cases p <;> cases q <;> first | rfl | exact entries_modHead _
    | port x =>
      simp only [State.modSource, hr]
      cases f with
      | monitor n => cases x <;> cases q <;> rfl
      | port p => cases x <;> cases p <;> cases q <;> first | rfl | exact entries_modHead _

/-- A grant point leaves the entries of every port's queue. -/
theorem State.grantPoint_entries (s : State) (boundary : Bool) (q : Port) :
    ((s.grantPoint boundary).port q).entries = (s.port q).entries := by
  have refilled : (s.refill.port q).entries = (s.port q).entries := by rw [s.refill_rest.2 q]; rfl
  unfold State.grantPoint
  split
  · exact s.grant_entries _ q
  · split
    · unfold State.choosePort
      split
      · exact (State.grant_entries _ _ q).trans refilled
      · split
        · exact (State.grant_entries _ _ q).trans refilled
        · exact refilled
    · rfl


theorem State.flight_closedAt (s : State) (p : Port) : (s.closedAt p).flight = s.flight := by
  cases hf : s.engine.inFlight with
  | none => simp only [State.flight, State.closedAt, hf]
  | some f => cases f with
    | monitor n => simp only [State.flight, State.closedAt, hf]
    | port q => cases p <;> cases q <;> simp only [State.flight, State.closedAt, hf, State.port, PerPort.get, PerPort.set]

theorem State.headEligible_closedAt (s : State) (p q : Port) : (s.closedAt p).headEligible q = s.headEligible q := by
  cases p <;> cases q <;> rfl

theorem State.headMatches_closedAt (s : State) (p q : Port) : (s.closedAt p).headMatches q = s.headMatches q := by
  cases p <;> cases q <;> rfl

theorem State.canGrant_closedAt (s : State) (p q : Port) : (s.closedAt p).canGrant q = s.canGrant q := by
  cases p <;> cases q <;> rfl

theorem State.refillCount_closedAt (s : State) (p : Port) : (s.closedAt p).refillCount = s.refillCount := by
  have e : (s.closedAt p).eligiblePorts = s.eligiblePorts := by
    simp only [State.eligiblePorts, allPorts, List.filter, State.headEligible_closedAt]
  have k : ∀ q, ((s.closedAt p).port q).refillsNeeded = (s.port q).refillsNeeded := by
    intro q; cases p <;> cases q <;> rfl
  simp only [State.refillCount, e, k]

theorem State.refill_closedAt (s : State) (p : Port) : (s.closedAt p).refill = s.refill.closedAt p := by
  unfold State.refill
  simp only [State.refillCount_closedAt, allPorts, List.any, State.canGrant_closedAt]
  split
  · rfl
  · cases p <;> rfl

theorem State.grant_closedAt (s : State) (f : Flight) (p : Port) : (s.closedAt p).grant f = (s.grant f).closedAt p := by
  have e : ((s.closedAt p).modEngine fun e => { e with inFlight := some f }) =
      (s.modEngine fun e => { e with inFlight := some f }).closedAt p := rfl
  unfold State.grant
  dsimp only
  rw [e, State.flight_closedAt]
  split
  · rfl
  · rename_i r _
    cases hr : r.source with
    | monitor => cases f with
      | monitor n => cases p <;> simp only [State.modSource, hr] <;> rfl
      | port q => cases p <;> cases q <;> simp only [State.modSource, hr] <;> rfl
    | port x => cases f with
      | monitor n => cases p <;> cases x <;> simp only [State.modSource, hr] <;> rfl
      | port q => cases p <;> cases q <;> cases x <;> simp only [State.modSource, hr] <;> rfl

theorem State.choosePort_closedAt (s : State) (boundary : Bool) (p : Port) :
    (s.closedAt p).choosePort boundary = (s.choosePort boundary).closedAt p := by
  have a : (s.closedAt p).affinityChoice boundary = s.affinityChoice boundary := by
    have : (fun q => (s.closedAt p).canGrant q && (s.closedAt p).headMatches q) =
        fun q => s.canGrant q && s.headMatches q := by
      funext q; rw [State.canGrant_closedAt, State.headMatches_closedAt]
    unfold State.affinityChoice
    rw [this]
    rfl
  have t : (s.closedAt p).turnChoice = s.turnChoice := by
    have : (s.closedAt p).canGrant = s.canGrant := funext fun q => s.canGrant_closedAt p q
    unfold State.turnChoice
    rw [this]
    rfl
  unfold State.choosePort
  rw [a, t]
  split
  · rename_i q _
    exact (s.modArbiter fun a => { a with streak := a.streak + 1 }).grant_closedAt (.port q) p
  · split
    · rename_i q _
      exact (s.modArbiter fun a => { a with streak := 0, pointer := q.next }).grant_closedAt (.port q) p
    · rfl

/-- A grant point leaves a port's interface alone, and reads nothing of it. -/
theorem State.grantPoint_closedAt (s : State) (boundary : Bool) (p : Port) :
    (s.closedAt p).grantPoint boundary = (s.grantPoint boundary).closedAt p := by
  have m : (s.closedAt p).monitorCandidate = s.monitorCandidate := rfl
  have h : (s.closedAt p).headEligible = s.headEligible := funext fun q => s.headEligible_closedAt p q
  unfold State.grantPoint
  rw [m, h]
  split
  · exact State.grant_closedAt _ _ _
  · split
    · rw [State.refill_closedAt, State.choosePort_closedAt]
    · rfl

/-- A kick leaves a port's interface alone, and reads nothing of it. -/
theorem State.kick_closedAt (s : State) (p : Port) : (s.closedAt p).kick = s.kick.closedAt p := by
  have i : (s.closedAt p).isIdle = s.isIdle := rfl
  have a : (s.closedAt p).anyEligible = s.anyEligible := by
    have h : (s.closedAt p).headEligible = s.headEligible := funext fun q => s.headEligible_closedAt p q
    unfold State.anyEligible
    rw [h]
    rfl
  unfold State.kick
  rw [i, a]
  split
  · exact State.grantPoint_closedAt _ _ _
  · rfl

end Sys2Proof.Machine
end

