-- ==== Sys2Proof/Laws/Excitation.lean ====
section
/-! SUPPORT. The operations on an excitation output (R130 to R143) in the words of Safety.lean, and what each leaves of
the items that it does not name. -/

namespace Sys2Proof.Machine

/-- A change of demand moves the output as Safety.lean's table says (R136, R137). -/
theorem OutputState.move_eq_afterDemand (o : OutputState) (down : Bool) : o.move down = o.afterDemand o.demand down := by
  unfold OutputState.move OutputState.afterDemand
  cases hs : o.state <;> cases hd : o.demand <;> dsimp only
  · cases down <;> simp [OutputState.warmIfDemanded, OutputState.warm, hs, hd]
  · rfl
  · simp only [OutputState.leaveReady, OutputState.switchOff]
    by_cases h : o.lingerTime = 0
    · simp [h]
    · simp [h, Nat.pos_of_ne_zero h]
  · rfl

/-- An OFF output that is offered its demand (R136). -/
theorem OutputState.warmIfDemanded_eq (o : OutputState) (down : Bool) (off : o.state = .off) :
    o.warmIfDemanded down = if o.demand = true then o.afterDemand true down else o := by
  unfold OutputState.warmIfDemanded OutputState.afterDemand
  cases hd : o.demand <;> cases down <;> simp [off, OutputState.warm]

/-- An output that is not OFF is not warmed. -/
theorem OutputState.warmIfDemanded_other (o : OutputState) (down : Bool) (h : o.state ≠ .off) :
    o.warmIfDemanded down = o := by
  simp [OutputState.warmIfDemanded, h]

/-- An entry to DOWN switches the output off (R138). -/
theorem OutputState.forceOff_eq_inDown (o : OutputState) : o.forceOff = o.inDown := by
  unfold OutputState.forceOff OutputState.switchedOn OutputState.inDown OutputState.switchOff
  cases o.state <;> rfl

/-- A change of demand leaves trip count, hold-off timer and the demand from requests. -/
theorem OutputState.move_rest (o : OutputState) (down : Bool) :
    (o.move down).tripCount = o.tripCount ∧ (o.move down).holdOffTimer = o.holdOffTimer ∧
      (o.move down).requestDemand = o.requestDemand := by
  unfold OutputState.move OutputState.warmIfDemanded OutputState.warm OutputState.switchOff OutputState.leaveReady
    OutputState.becomeReady OutputState.switchOff
  split <;> (try split) <;> exact ⟨rfl, rfl, rfl⟩

/-- The demand depends on the sources of demand alone (R132). -/
theorem OutputState.demand_congr {a b : OutputState} (hr : b.requestDemand = a.requestDemand) (hc : b.combine = a.combine)
    (hd : b.designated = a.designated) (hv : b.votes = a.votes) : b.demand = a.demand := by
  simp only [OutputState.demand, OutputState.combinedVote, hr, hc, hd, hv]

/-- A move does not change the demand that made it. -/
theorem OutputState.move_demand (o : OutputState) (down : Bool) : (o.move down).demand = o.demand := by
  have a := o.sameSettings_move down
  exact OutputState.demand_congr (o.move_rest down).2.2 a.combine a.designated a.votes

/-- TRIPPED and LOCKED_OUT outputs do not move with their demand (R142, R143). -/
theorem OutputState.move_faulted (o : OutputState) (down : Bool) (h : o.state = .tripped ∨ o.state = .lockedOut) :
    o.move down = o := by
  rcases h with h | h <;> simp [OutputState.move, h]

/-- The states that a trip leaves (R140). -/
theorem OutputState.trip_eq (o : OutputState) :
    o.trip = { o with
      state := if o.tripCount + 1 < 3 then .tripped else .lockedOut
      tripCount := o.tripCount + 1
      warmUpTimer := .stopped, lingerTimer := .stopped, dwellTimer := .stopped
      holdOffTimer := if o.tripCount + 1 < 3 then .running 100 else o.holdOffTimer } := by
  unfold OutputState.trip OutputState.switchOff holdOffTime
  dsimp only
  split <;> rfl

/-- The engine as every entry to DOWN leaves it, apart from what is then given back (R72). -/
theorem Engine.downed_eq_inDown (e : Engine) : e.downed = .inDown := rfl

/-- The three ways in which an entry to DOWN gives the in-flight request back (R72, R16). -/
theorem State.giveBack_cases (s : State) :
    s.flight = none ∧ s.giveBack = s ∨
    (∃ r, s.flight = some r ∧ r.finalMark = true ∧
      s.giveBack = (s.terminate .retired (·.isInFlight)).refreshDemand) ∨
    ∃ r, s.flight = some r ∧ r.finalMark = false ∧
      s.giveBack = (s.releaseReservation r).modFlight fun r => { r with state := .queued } := by
  unfold State.giveBack
  cases hf : s.flight with
  | none => exact .inl ⟨rfl, rfl⟩
  | some r =>
    cases hm : r.finalMark with
    | true => exact .inr (.inl ⟨r, rfl, hm, by simp [hm]⟩)
    | false => exact .inr (.inr ⟨r, rfl, hm, by simp [hm]⟩)

/-- The parts of an entry to DOWN (R72, R138, R95). -/
theorem State.enterDown_parts (s : State) :
    s.enterDown.outputs = { exa := s.giveBack.outputs.exa.inDown, exb := s.giveBack.outputs.exb.inDown } ∧
      s.enterDown.profiles = s.giveBack.profiles ∧ s.enterDown.arbiter = s.giveBack.arbiter ∧
      s.enterDown.monitor = { s.giveBack.monitor with intervalTimer := .stopped } ∧
      ∀ q, s.enterDown.port q = (s.giveBack.port q).post (.engine .down) := by
  refine ⟨?_, rfl, rfl, rfl, fun q => ?_⟩
  · simp only [← OutputState.forceOff_eq_inDown]
    rfl
  · exact State.postAll_port _ _ _

end Sys2Proof.Machine
end

