-- ==== Sys2Proof/Laws/Results.lean ====
section
/-! SUPPORT. What a result write, the filter and the delivery of a result move (R75, R81, R82, R111 to R119). -/

namespace Sys2Proof.Machine

/-- A result write: the record at the ring's end under its next number, a reserved place used, and RING_HIGH (R114, R119). -/
theorem PortState.writeResult_parts (ps : PortState) (reserved : Bool) (record : ResultRecord) :
    (ps.writeResult reserved record).ring = ps.ring ++ [{ record with sequence := ps.nextSeq }] ∧
      (ps.writeResult reserved record).nextSeq = ps.nextSeq + 1 ∧
      (ps.writeResult reserved record).reservations = (if reserved then ps.reservations - 1 else ps.reservations) ∧
      (ps.writeResult reserved record).queue = ps.queue ∧ (ps.writeResult reserved record).used = ps.used ∧
      (ps.writeResult reserved record).credit = ps.credit := by
  unfold PortState.writeResult PortState.judgeHighWater PortState.judgeAlert
  dsimp only
  split <;> simp

/-- The notices of a result write: RING_HIGH where the ring reaches 12 entries ARMED (R119). -/
theorem PortState.writeResult_notices (ps : PortState) (reserved : Bool) (record : ResultRecord)
    (h : ps.notices.length ≤ 8) :
    (ps.writeResult reserved record).notices = (ps.notices ++ ps.highNotices).take 8 := by
  unfold PortState.writeResult PortState.judgeHighWater PortState.judgeAlert PortState.highNotices highWaterMark
  simp only [List.length_append, List.length_singleton, Nat.reduceEqDiff]
  by_cases e : ps.highWater = .armed ∧ ps.ring.length = 11
  · rw [if_pos e, if_pos e]
    exact PortState.post_notices _ _ h
  · rw [if_neg e, if_neg e, List.append_nil, List.take_of_length_le h]

/-- An ALERT line judged after a posting stands as R127 says. -/
theorem PortState.post_alert (ps : PortState) (n : Notice) (h : ps.alertLow = ps.alertDue) :
    (ps.post n).alertLow = (ps.post n).alertDue := by
  unfold PortState.post PortState.judgeAlert
  split
  · rfl
  · simpa only [PortState.alertDue] using h

/-- The WINDOW notice of a result in the words of Safety.lean (R81). -/
theorem State.postWindow_eq (s : State) (r : Request) (value : Int) (p : Port) (h : r.source = .port p) :
    s.postWindow r value = (r.windowNotices value).foldl (·.post p ·) s := by
  unfold State.postWindow Request.windowNotices Request.sideAfter
  rw [h]
  cases ht : r.tag <;> cases hw : r.window <;> cases hs : r.side <;> simp only [Option.map_none, Option.map_some] <;>
    try rfl
  rename_i tag w old
  have e : w.sideOf value = w.side value := by
    unfold Window.sideOf Window.side
    rfl
  rw [e]
  have known : w.side value ≠ .unknown := by
    unfold Window.side
    split
    · decide
    · split <;> decide
  unfold windowPosts
  generalize w.side value = new at known ⊢
  cases old <;> cases new <;> simp_all

/-- The filter after a period: at most four marks, newest first, and progress up to a full one (R75). -/
theorem Engine.countPeriod_eq (e : Engine) (l : LoadedSetup) (overload : Bool) :
    e.countPeriod l overload =
      { e with marks := (overload :: e.marks).take 4, progress := min (e.progress + 1) (l.setup.order.toNat - 1) } := by
  unfold Engine.countPeriod markCount LoadedSetup.fullProgress
  cases l.setup.order <;> rfl

/-- The overload of an output's filter span, judged after its own period was counted (R80). -/
theorem Engine.spanOverload_countPeriod (e : Engine) (l : LoadedSetup) (overload : Bool) :
    (e.countPeriod l overload).spanOverload l = e.overloadSpan l overload := by
  unfold Engine.spanOverload Engine.overloadSpan Engine.countPeriod markCount
  cases l.setup.order <;> simp [FilterOrder.toNat, List.take_take]

/-- The three turns of a request that has delivered a result (R82 step 5, R35). -/
theorem State.endTurn_cases (s : State) (r : Request) (value : Int) :
    r.endsAt r.nextDelivered = true ∧ s.endTurn r value = s.finish ∨
    r.endsAt r.nextDelivered = false ∧ r.run = .interleaved ∧
      s.endTurn r value = s.rotateFlight r (fun q => { q.after value with state := .queued }) ∨
    r.endsAt r.nextDelivered = false ∧ r.run = .contiguous ∧
      s.endTurn r value = (s.modFlight (·.after value)).beginOperation r := by
  unfold State.endTurn
  cases he : r.endsAt r.nextDelivered <;> cases hr : r.run <;> simp

/-- Counting and ending a request in the words of Safety.lean (R82, R16). -/
theorem Request.nextDelivered_eq (r : Request) : r.nextDelivered = r.deliveredNext := by
  unfold Request.nextDelivered Request.deliveredNext Request.continuous deliveredLimit
  by_cases h : r.count = 0 <;> simp [h]

theorem Request.endsAt_eq (r : Request) : r.endsAt r.nextDelivered = r.lastNext := by
  unfold Request.endsAt Request.lastNext Request.nextDelivered Request.continuous deliveredLimit
  by_cases h : r.count = 0 <;> simp [h]

end Sys2Proof.Machine
end

