-- ==== Sys2Proof/Laws/Deciding.lean ====
section
/-! SUPPORT. Deciding the laws of Safety.lean on a concrete state: what the witnesses of Slice0.lean rest on. -/

namespace Sys2Proof.Laws

open Sys2Proof Sys2Proof.Machine

/-- The three ports, for deciding what holds of each. -/
@[reducible] def portsFinite : Fintype Port := ⟨{.a, .b, .c}, by intro p; cases p <;> decide⟩

/-- The two outputs, for deciding what holds of each. -/
@[reducible] def outputsFinite : Fintype OutputId := ⟨{.exa, .exb}, by intro o; cases o <;> decide⟩

/-- The three ports have it. -/
def everyPort (f : Port → Bool) : Bool := f .a && f .b && f .c

theorem everyPort_iff (f : Port → Bool) : everyPort f = true ↔ ∀ p, f p = true := by
  simp only [everyPort, Bool.and_eq_true]
  constructor
  · rintro ⟨⟨a, b⟩, c⟩ p
    cases p <;> assumption
  · exact fun h => ⟨⟨h .a, h .b⟩, h .c⟩

def noticesHold (s : State) : Decidable s.NoticesSound := by
  haveI := portsFinite
  delta State.NoticesSound
  infer_instance

def profilesHold (s : State) : Decidable s.ProfilesSound := by
  delta State.ProfilesSound Profile.consistent
  infer_instance

def ownersHold (s : State) : Decidable s.OwnersSound := by
  haveI := portsFinite
  delta State.OwnersSound
  infer_instance

def recordsHold (s : State) : Bool :=
  decide (∀ n, (s.profile n).record.isSome = true → (s.profile n).state ≠ .free ∧ (s.profile n).method = .stored) &&
    decide ((s.profile 0).record = none) &&
    (s.live.all fun r => decide (r.kind = .zero → r.profile ≠ 0 ∧ (s.profile r.profile).method = .stored)) &&
    s.flight.all fun r => s.engine.step.all fun step => !step.ofZero || decide (r.kind = .zero)

theorem records_of_hold (s : State) (h : recordsHold s = true) : s.RecordsSound := by
  simp only [recordsHold, Bool.and_eq_true, List.all_eq_true, decide_eq_true_eq] at h
  obtain ⟨⟨⟨a, b⟩, c⟩, d⟩ := h
  refine ⟨fun n rec hr => a n (by rw [hr]; rfl), b, c, fun r step hf hs hz => ?_⟩
  simpa [hf, hs, hz] using d

def noneWaitHolds (s : State) : Bool :=
  !(decide (s.engine.state = .running) && s.engine.inFlight.isNone) ||
    ((s.monitor.queue.all fun r => !s.monitorEligible r) && everyPort fun p => !s.headEligible p)

theorem noneWaits_of_holds (s : State) (h : noneWaitHolds s = true) : s.NoCandidateWaits := by
  intro hr hf
  simpa [noneWaitHolds, hr, hf, everyPort_iff] using h

def referencesHold (s : State) : Decidable s.ReferencesCount := by
  delta State.ReferencesCount
  infer_instance

def retiringHolds (s : State) : Decidable s.RetiringHeld := by
  delta State.RetiringHeld
  infer_instance

def demandHolds (s : State) : Decidable s.DemandHandedOver := by
  haveI := outputsFinite
  delta State.DemandHandedOver
  infer_instance

def slotsHold (s : State) : Decidable s.SlotsLawful := by
  haveI := portsFinite
  delta State.SlotsLawful
  infer_instance

def monitorQueueHolds (s : State) : Decidable s.MonitorQueueLawful := by
  delta State.MonitorQueueLawful
  infer_instance

def engineHolds (s : State) : Decidable s.EngineLawful := by
  delta State.EngineLawful
  infer_instance

def excitationHolds (s : State) : Decidable s.ExcitationSound := by
  haveI := outputsFinite
  delta State.ExcitationSound OutputState.sound
  infer_instance

def requestHolds (r : Request) : Decidable r.lawful := by
  delta Request.lawful
  infer_instance

/-- What holds of the head of a queue; false of an empty one. -/
def ofHead (f : Request → Bool) : List Request → Bool
  | [] => false
  | r :: _ => f r

def oneInFlightHolds (s : State) : Bool :=
  (everyPort fun p => (s.port p).queue.tail.all fun r => decide (r.state = .queued)) &&
    (everyPort fun p => (s.port p).queue.head?.all fun r =>
      decide (r.state = .inFlight ↔ s.engine.inFlight = some (.port p))) &&
    (s.monitor.queue.all fun r => decide (r.state = .inFlight ↔ s.engine.inFlight = some (.monitor r.profile))) &&
    (everyPort fun p => decide (s.engine.inFlight = some (.port p) → (s.port p).queue ≠ [])) &&
    decide (∀ n, s.engine.inFlight = some (.monitor n) → ∃ r ∈ s.monitor.queue, r.profile = n)

theorem oneInFlight_of_holds (s : State) (h : oneInFlightHolds s = true) : s.OneInFlight := by
  simp only [oneInFlightHolds, Bool.and_eq_true, everyPort_iff, List.all_eq_true, decide_eq_true_eq] at h
  obtain ⟨⟨⟨⟨a, b⟩, c⟩, d⟩, e⟩ := h
  refine ⟨a, fun p r hr => ?_, c, d, e⟩
  have := b p
  rw [hr] at this
  simpa using this

def ringsHold (s : State) : Bool :=
  (everyPort fun p => decide ((s.port p).ring.length + (s.port p).reservations ≤ 16)) &&
    (everyPort fun p => (s.port p).queue.all fun r => decide (r.source = .port p) && @decide _ (requestHolds r)) &&
    (s.monitor.queue.all fun r => decide (r.source = .monitor)) &&
    (everyPort fun p => decide (s.engine.inFlight ≠ some (.port p) → (s.port p).reservations = 0)) &&
    (everyPort fun p => !decide (s.engine.inFlight = some (.port p)) || ofHead (fun r =>
      decide (r.state = .inFlight) && (s.engine.step.all fun step => !step.ofZero || decide (r.kind = .zero)) &&
        match r.run with
        | .contiguous => decide ((s.port p).reservations = r.count - r.delivered)
        | .interleaved => decide ((s.port p).reservations = 0 ∧ (s.port p).ring.length < 16)) (s.port p).queue)

theorem rings_of_hold (s : State) (h : ringsHold s = true) : s.RingsHoldRoom := by
  simp only [ringsHold, Bool.and_eq_true, everyPort_iff, List.all_eq_true, decide_eq_true_eq] at h
  obtain ⟨⟨⟨⟨a, b⟩, c⟩, d⟩, e⟩ := h
  refine ⟨a, fun p r hr => ⟨(b p r hr).1, (b p r hr).2⟩, c, d, fun p hp => ?_⟩
  have := e p
  cases hq : (s.port p).queue with
  | nil => simp [hp, hq, ofHead] at this
  | cons r rest =>
    refine ⟨r, rest, rfl, ?_⟩
    simp only [hp, hq, ofHead, decide_true, Bool.not_true, Bool.false_or, Bool.and_eq_true, decide_eq_true_eq] at this
    obtain ⟨⟨x, y⟩, z⟩ := this
    refine ⟨x, fun step hs hz => ?_, ?_⟩
    · simpa [hs, hz] using y
    · cases hr : r.run <;> simpa [hr] using z

def creditsHold (s : State) : Bool :=
  (everyPort fun p => decide (-15 ≤ (s.port p).credit ∧ (s.port p).credit ≤ (s.port p).weight ∧ 1 ≤ (s.port p).weight ∧
    (s.port p).weight ≤ 8)) &&
    everyPort fun p => !decide (s.engine.inFlight = some (.port p)) || ofHead (fun r =>
      match r.run with
      | .contiguous => decide (((r.count - r.delivered : Nat) : Int) - 15 ≤ (s.port p).credit)
      | .interleaved => decide (1 ≤ (s.port p).credit)) (s.port p).queue

theorem credits_of_hold (s : State) (h : creditsHold s = true) : s.CreditsLawful := by
  simp only [creditsHold, Bool.and_eq_true, everyPort_iff, decide_eq_true_eq] at h
  refine ⟨h.1, fun p r rest hp hq => ?_⟩
  have := h.2 p
  simp only [hp, hq, ofHead, decide_true, Bool.not_true, Bool.false_or] at this
  cases hr : r.run <;> simpa [hr] using this

def filterHolds (s : State) : Bool :=
  (s.engine.step.all fun step => !step.usesOutput ||
    s.engine.loaded.any fun l => decide (l.setup.order.toNat - 1 ≤ s.engine.progress)) &&
    decide (s.engine.inFlight = none → s.engine.step = none) &&
    decide (s.engine.state = .down ∨ s.engine.state = .starting → s.engine.inFlight = none)

theorem filter_of_holds (s : State) (h : filterHolds s = true) : s.FilterSettled := by
  simp only [filterHolds, Bool.and_eq_true, decide_eq_true_eq] at h
  refine ⟨fun step hs hu => ?_, h.1.2, h.2⟩
  have := h.1.1
  simp only [hs, Option.all_some, hu, Bool.not_true, Bool.false_or] at this
  cases hl : s.engine.loaded with
  | none => simp [hl] at this
  | some l => exact ⟨l, hl, by simpa [hl] using this⟩

def flightExcitedHolds (s : State) : Bool :=
  s.flight.all fun r => (!(s.profile r.profile).need.exa || decide (s.outputs.exa.state = .ready)) &&
    (!(s.profile r.profile).need.exb || decide (s.outputs.exb.state = .ready))

theorem flightExcited_of_holds (s : State) (h : flightExcitedHolds s = true) : s.FlightExcited := by
  intro r hr o ho
  simp only [flightExcitedHolds, hr, Option.all_some, Bool.and_eq_true, Bool.or_eq_true, Bool.not_eq_true',
    decide_eq_true_eq] at h
  cases o
  · rcases h.1 with h' | h'
    · rw [show (s.profile r.profile).need.exa = true from ho] at h'; cases h'
    · exact h'
  · rcases h.2 with h' | h'
    · rw [show (s.profile r.profile).need.exb = true from ho] at h'; cases h'
    · exact h'

def offerHolds (s : State) : Bool :=
  (s.offer.all fun o => decide (o.offering = s.supervisor ∧ o.target ≠ s.supervisor)) &&
    decide (s.offer = none ↔ s.offerTimer = .stopped)

theorem offer_of_holds (s : State) (h : offerHolds s = true) : s.OfferLawful := by
  simp only [offerHolds, Bool.and_eq_true, decide_eq_true_eq] at h
  refine ⟨fun o ho => ?_, h.2⟩
  simpa [ho] using h.1

/-- Every law holds of the state. -/
def lawsHold (s : State) : Bool :=
  @decide _ (noticesHold s) && @decide _ (profilesHold s) && @decide _ (referencesHold s) && @decide _ (demandHolds s) &&
    @decide _ (slotsHold s) && @decide _ (monitorQueueHolds s) && @decide _ (engineHolds s) &&
    @decide _ (excitationHolds s) && oneInFlightHolds s && ringsHold s && creditsHold s && filterHolds s &&
    flightExcitedHolds s && offerHolds s && @decide _ (ownersHold s) && recordsHold s && noneWaitHolds s &&
    @decide _ (retiringHolds s)

/-- A state on which the laws are decided to hold is lawful. -/
theorem lawful_of_hold (s : State) (h : lawsHold s = true) : s.Lawful := by
  simp only [lawsHold, Bool.and_eq_true] at h
  obtain ⟨⟨⟨⟨⟨⟨⟨⟨⟨⟨⟨⟨⟨⟨⟨⟨⟨a, b⟩, c⟩, d⟩, e⟩, f⟩, g⟩, i⟩, j⟩, k⟩, l⟩, m⟩, n⟩, o⟩, p⟩, q⟩, r⟩, u⟩ := h
  exact
    { notices := @of_decide_eq_true _ (noticesHold s) a
      profiles := @of_decide_eq_true _ (profilesHold s) b
      owners := @of_decide_eq_true _ (ownersHold s) p
      records := records_of_hold s q
      references := @of_decide_eq_true _ (referencesHold s) c
      retiring := @of_decide_eq_true _ (retiringHolds s) u
      demand := @of_decide_eq_true _ (demandHolds s) d
      slots := @of_decide_eq_true _ (slotsHold s) e
      monitorQueue := @of_decide_eq_true _ (monitorQueueHolds s) f
      engine := @of_decide_eq_true _ (engineHolds s) g
      excitation := @of_decide_eq_true _ (excitationHolds s) i
      oneInFlight := oneInFlight_of_holds s j
      rings := rings_of_hold s k
      credits := credits_of_hold s l
      noneWaits := noneWaits_of_holds s r
      filter := filter_of_holds s m
      flightExcited := flightExcited_of_holds s n
      offer := offer_of_holds s o }

end Sys2Proof.Laws
end

