-- ==== Sys2Proof/Laws/PerInstr.lean ====
section
/-! SUPPORT. The size of every command's frame, made command by command: the length its code fixes is the length of the
payload it carries (R180, R182). An event of the table has no frame. -/

namespace Sys2Proof.Laws

open Sys2Proof.Machine

/-- The command's payload has the length that its code fixes. -/
def FrameSize.Statement (i : Instr) : Prop :=
  ∀ (p : Port) (code : CommandCode) (payload : List Byte), commandParts i = some (p, code, payload) →
    payload.length = code.payloadLength

/-- A command whose parts have the right length states it. -/
theorem frameSize_of_parts {i : Instr} {p : Port} {code : CommandCode} {payload : List Byte}
    (h : commandParts i = some (p, code, payload)) (len : payload.length = code.payloadLength) : FrameSize.Statement i := by
  intro q c bytes e
  rw [h] at e
  simp only [Option.some.injEq, Prod.mk.injEq] at e
  obtain ⟨-, rfl, rfl⟩ := e
  exact len

/-- An event states nothing. -/
theorem frameSize_of_event {i : Instr} (h : commandParts i = none) : FrameSize.Statement i := by
  intro q c bytes e
  rw [h] at e
  cases e

theorem FrameSize.nop (p : Port) : FrameSize.Statement (.nop p) := frameSize_of_parts rfl rfl
theorem FrameSize.status (p : Port) : FrameSize.Statement (.status p) := frameSize_of_parts rfl rfl
theorem FrameSize.portReset (p : Port) : FrameSize.Statement (.portReset p) := frameSize_of_parts rfl rfl
theorem FrameSize.alertConfig (p : Port) (choice : Byte) :
    FrameSize.Statement (.alertConfig p choice) := frameSize_of_parts rfl rfl
theorem FrameSize.profileClaim (p : Port) (wanted : Byte) :
    FrameSize.Statement (.profileClaim p wanted) := frameSize_of_parts rfl rfl
theorem FrameSize.profileWrite (p : Port) (fields : WriteFields) :
    FrameSize.Statement (.profileWrite p fields) := frameSize_of_parts rfl rfl
theorem FrameSize.profileRead (p : Port) (number : Byte) :
    FrameSize.Statement (.profileRead p number) := frameSize_of_parts rfl rfl
theorem FrameSize.profileShare (p : Port) (number : Byte) (share : Byte) :
    FrameSize.Statement (.profileShare p number share) := frameSize_of_parts rfl rfl
theorem FrameSize.profileRetire (p : Port) (number : Byte) :
    FrameSize.Statement (.profileRetire p number) := frameSize_of_parts rfl rfl
theorem FrameSize.profileRelease (p : Port) (number : Byte) :
    FrameSize.Statement (.profileRelease p number) := frameSize_of_parts rfl rfl
theorem FrameSize.submit (p : Port) (fields : SubmitFields) :
    FrameSize.Statement (.submit p fields) := frameSize_of_parts rfl rfl
theorem FrameSize.cancel (p : Port) (tag : Byte) : FrameSize.Statement (.cancel p tag) := frameSize_of_parts rfl rfl
theorem FrameSize.query (p : Port) (tag : Byte) : FrameSize.Statement (.query p tag) := frameSize_of_parts rfl rfl
theorem FrameSize.fetch (p : Port) (n : Byte) : FrameSize.Statement (.fetch p n) := frameSize_of_parts rfl rfl
theorem FrameSize.readNotices (p : Port) (n : Byte) : FrameSize.Statement (.readNotices p n) := frameSize_of_parts rfl rfl
theorem FrameSize.exciteVote (p : Port) (output : Byte) (vote : Byte) :
    FrameSize.Statement (.exciteVote p output vote) := frameSize_of_parts rfl rfl
theorem FrameSize.engineStart (p : Port) : FrameSize.Statement (.engineStart p) := frameSize_of_parts rfl rfl
theorem FrameSize.engineHalt (p : Port) : FrameSize.Statement (.engineHalt p) := frameSize_of_parts rfl rfl
theorem FrameSize.setQuota (p : Port) (target : Byte) (reserve : Byte) (ceiling : Byte) :
    FrameSize.Statement (.setQuota p target reserve ceiling) := frameSize_of_parts rfl rfl
theorem FrameSize.setWeight (p : Port) (target : Byte) (weight : Byte) :
    FrameSize.Statement (.setWeight p target weight) := frameSize_of_parts rfl rfl
theorem FrameSize.setAffinity (p : Port) (limit : Byte) :
    FrameSize.Statement (.setAffinity p limit) := frameSize_of_parts rfl rfl
theorem FrameSize.setAllowance (p : Port) (target : Byte) (allowance : Byte) :
    FrameSize.Statement (.setAllowance p target allowance) := frameSize_of_parts rfl rfl
theorem FrameSize.setCombine (p : Port) (output : Byte) (mode : Byte) (designated : Byte) :
    FrameSize.Statement (.setCombine p output mode designated) := frameSize_of_parts rfl rfl
theorem FrameSize.setExciteTiming (p : Port) (output : Byte) (warmUp : Byte) (linger : Byte) :
    FrameSize.Statement (.setExciteTiming p output warmUp linger) := frameSize_of_parts rfl rfl
theorem FrameSize.clearLockout (p : Port) (output : Byte) :
    FrameSize.Statement (.clearLockout p output) := frameSize_of_parts rfl rfl
theorem FrameSize.setCalPolicy (p : Port) (interval : Byte) (maxAge : Byte) (maxDelta : BitVec 16) :
    FrameSize.Statement (.setCalPolicy p interval maxAge maxDelta) := frameSize_of_parts rfl rfl
theorem FrameSize.forceRelease (p : Port) (number : Byte) :
    FrameSize.Statement (.forceRelease p number) := frameSize_of_parts rfl rfl
theorem FrameSize.handoverOffer (p : Port) (target : Byte) :
    FrameSize.Statement (.handoverOffer p target) := frameSize_of_parts rfl rfl
theorem FrameSize.handoverAccept (p : Port) : FrameSize.Statement (.handoverAccept p) := frameSize_of_parts rfl rfl
theorem FrameSize.frameError (p : Port) (rest : List Byte) :
    FrameSize.Statement (.frameError p rest) := frameSize_of_event rfl
theorem FrameSize.unknownCommand (p : Port) (rest : List Byte) :
    FrameSize.Statement (.unknownCommand p rest) := frameSize_of_event rfl
theorem FrameSize.emptyTransaction (p : Port) (rest : List Byte) :
    FrameSize.Statement (.emptyTransaction p rest) := frameSize_of_event rfl
theorem FrameSize.busTimeout : FrameSize.Statement (.busTimeout) := frameSize_of_event rfl
theorem FrameSize.deviceReset (straps : Straps) : FrameSize.Statement (.deviceReset straps) := frameSize_of_event rfl
theorem FrameSize.startTimerExpiry : FrameSize.Statement (.startTimerExpiry) := frameSize_of_event rfl
theorem FrameSize.intervalTimerExpiry : FrameSize.Statement (.intervalTimerExpiry) := frameSize_of_event rfl
theorem FrameSize.outputPeriodEnd (raw : Int) (overload : Bool) :
    FrameSize.Statement (.outputPeriodEnd raw overload) := frameSize_of_event rfl
theorem FrameSize.warmUpExpiry (o : OutputId) : FrameSize.Statement (.warmUpExpiry o) := frameSize_of_event rfl
theorem FrameSize.lingerExpiry (o : OutputId) : FrameSize.Statement (.lingerExpiry o) := frameSize_of_event rfl
theorem FrameSize.holdOffExpiry (o : OutputId) : FrameSize.Statement (.holdOffExpiry o) := frameSize_of_event rfl
theorem FrameSize.readyDwellExpiry (o : OutputId) : FrameSize.Statement (.readyDwellExpiry o) := frameSize_of_event rfl
theorem FrameSize.overcurrentTrip (o : OutputId) : FrameSize.Statement (.overcurrentTrip o) := frameSize_of_event rfl
theorem FrameSize.offerLapse : FrameSize.Statement (.offerLapse) := frameSize_of_event rfl
theorem FrameSize.transactionOpen (opening : Opening) :
    FrameSize.Statement (.transactionOpen opening) := frameSize_of_event rfl

end Sys2Proof.Laws
end

