-- ==== Sys2Proof/Tests/Slice0.lean ====
section
/-! SUPPORT. Small tests on single steps, the refusals of WellFormed, and a witness for the hypotheses of each statement of
Certificates/Slice0/Obligations.lean. Expected values come from the worked examples and tables of spec/, or by hand from
its rules. -/

namespace Sys2Proof.Tests

open Sys2Proof Sys2Proof.Machine Sys2Proof.Laws

/-! ## Small states -/

/-- The state after one command or event. -/
def after (i : Instr) (s : State) : State :=
  match exec i s with
  | .next t => t
  | .fault _ => s
  | .refused _ => s

/-- An ACTIVE profile of port A. -/
def owned : Profile := { Profile.default with state := .active, owner := some (.port .a) }

/-- A queued MEASURE of port A against profile 1. -/
def queued (count : Nat) (run : Run) : Request :=
  { source := .port .a, tag := some 0x28#8, profile := 1, kind := .measure, count, run, window := none, state := .queued,
    delivered := 0, side := none, finalMark := false }

/-- A state after reset with one profile of port A in place 1. -/
def withProfile (profile : Profile) : State :=
  (State.reset.modProfile 1 fun _ => profile).modPort .a fun ps => { ps with owned := 1 }

/-- The same with one live request of port A against that profile. -/
def withRequest (profile : Profile) (r : Request) : State :=
  let s := (withProfile { profile with refCount := 1 }).modPort .a fun ps =>
    { ps with queue := [r], used := 1, reservations := if r.state = .inFlight then r.reserves else 0 }
  { s with
    outputs :=
      { exa := { s.outputs.exa with requestDemand := profile.need.exa }
        exb := { s.outputs.exb with requestDemand := profile.need.exb } } }

/-- RUNNING and idle, with a valid temperature. -/
def running (s : State) : State :=
  { s with
    engine := { s.engine with state := .running }
    monitor := { s.monitor with intervalTimer := .running 10000, valid := true, temperature := 2315 } }

/-- RUNNING with the request of port A in flight on its profile's setup, at a full settle progress. -/
def flying (profile : Profile) (r : Request) (shorted : Bool) (phase : ChopPhase) (step : OpStep) (held : Held) : State :=
  let s := running (withRequest profile { r with state := .inFlight })
  { s with
    engine := { s.engine with
                loaded := some { setup := profile.setup, shorted, phase }, progress := 2, inFlight := some (.port .a)
                step := some step, held } }

/-- The same halting. -/
def halting (s : State) : State := { s with engine := { s.engine with state := .halting } }

/-- A plain result of a run of four under way. -/
def measuring : State := flying owned (queued 4 .contiguous) false .none .output .none

/-- The phase − output of a chopped result, with 1,000,205 held. -/
def chopping : State :=
  flying { owned with method := .chop } (queued 4 .contiguous) false .minus .chopMinusOutput (.plus 1000205 false)

/-- A ZERO of port A. -/
def zeroing : Request := { queued 1 .contiguous with kind := .zero }

/-- The fourth averaged output of a ZERO is due, after a sum of −3,599. -/
def averaging : State := flying { owned with method := .stored } zeroing true .none .zeroAveraging (.average (-3599) 3 false)

/-- A temperature sample in flight, at its output. -/
def sampling : State :=
  let s := running (State.reset.modProfile 0 fun profile => { profile with refCount := 1 })
  { s with
    monitor := { s.monitor with queue := [{ monitorEntry 0 .measure with state := .inFlight }] }
    engine := { s.engine with
                loaded := some { setup := (s.profile 0).setup, shorted := false, phase := .none }, progress := 2
                inFlight := some (.monitor 0), step := some .output } }

/-- EXA READY and demanded by the request of port A in flight, tripped twice before. -/
def excited : State :=
  (flying { owned with need := { exa := true, exb := false } } (queued 4 .contiguous) false .none .output .none).modOutput
    .exa fun o => { o with state := .ready, tripCount := 2 }

/-- STARTING. -/
def starting : State :=
  { State.reset with engine := { State.reset.engine with state := .starting, startTimer := .running 20 } }

/-- An offer of A to B is pending. -/
def offering : State := { State.reset with offer := some { offering := .a, target := .b }, offerTimer := .running 250 }

/-! ## WellFormed: an ill-formed term for each check -/

theorem test_wf_output_above : (Instr.outputPeriodEnd 4194304 false).wellFormed = false := by decide
theorem test_wf_output_below : (Instr.outputPeriodEnd (-4194304) false).wellFormed = false := by decide
theorem test_wf_output_limit : (Instr.outputPeriodEnd (-4194303) false).wellFormed = true := by decide
theorem test_wf_read_with_bytes : (Instr.transactionOpen (.start 0x62#7 true [0x00#8] [])).wellFormed = false := by decide
theorem test_wf_two_falling_edges :
    (Instr.transactionOpen (.start 0x62#7 false [] [.rising, .falling, .falling])).wellFormed = false := by
  decide
theorem test_wf_empty_spi_with_frame : (Instr.emptyTransaction .a [0xFF#8, 0x00#8]).wellFormed = false := by decide
theorem test_wf_empty_bus_with_byte : (Instr.emptyTransaction .c [0xFF#8]).wellFormed = false := by decide

/-! ## Worked values of the spec -/

/-- 09, the CRC example of R162. -/
theorem test_crc_of_nop : crc8 [0x00#8, 0x00#8] = 0xD7#8 := by decide

/-- 10, the RESULT example. -/
theorem test_signed24_of_result : signed24 (-1500) = [0xFF#8, 0xFA#8, 0x24#8] := by decide

/-- 04, the chopped example: (1,000,205 − (−999,796)) / 2, rounded toward zero. -/
theorem test_chop_example : (formChopped 1000205 (-999796) false).value = 1000000 := by decide

/-- 04, R83: an average rounded toward zero. -/
theorem test_zero_average : zeroAverage (-4799) = -1199 := by decide

/-- 03, the refill example: A −5 of weight 2 needs 3, C −15 of weight 1 needs 16. -/
theorem test_refills_needed :
    { PortState.reset with credit := -5, weight := 2 }.refillsNeeded = 3 ∧
      { PortState.reset with credit := -15, weight := 1 }.refillsNeeded = 16 := by
  decide

/-- 10, R181: an out-of-range field is BAD_FIELD. -/
theorem test_fetch_seven : ((after (.fetch .a 0x07#8) State.reset).port .a).holder.status = .badField := by decide

/-- 08, R149: the supervisor after reset with the straps low is A. -/
theorem test_start_from_b : ((after (.engineStart .b) State.reset).port .b).holder.status = .notSupervisor := by decide

/-- 04, R73: RUNNING begins with a temperature sample. -/
theorem test_start_expiry : (after .startTimerExpiry starting).engine.inFlight = some (.monitor 0) := by decide

/-- 04, R74: a result of a contiguous run costs one credit and one reserved place. -/
theorem test_result_costs :
    ((after (.outputPeriodEnd 7 false) measuring).port .a).credit = 1 ∧
      ((after (.outputPeriodEnd 7 false) measuring).port .a).reservations = 3 := by
  decide

/-- 04, R78: the chopped result lies in the ring, clamped to the range. -/
theorem test_chopped_result :
    ((after (.outputPeriodEnd (-999796) false) chopping).port .a).ring.map (·.value) = [1000000] := by
  decide

/-- 07, R140: the third trip locks the output out and ends the request that needs it. -/
theorem test_third_trip :
    ((after (.overcurrentTrip .exa) excited).output .exa).state = .lockedOut ∧
      ((after (.overcurrentTrip .exa) excited).port .a).notices =
        [.requestEnded 0x28#8 .excitationFault, .excitation .exa .tripped, .excitation .exa .lockedOut] := by
  decide

/-- 05, R105: the record of a completed ZERO. -/
theorem test_zero_record :
    ((after (.outputPeriodEnd (-1201) false) averaging).profile 1).record =
      some { value := -1200, calTemperature := 2315, age := 0, stale := false } := by
  decide

/-! ## The small states are lawful -/

theorem test_reset_lawful : State.reset.Lawful := lawful_of_hold _ (by decide)
theorem test_profile_lawful : (withProfile owned).Lawful := lawful_of_hold _ (by decide)
theorem test_queued_lawful : (withRequest owned (queued 0 .interleaved)).Lawful := lawful_of_hold _ (by decide)
theorem test_measuring_lawful : measuring.Lawful := lawful_of_hold _ (by decide)
theorem test_chopping_lawful : chopping.Lawful := lawful_of_hold _ (by decide)
theorem test_averaging_lawful : averaging.Lawful := lawful_of_hold _ (by decide)
theorem test_sampling_lawful : sampling.Lawful := lawful_of_hold _ (by decide)
theorem test_excited_lawful : excited.Lawful := lawful_of_hold _ (by decide)
theorem test_starting_lawful : starting.Lawful := lawful_of_hold _ (by decide)
theorem test_offering_lawful : offering.Lawful := lawful_of_hold _ (by decide)
theorem test_halting_lawful : (halting measuring).Lawful := lawful_of_hold _ (by decide)

/-! ## Witnesses: concrete operands and states that meet the hypotheses of each statement, clause by clause -/

theorem witness_StepTakesTheFrontCommand : State.reset.pending = [] := rfl

/-- Port A in a transaction that has received a NOP frame. -/
def carrying : State := after (.transactionOpen (.chipSelectA (commandFrame .nop []))) State.reset

/-- Whatever follows a whole frame of length 0 on port C makes it too long, and no STATUS of these bytes. -/
theorem no_status_of (code crc : Byte) (h : judge .c [code, 0x00#8, crc] ≠ .command (.status .c)) (rest : List Byte) :
    judge .c ([code, 0x00#8, crc] ++ rest) ≠ .command (.status .c) := by
  cases rest with
  | nil => exact h
  | cons b more => simp [judge, frameBytes, judgeFrame, maxPayloadLength]

/-- The bytes of the row's own command; of a damaged frame, of an unlisted code, and of another command, under the row
STATUS. -/
theorem witness_EveryCommandIsTaken :
    (commandParts (.nop .a) = some (.a, .nop, []) ∧ judge .a (carrying.receivedAt .a ++ []) = .command (.nop .a)) ∧
      commandParts (.status .c) = some (.c, .status, []) ∧
      ((∀ rest, judge .c ([0x00#8, 0x00#8, 0x00#8] ++ rest) ≠ .command (.status .c)) ∧
        judge .c [0x00#8, 0x00#8, 0x00#8] = .frameError 0x00#8) ∧
      ((∀ rest, judge .c ([0x99#8, 0x00#8, crc8 [0x99#8, 0x00#8]] ++ rest) ≠ .command (.status .c)) ∧
        judge .c [0x99#8, 0x00#8, crc8 [0x99#8, 0x00#8]] = .unknownCommand 0x99#8) ∧
      (∀ rest, judge .c ([0x00#8, 0x00#8, 0xD7#8] ++ rest) ≠ .command (.status .c)) ∧
      judge .c [0x00#8, 0x00#8, 0xD7#8] = .command (.nop .c) :=
  ⟨by decide, rfl, ⟨no_status_of _ _ (by decide), by decide⟩, ⟨no_status_of _ _ (by decide), by decide⟩,
    no_status_of _ _ (by decide), by decide⟩

theorem witness_CommandFramesReadAsTheirCommands :
    commandParts (.status .a) = some (.a, .status, []) ∧ Port.a ≠ .c := by
  decide

/-- On port C, and the last byte on port A. -/
theorem witness_DamagedFramesAreFrameErrors :
    (commandParts (.status .a) = some (.a, .status, []) ∧ Port.a ≠ .c ∧ (2 : Nat) ≠ 0) ∧ commandParts (.status .c) = some (.c, .status, []) ∧ 2 < (commandFrame .status []).length ∧
      (commandFrame .status [])[2]? ≠ some 0x00#8 := by
  decide

/-- Each clause at the boundary of its range: the highest length, one above it, one byte too few, one too many. -/
theorem witness_FrameChecksAreMadeInOrder :
    (Port.a ≠ .c ∧ (0x00#8 : Byte) ≠ 0xFF#8) ∧ 24 < (25#8 : Byte).toNat ∧
      (List.replicate 24 0x00#8 : List Byte).length < (24#8 : Byte).toNat + 1 ∧
      ((0#8 : Byte).toNat + 1 < ([0xD7#8, 0x00#8] : List Byte).length ∧
        ∃ b ∈ ([0xD7#8, 0x00#8] : List Byte).drop ((0#8 : Byte).toNat + 1), b ≠ 0xFF#8) ∧
      ((0#8 : Byte).toNat ≤ 24 ∧ ([0xD6#8] : List Byte) = [] ++ [0xD6#8] ∧ ([] : List Byte).length = (0#8 : Byte).toNat ∧
        0xD6#8 ≠ crc8 [0x00#8, 0x00#8]) ∧
      (CommandCode.ofByte 0x04#8 = none ∧ crc8 [0x04#8, 0x00#8] = crc8 (0x04#8 :: 0#8 :: [])) ∧
      (CommandCode.ofByte 0x30#8 = some .fetch ∧ ([] : List Byte).length ≠ CommandCode.fetch.payloadLength) := by
  decide

theorem witness_ClosesWithoutACommandChangeTheHolderAlone :
    judge .a (State.reset.receivedAt .a ++ [0x00#8]) = .frameError 0x00#8 ∧
      judge .c (State.reset.receivedAt .c ++ [0x99#8, 0x00#8, crc8 [0x99#8, 0x00#8]]) = .unknownCommand 0x99#8 ∧
      judge .b (State.reset.receivedAt .b ++ [0xFF#8]) = .noFrame ∧ State.reset.AwaitsFrame .a := by
  decide

/-- Port C in a transaction, with SCL low. -/
def writing (received : List Byte) (read : Bool) : State :=
  after (.transactionOpen (.start 0x62#7 read received [.rising, .falling])) State.reset

/-- 09, R169, R171: a repeated START with another target's address ends port C's part, and the write it ends is cut short. -/
theorem test_start_to_another_target :
    ((after (.transactionOpen (.start 0x10#7 false [] [])) (writing [0x01#8] false)).port .c).transaction = .closed ∧
      ((after (.transactionOpen (.start 0x10#7 false [] [])) (writing [0x01#8] false)).port .c).holder =
        .make .frameError 0x01#8 [] ∧
      (after (.transactionOpen (.start 0x10#7 false [] [])) (writing [0x01#8] false)).busTimer = .stopped := by
  decide

/-- 09, R172: in a combined transaction the repeated START takes the command, and the read returns its response; the
command here is ENGINE_START, which port C has no right to give (R149). -/
theorem test_combined_transaction :
    ((after (.transactionOpen (.start 0x62#7 true [] [.rising])) (writing (commandFrame .engineStart []) false)).port
        .c).transaction =
      .opened { read := true, received := [], latched := .make .notSupervisor 0x40#8 [], acknowledged := 0 } := by
  decide

/-- Port A in a transaction that has received three bytes of 0x00. -/
def damaged : State := after (.transactionOpen (.chipSelectA [0x00#8, 0x00#8, 0x00#8])) State.reset

/-- 09, R163 step 3: the CRC of two bytes of 0x00 is 0xD7, so the close is a FRAME_ERROR, whatever command its row names. -/
theorem test_damaged_nop :
    ((after (.nop .a) damaged).port .a).holder = .make .frameError 0x00#8 [] ∧
      ((after (.nop .a) damaged).port .a).transaction = .closed := by
  decide

/-- Port C in a transaction, with SCL high. -/
def clockHigh : State := after (.transactionOpen (.start 0x62#7 false [0x01#8] [.rising])) State.reset

/-- 09, R173: no expiry while SCL is high. -/
theorem test_no_timeout_with_clock_high : after .busTimeout clockHigh = clockHigh := by decide

theorem witness_TransactionsOpenAndTimeOut :
    (0x62#7 : BitVec 7) = State.reset.targetAddress ∧ (0x63#7 : BitVec 7) ≠ State.reset.targetAddress ∧
      (clockHigh.busTimer = .stopped ∧ (clockHigh.port .c).transaction =
        .opened { read := false, received := [0x01#8], latched := .afterReset, acknowledged := 1 }) ∧
      (writing [0x01#8] false).busTimer = .running 30 ∧ (writing [] true).busTimer = .running 30 ∧
      ((writing [0x01#8] false).port .c).transaction =
        .opened { read := false, received := [0x01#8], latched := .afterReset, acknowledged := 1 } ∧
      ((writing [] true).port .c).transaction =
        .opened { read := true, received := [], latched := .afterReset, acknowledged := 0 } ∧
      judge .c ((writing [0x01#8] false).receivedAt .c) = .frameError 0x01#8 ∧
      judge .a (carrying.receivedAt .a) = .command (.nop .a) := by
  decide

theorem witness_OtherPortsInterfacesStand :
    exec (.status .a) State.reset = .next (after (.status .a) State.reset) ∧ (Instr.status .a).port? ≠ some .b ∧
      (Instr.status .a).isDeviceReset = false :=
  ⟨rfl, by decide, rfl⟩

theorem reset_holders_sound : State.reset.HoldersSound := by
  intro p
  refine ⟨?_, fun t h => ?_⟩
  · cases p <;> exact ⟨by decide, by decide⟩
  · cases p <;> cases h

theorem witness_HoldersKeepSoundResponses :
    State.reset.HoldersSound ∧ step State.reset = .next State.reset := ⟨reset_holders_sound, rfl⟩

/-- A refusal with an empty payload, and one of SUBMIT with the tag. -/
theorem witness_RefusedCommandsChangeNothing :
    (commandParts (.fetch .a 0x07#8) = some (.a, .fetch, [0x07#8]) ∧ State.reset.AwaitsFrame .a ∧ CommandCode.fetch ≠ .nop ∧
      exec (.fetch .a 0x07#8) State.reset = .next (after (.fetch .a 0x07#8) State.reset) ∧
      ((after (.fetch .a 0x07#8) State.reset).port .a).holder.status ≠ .ok) ∧
    CommandCode.submit ≠ .nop :=
  ⟨⟨rfl, rfl, by decide, rfl, by decide⟩, by decide⟩

theorem witness_SupervisorCommandsNeedTheRights :
    (commandParts (.engineStart .b) = some (.b, .engineStart, []) ∧ (Instr.engineStart .b).supervisorOnly = some .b ∧
      State.reset.supervisor ≠ .b) ∧
    (commandParts (.status .b) = some (.b, .status, []) ∧ (Instr.status .b).supervisorOnly = none ∧
      exec (.status .b) State.reset = .next (after (.status .b) State.reset)) ∧
    (commandParts (.engineStart .a) = some (.a, .engineStart, []) ∧ State.reset.supervisor = .a ∧
      exec (.engineStart .a) State.reset = .next (after (.engineStart .a) State.reset)) ∧
    State.reset.AwaitsFrame .a ∧ State.reset.AwaitsFrame .b :=
  ⟨⟨rfl, rfl, by decide⟩, ⟨rfl, rfl, rfl⟩, ⟨rfl, rfl, rfl⟩, rfl, rfl⟩

theorem witness_RightsMoveByStrapAndAcceptAlone :
    offering.OfferLawful ∧ (Instr.handoverAccept .b).isDeviceReset = false ∧
      offering.performed (.handoverAccept .b) = .handoverAccept .b ∧
      exec (.handoverAccept .b) offering = .next (after (.handoverAccept .b) offering) ∧
      (after (.handoverAccept .b) offering).supervisor ≠ offering.supervisor ∧ step offering = .next offering :=
  ⟨offer_of_holds _ (by decide), rfl, rfl, rfl, by decide, rfl⟩

/-- No offer pending; one pending to the same target, and to another; both kinds of refused target; accept and lapse. -/
theorem witness_OffersAreMadeAndEnd :
    (Port.b ≠ State.reset.supervisor ∧ State.reset.offer = none) ∧
      (Port.b ≠ offering.supervisor ∧ offering.offer = some { offering := .a, target := .b }) ∧
      (Port.c ≠ offering.supervisor ∧ (Offer.mk .a .b).target ≠ .c) ∧
      (2 < (0x03#8 : Byte).toNat ∧ (0x00#8 : Byte) = offering.supervisor.code) ∧
      (Port.b ≠ offering.supervisor ∧ (Offer.mk .a .b).target = .b) ∧
      (∀ o, State.reset.offer = some o → o.target ≠ Port.b) ∧ offering.offerTimer = .running 250 ∧
      State.reset.AwaitsFrame .a ∧ offering.AwaitsFrame offering.supervisor ∧ offering.AwaitsFrame .b :=
  ⟨by decide, by decide, by decide, by decide, by decide, fun o h => (by cases h), rfl, rfl, rfl, rfl⟩

/-- For each clause a command that makes the change it speaks of. -/
theorem witness_SettingsMoveByTheirOwnCommands :
    ((after (.setWeight .a 0x01#8 0x05#8) State.reset).port .b).weight ≠ (State.reset.port .b).weight ∧
      ((after (.setQuota .a 0x02#8 0x02#8 0x08#8) State.reset).port .c).reserve ≠ (State.reset.port .c).reserve ∧
      ((after (.setAllowance .a 0x00#8 0x1F#8) State.reset).port .a).allowance ≠ (State.reset.port .a).allowance ∧
      ((after (.alertConfig .b 0x01#8) State.reset).port .b).ringAlert ≠ (State.reset.port .b).ringAlert ∧
      (after (.setAffinity .a 0x0F#8) State.reset).arbiter.limit ≠ State.reset.arbiter.limit ∧
      (after (.setCalPolicy .a 0x01#8 0x01#8 0x07D0#16) State.reset).monitor.maxDelta ≠ State.reset.monitor.maxDelta ∧
      (after (.outputPeriodEnd 1 false) { sampling with monitor := { sampling.monitor with valid := false } }).monitor.valid
        ≠ { sampling.monitor with valid := false }.valid ∧
      ((after (.setExciteTiming .a 0x00#8 0x01#8 0x00#8) State.reset).output .exa).warmUpTime
        ≠ (State.reset.output .exa).warmUpTime ∧
      ((after (.setCombine .a 0x01#8 0x01#8 0x00#8) State.reset).output .exb).combine
        ≠ (State.reset.output .exb).combine ∧
      ((after (.exciteVote .c 0x01#8 0x01#8) State.reset).output .exb).votes.get .c
        ≠ (State.reset.output .exb).votes.get .c :=
  ⟨by decide, by decide, by decide, by decide, by decide, by decide, by decide +kernel, by decide, by decide, by decide⟩

/-- Port A in a transaction that has received a PROFILE_CLAIM frame. -/
def carriesClaim : State := after (.transactionOpen (.chipSelectA (commandFrame .profileClaim [0x01#8]))) State.reset

/-- For each clause a command or event that makes the change it speaks of; the last one is carried by the bytes that an
opening closes. -/
theorem witness_RingsAndProfilesMoveByTheirOwnCommands :
    ((after (.outputPeriodEnd 1 false) measuring).port .a).ring ≠ (measuring.port .a).ring ∧
      ((after (.profileRelease .a 0x01#8) (withProfile { owned with method := .chop })).profile 1).method
        ≠ ((withProfile { owned with method := .chop }).profile 1).method ∧
      ((after (.profileClaim .b 0x1F#8) State.reset).profile 31).owner ≠ (State.reset.profile 31).owner ∧
      ((after (.profileShare .a 0x01#8 0x06#8) (withProfile owned)).profile 1).share
        ≠ ((withProfile owned).profile 1).share ∧
      ((after (.outputPeriodEnd 1 false) averaging).profile 1).record ≠ (averaging.profile 1).record ∧
      ((after (.profileClaim .b 0xFF#8) State.reset).port .b).owned ≠ (State.reset.port .b).owned ∧
      ((after (.profileRetire .a 0x01#8) (withProfile owned)).profile 1).state ≠ ((withProfile owned).profile 1).state ∧
      (carriesClaim.performed (.transactionOpen (.chipSelectA [])) = .profileClaim .a 0x01#8 ∧
        ((after (.transactionOpen (.chipSelectA [])) carriesClaim).profile 1).state ≠ (carriesClaim.profile 1).state) := by
  decide

/-- A state whose port A owns all it may. -/
def atAllowance : State := State.reset.modPort .a fun ps => { ps with owned := 10 }

/-- A state with every user profile CLAIMED. -/
def allClaimed : State :=
  State.reset.mapProfiles fun n profile => if n = 0 then profile else { profile with state := .claimed }

theorem witness_ClaimTakesTheDefaultContents :
    ((31 : Fin 32) ≠ 0 ∧ (State.reset.profile 31).state = .free ∧
      (State.reset.port .a).owned < (State.reset.port .a).allowance) ∧
    ((atAllowance.profile 1).state = .free ∧ (atAllowance.port .a).allowance ≤ (atAllowance.port .a).owned) ∧
    ((withProfile owned).profile 1).state ≠ .free ∧ (∀ m : Fin 32, 0 < m → m < 2 → ((withProfile owned).profile m).state ≠ .free) ∧
    (∀ m : Fin 32, 0 < m → (allClaimed.profile m).state ≠ .free) ∧ 31 < (0x20#8 : Byte).toNat ∧ (0x20#8 : Byte) ≠ 0xFF#8 ∧
    State.reset.AwaitsFrame .a ∧ atAllowance.AwaitsFrame .a ∧ (withProfile owned).AwaitsFrame .a ∧ allClaimed.AwaitsFrame .a := by
  decide

/-- PROFILE_WRITE of profile 1: AIN0 against COMMON. -/
def writeFields (reference autoRecal : Byte) : WriteFields :=
  { number := 0x01#8, positive := 0x00#8, negative := 0x0C#8, reference, gain := 0x00#8, osr := 0x04#8, order := 0x03#8,
    method := 0x00#8, need := 0x00#8, autoRecal }

/-- What those fields mean. -/
def writing1 : Writing :=
  { setup := .default, method := .none, need := .all false, autoRecal := false }

/-- The field bytes at the upper end of each range, and each field one above it. -/
theorem witness_WriteActivatesTheProfile :
    (let f : WriteFields :=
      { number := 0x20#8, positive := 0x0B#8, negative := 0x0C#8, reference := 0x03#8, gain := 0x07#8, osr := 0x07#8
        order := 0x04#8, method := 0x02#8, need := 0x03#8, autoRecal := 0x01#8 }
     31 < f.number.toNat ∧ f.positive.toNat < 12 ∧ f.negative.toNat < 13 ∧ f.reference.toNat < 4 ∧ f.gain.toNat < 8 ∧
      f.osr.toNat < 8 ∧ 2 ≤ f.order.toNat ∧ f.order.toNat ≤ 4 ∧ f.method.toNat < 3 ∧ f.need.toNat < 4 ∧
      f.autoRecal.toNat < 2) ∧
      ¬ (0x0D#8 : Byte).toNat < 13 ∧ ¬ 2 ≤ (0x01#8 : Byte).toNat ∧ (writeFields 0x00#8 0x00#8).number = unsigned8 (1 : Fin 32).val ∧ (1 : Fin 32) ≠ 0 ∧
      writingOfFields (writeFields 0x04#8 0x00#8) = none ∧ writingOfFields (writeFields 0x00#8 0x00#8) = some writing1 ∧
      ¬ (((withProfile owned).profile 1).written { writing1 with autoRecal := true }).consistent ∧
      (((withProfile owned).profile 1).written writing1).consistent ∧ (State.reset.profile 1).state = .free ∧
      ((withProfile owned).profile 1).state = .active ∧ ((withProfile owned).profile 1).owner = some (.port .a) ∧
      ((withProfile owned).profile 1).owner ≠ some (.port .b) ∧ ((withProfile owned).profile 1).refCount = 0 ∧
      0 < ((withRequest owned (queued 1 .contiguous)).profile 1).refCount ∧ State.reset.AwaitsFrame .a ∧
      (withProfile owned).AwaitsFrame .a ∧ (withProfile owned).AwaitsFrame .b ∧
      (withRequest owned (queued 1 .contiguous)).AwaitsFrame .a := by
  unfold Profile.consistent
  decide

theorem witness_CodesReadBack :
    positiveOfCode 0x0B#8 = some (.ain 11) ∧ negativeOfCode 0x0C#8 = some .common ∧ gainOfCode 0x07#8 = some .x128 ∧
      1 < (0x02#8 : Byte).toNat ∧
      CommandCode.ofByte 0x4C#8 = some .handoverAccept := by
  decide

theorem witness_ReadsReportAndChangeNothing :
    31 < (0x20#8 : Byte).toNat ∧
      ((withRequest owned (queued 4 .contiguous)).port .a).queue = [] ++ queued 4 .contiguous :: [] ∧
      (queued 4 .contiguous).tag = some 0x28#8 ∧ (∀ x ∈ ([] : List Request), x.tag ≠ some 0x28#8) ∧
      (∀ x ∈ (State.reset.port .a).queue, x.tag ≠ some 0x28#8) ∧ State.reset.AwaitsFrame .a ∧
      (withRequest owned (queued 4 .contiguous)).AwaitsFrame .a := by
  decide

theorem witness_ShareIsStoredWithoutTheOwner :
    31 < (0x20#8 : Byte).toNat ∧ 7 < (0x08#8 : Byte).toNat ∧ (1 : Fin 32) ≠ 0 ∧
      (0x07#8 : Byte) = portSetCode (.all true) ∧ (State.reset.profile 1).state = .free ∧
      ((withProfile owned).profile 1).state ≠ .free ∧ ((withProfile owned).profile 1).owner = some (.port .a) ∧
      ((withProfile owned).profile 1).owner ≠ some (.port .b) ∧ State.reset.AwaitsFrame .a ∧
      (withProfile owned).AwaitsFrame .a ∧ (withProfile owned).AwaitsFrame .b := by
  decide

/-- A RETIRING profile of port A with a live request. -/
def retiring : State := withRequest { owned with state := .retiring } (queued 1 .contiguous)

theorem witness_ReleaseErasesTheProfile :
    31 < (0x20#8 : Byte).toNat ∧ (1 : Fin 32) ≠ 0 ∧ (0x01#8 : Byte) = unsigned8 (1 : Fin 32).val ∧
      (State.reset.profile 1).state = .free ∧ (retiring.profile 1).state = .retiring ∧
      ((withProfile owned).profile 1).state = .active ∧ ((withProfile owned).profile 1).owner = some (.port .a) ∧
      ((withProfile owned).profile 1).owner ≠ some (.port .b) ∧ ((withProfile owned).profile 1).refCount = 0 ∧
      0 < ((withRequest owned (queued 1 .contiguous)).profile 1).refCount ∧ State.reset.AwaitsFrame .a ∧
      retiring.AwaitsFrame .a ∧ (withProfile owned).AwaitsFrame .a ∧ (withProfile owned).AwaitsFrame .b ∧
      (withRequest owned (queued 1 .contiguous)).AwaitsFrame .a := by
  decide

/-- A continuous request of port A, in flight. -/
def continuous : State := flying owned (queued 0 .interleaved) false .none .output .none

theorem continuous_lawful : continuous.Lawful := lawful_of_hold _ (by decide)

/-- The last clause: an ACTIVE profile of A with a queued continuous request, and with one in flight. -/
theorem witness_RetireEndsContinuousRequests :
    ((withRequest owned (queued 0 .interleaved)).Lawful ∧ continuous.Lawful) ∧
      (continuous.profile 1).state = .active ∧ (continuous.profile 1).owner = some (.port .a) ∧
      0 < (continuous.profile 1).refCount ∧ continuous.engine.inFlight = some (.port .a) ∧
      (continuous.port .a).queue.head? = some { queued 0 .interleaved with state := .inFlight } ∧
      ((withRequest owned (queued 0 .interleaved)).profile 1).state = .active ∧
      0 < ((withRequest owned (queued 0 .interleaved)).profile 1).refCount ∧
      (retiring.profile 1).state = .retiring ∧ ((withProfile owned).profile 1).refCount = 0 ∧
      continuous.AwaitsFrame .a ∧ (withRequest owned (queued 0 .interleaved)).AwaitsFrame .a ∧ retiring.AwaitsFrame .a ∧
      (withProfile owned).AwaitsFrame .a ∧ (withProfile owned).AwaitsFrame .b :=
  ⟨⟨test_queued_lawful, continuous_lawful⟩, by decide⟩

/-- A temperature sample in flight beside a profile of port A. -/
def busyElsewhere : State :=
  { sampling with
    profiles := (sampling.modProfile 1 fun _ => owned).profiles
    ports := (sampling.modPort .a fun ps => { ps with owned := 1 }).ports }

theorem test_busy_lawful : busyElsewhere.Lawful := lawful_of_hold _ (by decide)

theorem witness_ForcedReleaseRevokesRequests :
    measuring.Lawful ∧ (measuring.profile 1).state ≠ .free ∧ (State.reset.profile 31).state = .free ∧
      measuring.flight.any (fun r => decide (r.profile = 1)) = true ∧ (halting measuring).Lawful ∧
      (halting measuring).engine.state = .halting ∧
      (busyElsewhere.Lawful ∧ busyElsewhere.flight.any (fun r => decide (r.profile = 1)) = false ∧
        (busyElsewhere.profile 1).state ≠ .free ∧ busyElsewhere.engine.inFlight ≠ none) ∧
      measuring.AwaitsFrame .a ∧ (halting measuring).AwaitsFrame .a ∧ busyElsewhere.AwaitsFrame .a :=
  ⟨test_measuring_lawful, by decide, by decide, by decide, test_halting_lawful, rfl,
    ⟨test_busy_lawful, by decide⟩, rfl, rfl, rfl⟩

/-- A SUBMIT of profile 1 with limits at the ends of the range. -/
def submitFields (count run : Byte) : SubmitFields :=
  { tag := 0x28#8, number := 0x01#8, kind := 0x00#8, count, run, window := 0x01#8, low := BitVec.ofInt 24 (-4194303),
    high := BitVec.ofInt 24 4194303 }

theorem witness_SubmitFieldsAreJudgedTogether :
    ((submitFields 0x10#8 0x00#8).number.toNat < 32 ∧ (submitFields 0x10#8 0x00#8).kind.toNat ≤ 1 ∧
      (submitFields 0x10#8 0x00#8).count.toNat ≤ 16 ∧ (submitFields 0x10#8 0x00#8).count.toNat ≠ 0 ∧
      -4194303 ≤ (submitFields 0x10#8 0x00#8).low.toInt ∧
      (submitFields 0x10#8 0x00#8).low.toInt ≤ (submitFields 0x10#8 0x00#8).high.toInt ∧
      (submitFields 0x10#8 0x00#8).high.toInt ≤ 4194303) ∧
    ((submitFields 0x00#8 0x00#8).count.toNat = 0 ∧ (submitFields 0x00#8 0x00#8).run.toNat ≠ 1) ∧
    16 < (submitFields 0x11#8 0x00#8).count.toNat ∧ State.reset.AwaitsFrame .a := by
  decide

/-- What the fields of a contiguous count of 16 mean. -/
def submission : Submission :=
  { profile := 1, kind := .measure, count := 16, run := .contiguous, window := some { low := -4194303, high := 4194303 } }

/-- Port A with all the slots of its ceiling in use. -/
def slotsGone : State := (withProfile owned).modPort .a fun ps => { ps with used := 16 }

theorem witness_SubmitIsCheckedInOrderAndQueued :
    submissionOfFields (submitFields 0x10#8 0x00#8) = some submission ∧ (State.reset.profile 1).state = .free ∧
      (retiring.profile 1).state = .retiring ∧ ((withProfile owned).profile 1).state = .active ∧
      ((withProfile owned).profile 1).owner = some (.port .a) ∧ ((withProfile owned).profile 1).owner ≠ some (.port .b) ∧
      ((withProfile owned).profile 1).share.get .b ≠ true ∧ ((withProfile owned).profile 1).method ≠ .stored ∧
      (((withProfile { owned with need := .all true }).modOutput .exa fun o => { o with state := .lockedOut }).output
        .exa).state = .lockedOut ∧
      ((withProfile owned).port .a).used < ((withProfile owned).port .a).reserve ∧
      ¬ (slotsGone.port .a).used < (slotsGone.port .a).ceiling ∧
      (∃ r ∈ ((withRequest owned (queued 4 .contiguous)).port .a).queue, r.tag = some 0x28#8) ∧
      State.reset.AwaitsFrame .a ∧ retiring.AwaitsFrame .a ∧ (withProfile owned).AwaitsFrame .a ∧
      (withProfile owned).AwaitsFrame .b ∧ slotsGone.AwaitsFrame .a ∧
      (withRequest owned (queued 4 .contiguous)).AwaitsFrame .a := by
  decide

theorem witness_CancelEndsTheTaggedRequest :
    (∀ x ∈ (State.reset.port .a).queue, x.tag ≠ some 0x28#8) ∧
      ({ queued 4 .contiguous with state := .inFlight } ∈ (measuring.port .a).queue ∧ measuring.Lawful) ∧
      (queued 0 .interleaved ∈ ((withRequest owned (queued 0 .interleaved)).port .a).queue ∧
        (withRequest owned (queued 0 .interleaved)).Lawful) ∧ (queued 4 .contiguous).tag = some 0x28#8 ∧
      State.reset.AwaitsFrame .a ∧ measuring.AwaitsFrame .a ∧ (withRequest owned (queued 0 .interleaved)).AwaitsFrame .a :=
  ⟨by decide, ⟨by decide, test_measuring_lawful⟩, ⟨by decide, test_queued_lawful⟩, rfl, rfl, rfl, rfl⟩

theorem witness_FetchReturnsTheOldestResults :
    (0x00#8 : Byte).toNat = 0 ∧ 6 < (0x07#8 : Byte).toNat ∧ 1 ≤ (0x06#8 : Byte).toNat ∧ (0x06#8 : Byte).toNat ≤ 6 ∧
      State.reset.AwaitsFrame .a := by
  decide

theorem witness_NoticesArePostedReadAndAlerted :
    (State.reset.port .a).notices.length < 8 ∧
      8 ≤ ({ State.reset.port .a with notices := List.replicate 8 (.engine .down) }).notices.length ∧
      8 < (0x09#8 : Byte).toNat ∧ 1 ≤ (0x08#8 : Byte).toNat ∧ (0x08#8 : Byte).toNat ≤ 8 ∧ 1 < (0x02#8 : Byte).toNat ∧
      State.reset.AwaitsFrame .a := by
  decide

theorem witness_PoolAndArbiterSettingsTakeEffect :
    Port.b ≠ State.reset.supervisor ∧ 2 < (0x03#8 : Byte).toNat ∧ 24 < (0x19#8 : Byte).toNat ∧
      ((0x18#8 : Byte).toNat ≤ 24 ∧ (0x17#8 : Byte).toNat < (0x18#8 : Byte).toNat) ∧
      ((0x04#8 : Byte).toNat ≤ (0x10#8 : Byte).toNat ∧ (State.reset.port .b).used ≤ (0x10#8 : Byte).toNat ∧
        max (State.reset.port .a).used (State.reset.port .a).reserve + max (State.reset.port .b).used (0x04#8 : Byte).toNat
          + max (State.reset.port .c).used (State.reset.port .c).reserve ≤ 24) ∧
      8 < (0x09#8 : Byte).toNat ∧ (1 ≤ (0x08#8 : Byte).toNat ∧ (0x08#8 : Byte).toNat ≤ 8) ∧ 15 < (0x10#8 : Byte).toNat ∧
      (0x0F#8 : Byte).toNat ≤ 15 ∧ 31 < (0x20#8 : Byte).toNat ∧ (0x1F#8 : Byte).toNat ≤ 31 ∧
      State.reset.AwaitsFrame .b ∧ State.reset.AwaitsFrame State.reset.supervisor := by
  decide

theorem witness_PolicyAndTimingTakeEffect :
    Port.c ≠ State.reset.supervisor ∧ 2000 < (0x07D1#16 : BitVec 16).toNat ∧
      (1 ≤ (0x01#8 : Byte).toNat ∧ 1 ≤ (0x07D0#16 : BitVec 16).toNat ∧ (0x07D0#16 : BitVec 16).toNat ≤ 2000) ∧
      1 < (0x02#8 : Byte).toNat ∧ (0x00#8 : Byte).toNat = 0 ∧
      State.reset.AwaitsFrame .c ∧ State.reset.AwaitsFrame State.reset.supervisor := by
  decide

/-- DOWN, STARTING, idle RUNNING, RUNNING with a flight, HALTING. -/
theorem witness_StartLeavesDownAndHaltReturns :
    State.reset.engine.state = .down ∧ measuring.engine.state ≠ .down ∧ (halting measuring).engine.state = .halting ∧
      (measuring.engine.state = .running ∧ measuring.engine.inFlight ≠ none) ∧
      (starting.engine.state = .starting ∧ starting.engine.inFlight = none) ∧
      ((running State.reset).engine.state = .running ∧ (running State.reset).engine.inFlight = none) ∧
      State.reset.AwaitsFrame .a ∧ measuring.AwaitsFrame .a ∧ (halting measuring).AwaitsFrame .a ∧
      starting.AwaitsFrame .a ∧ (running State.reset).AwaitsFrame .a := by
  decide

theorem witness_TimersPlaceTemperatureSamples :
    (starting.engine.state = .starting ∧ starting.engine.startTimer = .running 20 ∧ starting.Lawful) ∧
      (measuring.engine.state = .running ∧ measuring.monitor.intervalTimer = .running 10000 ∧
        ∀ r ∈ measuring.monitor.queue, r.kind ≠ .measure) ∧
      (sampling.monitor.intervalTimer = .running 10000 ∧ ∃ r ∈ sampling.monitor.queue, r.kind = .measure) ∧
      sampling.NoCandidateWaits :=
  ⟨⟨rfl, rfl, test_starting_lawful⟩, by decide, by decide, test_sampling_lawful.noneWaits⟩

/-- A final-marked continuous request in flight, its profile RETIRING. -/
def final : State :=
  flying { owned with state := .retiring } { queued 0 .interleaved with finalMark := true } false .none .output .none

theorem witness_EntryToDownGivesTheRequestBack :
    (measuring.Lawful ∧ measuring.flight = some { queued 4 .contiguous with state := .inFlight }) ∧ final.Lawful ∧
      final.engine.inFlight = some (.port .a) ∧
      (final.port .a).queue = { queued 0 .interleaved with state := .inFlight, finalMark := true } :: [] :=
  ⟨⟨test_measuring_lawful, by decide⟩, lawful_of_hold _ (by decide), rfl, by decide⟩

/-- Each operation step that discards its period's output, or holds it. -/
def atStep (step : OpStep) (held : Held) : State := flying owned (queued 4 .contiguous) false .none step held

theorem witness_DiscardedPeriodsSettleTheFilter :
    InResultRange 4194303 ∧ InResultRange (-4194303) ∧
      (atStep .settling .none).flight = some { queued 4 .contiguous with state := .inFlight } ∧
      (atStep .settling .none).engine.loaded = some { setup := .default, shorted := false, phase := .none } ∧
      (atStep .settling .none).engine.step = some .settling ∧ (atStep .settling .none).engine.state = .running ∧
      (atStep .settling .none).engine.inFlight ≠ none ∧ (atStep .chopPlusOutput .none).engine.step = some .chopPlusOutput ∧
      (halting (atStep .chopPlusOutput .none)).engine.state = .halting ∧
      (atStep .zeroAveraging .none).engine.held = .none ∧
      (atStep .zeroAveraging (.average 5 2 true)).engine.held = .average 5 2 true := by
  unfold InResultRange
  decide

/-- A MEASURE of profile 0 in flight. -/
def reading : State :=
  let r := { queued 1 .contiguous with profile := 0, state := .inFlight }
  let s := running ((State.reset.modProfile 0 fun profile => { profile with refCount := 1 }).modPort .a fun ps =>
    { ps with queue := [r], used := 1, reservations := 1 })
  { s with
    engine := { s.engine with
                loaded := some { setup := (s.profile 0).setup, shorted := false, phase := .none }, progress := 2
                inFlight := some (.port .a), step := some .output } }

/-- STORED with and without a record. -/
def stored (record : Option OffsetRecord) : State :=
  flying { owned with method := .stored, record } (queued 4 .contiguous) false .none .output .none

theorem witness_FormedResultsAreDelivered :
    (measuring.Lawful ∧ measuring.engine.inFlight = some (.port .a) ∧
      (measuring.port .a).queue = { queued 4 .contiguous with state := .inFlight } :: [] ∧
      measuring.engine.step = some .output ∧ (measuring.profile 1).method ≠ .stored) ∧
    (reading.Lawful ∧ reading.engine.step = some .output ∧ (reading.port .a).queue.map (·.profile) = [0]) ∧
    ((stored none).Lawful ∧ ((stored none).profile 1).record = none ∧ ((stored none).profile 1).method = .stored) ∧
    ((stored (some { value := 5, calTemperature := 0, age := 0, stale := true })).Lawful) ∧
    (final.Lawful ∧ final.engine.state = .running ∧ final.engine.step = some .output ∧
      Request.lastNext { queued 0 .interleaved with finalMark := true } = true ∧
      (queued 0 .interleaved).run = .interleaved) ∧
    (chopping.Lawful ∧ chopping.engine.step = some .chopMinusOutput ∧ chopping.engine.held = .plus 1000205 false) :=
  ⟨⟨test_measuring_lawful, by decide⟩, ⟨lawful_of_hold _ (by decide), by decide⟩,
    ⟨lawful_of_hold _ (by decide), by decide⟩, lawful_of_hold _ (by decide), ⟨lawful_of_hold _ (by decide), by decide⟩,
    test_chopping_lawful, by decide⟩

theorem witness_RunsPayForEachResult :
    measuring.Lawful ∧ measuring.engine.state = .running ∧ measuring.engine.inFlight = some (.port .a) ∧
      (measuring.port .a).queue = { queued 4 .contiguous with state := .inFlight } :: [] ∧
      (queued 4 .contiguous).delivered + 1 < (queued 4 .contiguous).count ∧ measuring.engine.step = some .output :=
  ⟨test_measuring_lawful, by decide⟩

theorem witness_FourthOutputCompletesTheZero :
    averaging.Lawful ∧ averaging.engine.state = .running ∧ averaging.flight = some { zeroing with state := .inFlight } ∧
      zeroing.kind = .zero ∧ averaging.engine.step = some .zeroAveraging ∧
      averaging.engine.held = .average (-3599) 3 false :=
  ⟨test_averaging_lawful, by decide⟩

theorem witness_AgeingPassJudgesEveryRecord : State.reset.NoticesSound := test_reset_lawful.notices

theorem witness_SampleUpdatesTheTemperature :
    sampling.Lawful ∧ sampling.engine.state = .running ∧ sampling.engine.inFlight = some (.monitor 0) ∧
      sampling.flight.isSome = true ∧ sampling.engine.loaded.isSome = true ∧ sampling.engine.step = some .output :=
  ⟨test_sampling_lawful, by decide⟩

theorem witness_UnsettledOutputsAreNotUsed :
    measuring.FilterSettled ∧ measuring.engine.loaded = some { setup := .default, shorted := false, phase := .none } ∧
      exec (.outputPeriodEnd 1 false) measuring = .next (after (.outputPeriodEnd 1 false) measuring) ∧
      ((after (.outputPeriodEnd 1 false) measuring).port .a).ring ≠ (measuring.port .a).ring :=
  ⟨test_measuring_lawful.filter, by decide, rfl, by decide⟩

/-- A queue without and with a head; a loaded setup that the head matches, and one that it does not. -/
theorem witness_CandidatesMatchAndLoad :
    (State.reset.port .a).queue = [] ∧
      ((withRequest owned (queued 4 .contiguous)).port .a).queue = queued 4 .contiguous :: [] ∧
      measuring.engine.loaded = some { setup := owned.setup, shorted := false, phase := .none } ∧
      State.reset.engine.loaded ≠ some { setup := owned.setup, shorted := false, phase := .none } := by
  decide

/-- RUNNING and idle, a temperature sample behind a ZERO in the monitor queue. -/
def monitored : State :=
  running { State.reset with
    monitor := { State.reset.monitor with queue := [monitorEntry 1 .zero, monitorEntry 0 .measure] } }

/-- The monitor's entries in the order of R37. -/
def inMonitorOrder (s : State) : List Request :=
  s.monitor.queue.filter (fun r => decide (r.kind = .measure)) ++ s.monitor.queue.filter fun r => decide (r.kind = .zero)

/-- RUNNING and idle: with monitor entries, with nothing eligible, with an eligible head. -/
theorem witness_GrantPointsFollowTheChoice :
    (State.reset.MonitorQueueLawful ∧ ∀ q, 1 ≤ (State.reset.port q).weight ∧
        ∀ r ∈ (State.reset.port q).queue, r.source = .port q) ∧
      (inMonitorOrder monitored).find? monitored.monitorEligible = some (monitorEntry 0 .measure) ∧
      ((inMonitorOrder (running State.reset)).find? (running State.reset).monitorEligible = none ∧
        ∀ q, (running State.reset).headEligible q = false) ∧
      (running (withRequest owned (queued 4 .contiguous))).headEligible .a = true :=
  ⟨⟨test_reset_lawful.monitorQueue, by intro q; cases q <;> decide⟩, by decide,
    ⟨by decide, by intro q; cases q <;> decide⟩, by decide⟩

theorem witness_RefillsAreTheSmallestThatServe :
    (∀ q, 1 ≤ ((running (withRequest owned (queued 4 .contiguous))).port q).weight) ∧
      (running (withRequest owned (queued 4 .contiguous))).headEligible .a = true ∧
      0 < ((running (withRequest owned (queued 4 .contiguous))).port .a).credit ∧
      (∀ q, ((running (withRequest owned (queued 4 .contiguous))).modPort .a fun ps =>
        { ps with credit := -15 }).headEligible q = true →
          (((running (withRequest owned (queued 4 .contiguous))).modPort .a fun ps =>
            { ps with credit := -15 }).port q).credit ≤ 0) :=
  ⟨by intro q; cases q <;> decide, by decide, by decide, by intro q; cases q <;> decide⟩

theorem witness_VotesAndRulesMoveTheOutput :
    1 < (0x02#8 : Byte).toNat ∧ 2 < (0x03#8 : Byte).toNat ∧ State.reset.AwaitsFrame .a ∧
      State.reset.AwaitsFrame State.reset.supervisor := by
  decide

/-- An output in a state, with its timers as the state has them. -/
def outputAt (state : OutputPhase) (warmUp linger holdOff dwell : Timer) : State :=
  State.reset.modOutput .exb fun o =>
    { o with state, warmUpTimer := warmUp, lingerTimer := linger, holdOffTimer := holdOff, dwellTimer := dwell }

theorem witness_TimersAndClearanceMoveTheOutput :
    (((outputAt .warming (.running 10) .stopped .stopped .stopped).output .exb).state = .warming ∧
      ((outputAt .warming (.running 10) .stopped .stopped .stopped).output .exb).warmUpTimer = .running 10) ∧
    (((outputAt .linger .stopped (.running 20) .stopped .stopped).output .exb).state = .linger ∧
      ((outputAt .linger .stopped (.running 20) .stopped .stopped).output .exb).lingerTimer = .running 20) ∧
    (((outputAt .tripped .stopped .stopped (.running 100) .stopped).output .exb).state = .tripped ∧
      ((outputAt .tripped .stopped .stopped (.running 100) .stopped).output .exb).holdOffTimer = .running 100) ∧
    (((outputAt .ready .stopped .stopped .stopped (.running 1000)).output .exb).state = .ready ∧
      ((outputAt .ready .stopped .stopped .stopped (.running 1000)).output .exb).dwellTimer = .running 1000) ∧
    ((outputAt .lockedOut .stopped .stopped .stopped .stopped).output .exb).state = .lockedOut ∧
    (State.reset.output .exb).state ≠ .lockedOut ∧ 1 < (0x02#8 : Byte).toNat ∧ State.reset.AwaitsFrame .a ∧
    (outputAt .lockedOut .stopped .stopped .stopped .stopped).AwaitsFrame .a := by
  decide

theorem witness_TripsEndTheWorkThatNeedsTheOutput :
    excited.Lawful ∧ (excited.output .exa).state = .ready ∧ (excited.output .exa).tripCount = 2 ∧
      excited.engine.state = .running ∧ (excited.flight.any fun r => (excited.profile r.profile).need.get .exa) = true ∧
      (halting excited).Lawful ∧ (halting excited).engine.state = .halting :=
  ⟨test_excited_lawful, by decide, by decide, by decide, by decide, lawful_of_hold _ (by decide), rfl⟩

theorem witness_PortResetClearsThePort :
    (measuring.Lawful ∧ measuring.engine.state = .running ∧
      (measuring.flight.any fun r => decide (r.source = .port .a)) = true ∧ measuring.AwaitsFrame .a ∧
      (measuring.flight.any fun r => decide (r.source = .port .b)) = false ∧ measuring.AwaitsFrame .b) ∧
      ((halting measuring).Lawful ∧ (halting measuring).AwaitsFrame .a) ∧ offering.Lawful ∧ offering.AwaitsFrame .b :=
  ⟨⟨test_measuring_lawful, by decide⟩, ⟨test_halting_lawful, rfl⟩, test_offering_lawful, rfl⟩

theorem reset_sequences : State.reset.SequencesRun := by
  intro p k r h
  cases p <;> simp [State.reset, State.resetWith, State.port, PerPort.all, PerPort.get, PortState.reset] at h

theorem reset_results : State.reset.ResultsSound := by
  refine ⟨fun p r h => ?_, fun n r h => ?_, fun a b c h => ?_⟩
  · cases p <;> cases h
  · have none : ∀ n : Fin 32, (State.reset.profile n).record = Option.none := by decide
    rw [none n] at h
    cases h
  · cases h

/-- The laws that every step keeps have a state that meets them and a step from it. -/
theorem witness_of_laws :
    measuring.Lawful ∧ measuring.NoticesSound ∧ State.reset.SequencesRun ∧ State.reset.ResultsSound ∧
      measuring.ProfilesSound ∧ measuring.OwnersSound ∧
      measuring.ReferencesCount ∧ measuring.RetiringHeld ∧ measuring.DemandHandedOver ∧ measuring.SlotsLawful ∧ measuring.MonitorQueueLawful ∧
      measuring.OneInFlight ∧ measuring.RingsHoldRoom ∧ measuring.CreditsLawful ∧ measuring.FilterSettled ∧
      measuring.EngineLawful ∧ measuring.ExcitationSound ∧ measuring.FlightExcited ∧
      step { measuring with pending := [.outputPeriodEnd 7 false] } = .next (after (.outputPeriodEnd 7 false) measuring) ∧
      step State.reset = .next State.reset :=
  let h := test_measuring_lawful
  ⟨h, h.notices, reset_sequences, reset_results, h.profiles, h.owners, h.references, h.retiring, h.demand, h.slots, h.monitorQueue, h.oneInFlight,
    h.rings, h.credits, h.filter, h.engine, h.excitation, h.flightExcited, rfl, rfl⟩

end Sys2Proof.Tests
end

section
/-! SUPPORT. The commands PROFILE_CLAIM, PROFILE_READ, QUERY and STATUS: what each reads from its field byte, what it
answers, and that the close of its transaction does not show in its answer. -/

namespace Sys2Proof.Machine

/-! ## Profile numbers (R178, R180) -/

/-- The byte that encodes a profile number reads back as that number. -/
@[simp] theorem toNat_unsigned8_profile (n : Fin 32) : (unsigned8 n.val).toNat = n.val := by
  have : n.val < 2 ^ 8 := by omega
  simpa [unsigned8] using this

theorem numberOfCode_unsigned8 (n : Fin 32) : numberOfCode (unsigned8 n.val) = some n := by
  simp [numberOfCode]

theorem numberOfCode_eq_none_iff (b : Byte) : numberOfCode b = none ↔ 31 < b.toNat := by
  simp only [numberOfCode, dite_eq_right_iff, reduceCtorEq, imp_false]
  omega

theorem userNumberOfCode_unsigned8 {n : Fin 32} (user : n ≠ 0) : userNumberOfCode (unsigned8 n.val) = some n := by
  have nonzero : unsigned8 n.val ≠ 0x00#8 := fun e => user (Fin.ext (by simpa using congrArg BitVec.toNat e))
  rw [userNumberOfCode, if_neg nonzero, numberOfCode_unsigned8]

theorem userNumberOfCode_eq_none_iff (b : Byte) : userNumberOfCode b = none ↔ b = 0x00#8 ∨ 31 < b.toNat := by
  by_cases zero : b = 0x00#8
  · simp [userNumberOfCode, zero]
  · simp [userNumberOfCode, zero, numberOfCode_eq_none_iff]

/-! ## Commands that every port may give (R149, R160) -/

/-- A command whose own rule leaves the state as it stands: the answer is all that changes (R160, R178). -/
theorem State.take_of_answer {s : State} {p : Port} {code : CommandCode} {act : State → Answer} {status : Status}
    {payload : List Byte} (anyPort : code.supervisorOnly = false)
    (answer : act (s.closedAt p) = { state := s.closedAt p, status, payload }) :
    s.take p code act = s.answered p status code.byte payload := by
  rw [← s.closeTransaction_eq p] at answer
  rw [s.take_refused p code act (.inl anyPort) (by rw [answer]), answer]

theorem exec_profileClaim_eq_take {s : State} {p : Port} (b : Byte) (awaits : s.AwaitsFrame p) :
    exec (.profileClaim p b) s = .next (s.take p .profileClaim (profileClaim p b)) :=
  takeCommand_of_awaits (i := .profileClaim p b) _ s rfl awaits

theorem exec_profileRead_eq_take {s : State} {p : Port} (b : Byte) (awaits : s.AwaitsFrame p) :
    exec (.profileRead p b) s = .next (s.take p .profileRead (profileRead b)) :=
  takeCommand_of_awaits (i := .profileRead p b) _ s rfl awaits

theorem exec_query_eq_take {s : State} {p : Port} (tag : Byte) (awaits : s.AwaitsFrame p) :
    exec (.query p tag) s = .next (s.take p .query (query p tag)) :=
  takeCommand_of_awaits (i := .query p tag) _ s rfl awaits

theorem exec_status_eq_take {s : State} {p : Port} (awaits : s.AwaitsFrame p) :
    exec (.status p) s = .next (s.take p .status (status p)) :=
  takeCommand_of_awaits (i := .status p) _ s rfl awaits

/-! ## What the close of a transaction leaves (R159) -/

@[simp] theorem State.profile_closedAt (s : State) (p : Port) (n : Fin 32) : (s.closedAt p).profile n = s.profile n := rfl

@[simp] theorem State.port_closedAt_self (s : State) (p : Port) :
    (s.closedAt p).port p = { s.port p with transaction := .closed } := by
  simp [State.closedAt, State.port]

@[simp] theorem State.claimChoice_closedAt (s : State) (p : Port) (w : Wanted) :
    (s.closedAt p).claimChoice w = s.claimChoice w := rfl

@[simp] theorem State.statusBytes_closedAt (s : State) (p : Port) : (s.closedAt p).statusBytes p = s.statusBytes p := by
  cases p <;> rfl

/-! ## PROFILE_CLAIM (R10) -/

theorem State.claimable_iff (s : State) (n : Fin 32) : s.claimable n = true ↔ n ≠ 0 ∧ (s.profile n).state = .free := by
  simp [State.claimable]

theorem wantedOfCode_unsigned8 {n : Fin 32} (user : n ≠ 0) : wantedOfCode (unsigned8 n.val) = some (.named n) := by
  have named : unsigned8 n.val ≠ 0xFF#8 := fun e => by
    have : n.val = 255 := by simpa using congrArg BitVec.toNat e
    omega
  simp [wantedOfCode, named, userNumberOfCode_unsigned8 user]

theorem wantedOfCode_lowestFree : wantedOfCode 0xFF#8 = some .lowestFree := rfl

theorem wantedOfCode_eq_none_iff (b : Byte) :
    wantedOfCode b = none ↔ b = 0x00#8 ∨ 31 < b.toNat ∧ b ≠ 0xFF#8 := by
  by_cases lowest : b = 0xFF#8
  · simp [wantedOfCode, lowest]
  · simp [wantedOfCode, lowest, userNumberOfCode_eq_none_iff]

theorem State.claimChoice_named_free {s : State} {n : Fin 32} (user : n ≠ 0) (free : (s.profile n).state = .free) :
    s.claimChoice (.named n) = some n :=
  if_pos ((s.claimable_iff n).2 ⟨user, free⟩)

theorem State.claimChoice_named_not_free {s : State} {n : Fin 32} (taken : (s.profile n).state ≠ .free) :
    s.claimChoice (.named n) = none :=
  if_neg fun h => taken ((s.claimable_iff n).1 h).2

/-- "Lowest free" chooses the FREE user profile below which no user profile is FREE. -/
theorem State.claimChoice_lowestFree {s : State} {n : Fin 32} (user : n ≠ 0) (free : (s.profile n).state = .free)
    (least : ∀ m : Fin 32, 0 < m → m < n → (s.profile m).state ≠ .free) : s.claimChoice .lowestFree = some n := by
  refine List.find?_eq_some_iff_getElem.2
    ⟨(s.claimable_iff n).2 ⟨user, free⟩, n.val, by simp [profileNumbers], by simp [profileNumbers], fun j below => ?_⟩
  have not_claimable : ∀ m : Fin 32, m < n → s.claimable m = false := fun m lower =>
    Bool.eq_false_iff.2 fun h =>
      least m (Fin.pos_iff_ne_zero.2 ((s.claimable_iff m).1 h).1) lower ((s.claimable_iff m).1 h).2
  simpa [profileNumbers] using not_claimable _ (Fin.lt_def.2 (by simpa using below))

theorem State.claimChoice_lowestFree_none {s : State} (taken : ∀ m : Fin 32, 0 < m → (s.profile m).state ≠ .free) :
    s.claimChoice .lowestFree = none :=
  List.find?_eq_none.2 fun m _ h =>
    taken m (Fin.pos_iff_ne_zero.2 ((s.claimable_iff m).1 h).1) ((s.claimable_iff m).1 h).2

theorem profileClaim_badField {b : Byte} (wanted : wantedOfCode b = none) (p : Port) (s : State) :
    profileClaim p b s = .refuse s .badField := by
  simp [profileClaim, wanted]

theorem profileClaim_profileState {b : Byte} {w : Wanted} {s : State} (wanted : wantedOfCode b = some w)
    (choice : s.claimChoice w = none) (p : Port) : profileClaim p b s = .refuse s .profileState := by
  simp [profileClaim, wanted, choice]

theorem profileClaim_of_choice {b : Byte} {w : Wanted} {s : State} {n : Fin 32} (wanted : wantedOfCode b = some w)
    (choice : s.claimChoice w = some n) (p : Port) :
    profileClaim p b s =
      if (s.port p).allowance ≤ (s.port p).owned then .refuse s .allowance else .accept (s.claim p n) [unsigned8 n.val] := by
  simp [profileClaim, wanted, choice]

/-- A claim answered after the close of its transaction is the claim on the state before, answered. -/
theorem State.respond_claim_closedAt (s : State) (p : Port) (n : Fin 32) (status : Status) (code : Byte)
    (payload : List Byte) :
    ((s.closedAt p).claim p n).respond p status code payload = (s.claim p n).answered p status code payload := by
  cases p <;> rfl

/-- R10: where no profile can be chosen, a full allowance is not asked about. -/
theorem State.take_profileClaim_noChoice {s : State} {p : Port} {b : Byte} {w : Wanted}
    (wanted : wantedOfCode b = some w) (choice : s.claimChoice w = none) :
    s.take p .profileClaim (profileClaim p b) = s.answered p .profileState 0x10#8 [] :=
  State.take_of_answer rfl (profileClaim_profileState wanted (by simpa using choice) p)

/-- R10: a port with a full allowance is refused once a profile is chosen. -/
theorem State.take_profileClaim_full {s : State} {p : Port} {b : Byte} {w : Wanted} {n : Fin 32}
    (wanted : wantedOfCode b = some w) (choice : s.claimChoice w = some n)
    (full : (s.port p).allowance ≤ (s.port p).owned) :
    s.take p .profileClaim (profileClaim p b) = s.answered p .allowance 0x10#8 [] :=
  State.take_of_answer rfl (by
    rw [profileClaim_of_choice wanted (by simpa using choice)]
    exact if_pos (by simpa using full))

/-- R10: a port with allowance left claims the chosen profile. -/
theorem State.take_profileClaim_room {s : State} {p : Port} {b : Byte} {w : Wanted} {n : Fin 32}
    (wanted : wantedOfCode b = some w) (choice : s.claimChoice w = some n)
    (room : (s.port p).owned < (s.port p).allowance) :
    s.take p .profileClaim (profileClaim p b) = (s.claim p n).answered p .ok 0x10#8 [unsigned8 n.val] := by
  have accepted : profileClaim p b (s.closedAt p) = .accept ((s.closedAt p).claim p n) [unsigned8 n.val] := by
    rw [profileClaim_of_choice wanted (by simpa using choice)]
    exact if_neg (by simpa using room)
  rw [s.take_allowed p .profileClaim _ (.inl rfl), s.closeTransaction_eq, accepted]
  exact s.respond_claim_closedAt p n _ _ _

/-- What a claim byte chooses, where it names a FREE user profile or asks for the lowest one. -/
theorem State.exists_claimChoice {s : State} {n : Fin 32} {b : Byte} (user : n ≠ 0)
    (free : (s.profile n).state = .free)
    (names : b = unsigned8 n.val ∨ b = 0xFF#8 ∧ ∀ m : Fin 32, 0 < m → m < n → (s.profile m).state ≠ .free) :
    ∃ w, wantedOfCode b = some w ∧ s.claimChoice w = some n := by
  rcases names with rfl | ⟨rfl, least⟩
  · exact ⟨.named n, wantedOfCode_unsigned8 user, State.claimChoice_named_free user free⟩
  · exact ⟨.lowestFree, wantedOfCode_lowestFree, State.claimChoice_lowestFree user free least⟩

/-! ## PROFILE_READ (R13) -/

theorem profileRead_unsigned8 (n : Fin 32) (s : State) :
    profileRead (unsigned8 n.val) s = .accept s (profileBytes n (s.profile n)) := by
  simp [profileRead, numberOfCode_unsigned8]

theorem profileRead_badField {b : Byte} (above : 31 < b.toNat) (s : State) : profileRead b s = .refuse s .badField := by
  simp [profileRead, (numberOfCode_eq_none_iff b).2 above]

/-- Eight zero bytes stand where a profile has no offset record (R182). -/
theorem recordBytes_none : recordBytes none = List.replicate 8 0x00#8 := by decide

/-! ## QUERY (R45) -/

theorem query_unknownTag {s : State} {p : Port} {tag : Byte} (unknown : ∀ x ∈ (s.port p).queue, x.tag ≠ some tag) :
    query p tag s = .refuse s .unknownTag := by
  have absent : (s.port p).tagged tag = none := List.find?_eq_none.2 (by simpa using unknown)
  simp [query, absent]

theorem PortState.tagged_append_cons {ps : PortState} {tag : Byte} {before behind : List Request} {r : Request}
    (queue : ps.queue = before ++ r :: behind) (tagged : r.tag = some tag) (first : ∀ x ∈ before, x.tag ≠ some tag) :
    ps.tagged tag = some r := by
  have absent : before.find? (fun x => decide (x.tag = some tag)) = none := List.find?_eq_none.2 (by simpa using first)
  simp [PortState.tagged, queue, List.find?_append, absent, tagged]

/-- The head counts as position 1 (R45). -/
theorem PortState.position_append_cons {ps : PortState} {tag : Byte} {before behind : List Request} {r : Request}
    (queue : ps.queue = before ++ r :: behind) (tagged : r.tag = some tag) (first : ∀ x ∈ before, x.tag ≠ some tag) :
    ps.position tag = before.length + 1 := by
  have length : before.findIdx (fun x => decide (x.tag = some tag)) = before.length :=
    List.findIdx_eq_length.2 (by simpa using first)
  simp [PortState.position, queue, List.findIdx_append, length, List.findIdx_cons, tagged]

theorem query_append_cons {s : State} {p : Port} {tag : Byte} {before behind : List Request} {r : Request}
    (queue : (s.port p).queue = before ++ r :: behind) (tagged : r.tag = some tag)
    (first : ∀ x ∈ before, x.tag ≠ some tag) :
    query p tag s = .accept s
      ([tag, r.state.code, unsigned8 (before.length + 1)] ++ unsigned16 r.delivered ++ [sideCode r.side]) := by
  simp [query, PortState.tagged_append_cons queue tagged first, PortState.position_append_cons queue tagged first]

/-! ## STATUS (R174) -/

theorem State.status_closedAt (s : State) (p : Port) :
    status p (s.closedAt p) = .accept (s.closedAt p) (s.statusBytes p) := by
  simp [status]

end Sys2Proof.Machine
end

section
/-! SUPPORT. The statements O17 and O20. -/

namespace Sys2Proof.Proofs

open Sys2Proof Sys2Proof.Machine

/-- Settles O17: the check order is the order of the branches of `profileClaim`, each of them one lemma on the byte and
the choice it makes. -/
theorem claimTakesTheDefaultContents : Obligations.ClaimTakesTheDefaultContents := by
  intro s p n user awaits
  simp only [exec_profileClaim_eq_take _ awaits, Host.Outcome.next.injEq]
  refine ⟨fun b names free => ?_, fun taken => ?_, fun taken => ?_, fun b range => ?_⟩
  · obtain ⟨w, wanted, choice⟩ := State.exists_claimChoice user free names
    exact ⟨State.take_profileClaim_room wanted choice, State.take_profileClaim_full wanted choice⟩
  · exact State.take_profileClaim_noChoice (wantedOfCode_unsigned8 user) (State.claimChoice_named_not_free taken)
  · exact State.take_profileClaim_noChoice wantedOfCode_lowestFree (State.claimChoice_lowestFree_none taken)
  · exact State.take_of_answer rfl (profileClaim_badField ((wantedOfCode_eq_none_iff b).2 range) p _)

/-- Settles O20: each of the three commands answers from the state as it stands and leaves it so, which the close of its
transaction does not touch; what is left is its record's bytes. -/
theorem readsReportAndChangeNothing : Obligations.ReadsReportAndChangeNothing := by
  intro s p awaits
  simp only [exec_profileRead_eq_take _ awaits, exec_query_eq_take _ awaits, exec_status_eq_take awaits,
    Host.Outcome.next.injEq]
  refine ⟨fun n => ?_, fun b above => ?_, fun tag before behind r queue tagged first => ?_, fun tag unknown => ?_, ?_⟩
  · rw [State.take_of_answer rfl (profileRead_unsigned8 n _)]
    cases record : (s.profile n).record <;> simp [profileBytes, contentBytes, record, recordBytes_none] <;> rfl
  · exact State.take_of_answer rfl (profileRead_badField above _)
  · rw [State.take_of_answer rfl (query_append_cons (by simpa using queue) tagged first)]
    cases r.side <;> rfl
  · exact State.take_of_answer rfl (query_unknownTag (by simpa using unknown))
  · rw [State.take_of_answer rfl (s.status_closedAt p)]
    cases offer : s.offer <;> simp [State.statusBytes, offer] <;> rfl

end Sys2Proof.Proofs
end

section
/-! SUPPORT. The supervisor's settings SET_QUOTA, SET_WEIGHT, SET_AFFINITY and SET_ALLOWANCE: the port that a field byte
names, the answer of each rule in each of its cases, and that the close of the transaction does not show in it. -/

namespace Sys2Proof

/-! ## Port codes (R179) -/

@[simp] theorem Port.ofCode_code (q : Port) : Port.ofCode q.code = some q := by
  cases q <;> rfl

theorem Port.ofCode_eq_none_of_lt {b : Byte} (above : 2 < b.toNat) : Port.ofCode b = none := by
  have ne_small (k : Byte) (small : k.toNat ≤ 2) : b ≠ k := fun e => by
    rw [e] at above
    omega
  simp [Port.ofCode, ne_small 0x00#8 (by decide), ne_small 0x01#8 (by decide), ne_small 0x02#8 (by decide)]

namespace Machine

/-! ## Commands that the supervisor may give (R149, R160) -/

theorem exec_setQuota_eq_take {s : State} {p : Port} (b x y : Byte) (awaits : s.AwaitsFrame p) :
    exec (.setQuota p b x y) s = .next (s.take p .setQuota (setQuota b x y)) :=
  takeCommand_of_awaits (i := .setQuota p b x y) _ s rfl awaits

theorem exec_setWeight_eq_take {s : State} {p : Port} (b x : Byte) (awaits : s.AwaitsFrame p) :
    exec (.setWeight p b x) s = .next (s.take p .setWeight (setWeight b x)) :=
  takeCommand_of_awaits (i := .setWeight p b x) _ s rfl awaits

theorem exec_setAffinity_eq_take {s : State} {p : Port} (x : Byte) (awaits : s.AwaitsFrame p) :
    exec (.setAffinity p x) s = .next (s.take p .setAffinity (setAffinity x)) :=
  takeCommand_of_awaits (i := .setAffinity p x) _ s rfl awaits

theorem exec_setAllowance_eq_take {s : State} {p : Port} (b x : Byte) (awaits : s.AwaitsFrame p) :
    exec (.setAllowance p b x) s = .next (s.take p .setAllowance (setAllowance b x)) :=
  takeCommand_of_awaits (i := .setAllowance p b x) _ s rfl awaits

/-- A command that its own rule refuses to the supervisor (R149, R161). -/
theorem State.take_supervisor_refuse {s : State} {code : CommandCode} {act : State → Answer} {status : Status}
    (refuses : act (s.closedAt s.supervisor) = .refuse (s.closedAt s.supervisor) status) :
    s.take s.supervisor code act = s.answered s.supervisor status code.byte [] := by
  rw [← s.closeTransaction_eq] at refuses
  rw [s.take_refused _ code act (.inr rfl) (by rw [refuses, Answer.refuse]), refuses, Answer.refuse]

/-- A command that its own rule accepts from the supervisor (R149, R160). -/
theorem State.take_supervisor_accept {s u : State} {code : CommandCode} {act : State → Answer} {payload : List Byte}
    (accepts : act (s.closedAt s.supervisor) = .accept u payload) :
    s.take s.supervisor code act = u.respond s.supervisor .ok code.byte payload := by
  rw [s.take_allowed _ code act (.inr rfl), s.closeTransaction_eq, accepts, Answer.accept]

/-! ## What the close of a transaction leaves (R159) -/

/-- A value of a port that is not its transaction reads the same after the close of any port's transaction. -/
theorem State.read_closedAt {α : Type} (read : PortState → α) (s : State) (p q : Port)
    (unread : ∀ ps, read { ps with transaction := .closed } = read ps) :
    read ((s.closedAt p).port q) = read (s.port q) := by
  by_cases same : q = p
  · simp [State.closedAt, State.port, same, unread]
  · simp [State.closedAt, State.port, same]

@[simp] theorem State.used_closedAt (s : State) (p q : Port) : ((s.closedAt p).port q).used = (s.port q).used :=
  State.read_closedAt (·.used) s p q fun _ => rfl

@[simp] theorem State.reserve_closedAt (s : State) (p q : Port) :
    ((s.closedAt p).port q).reserve = (s.port q).reserve :=
  State.read_closedAt (·.reserve) s p q fun _ => rfl

@[simp] theorem State.credit_closedAt (s : State) (p q : Port) : ((s.closedAt p).port q).credit = (s.port q).credit :=
  State.read_closedAt (·.credit) s p q fun _ => rfl

@[simp] theorem State.owned_closedAt (s : State) (p q : Port) : ((s.closedAt p).port q).owned = (s.port q).owned :=
  State.read_closedAt (·.owned) s p q fun _ => rfl

/-- A change of a port that neither reads nor moves its interface, answered after the close of a transaction, is the change
of the state before, answered. -/
theorem State.respond_modPort_closedAt (s : State) (p q : Port) (f : PortState → PortState) (status : Status)
    (code : Byte) (payload : List Byte)
    (apart : ∀ ps holder,
      { f { ps with transaction := .closed } with holder } = { f ps with transaction := .closed, holder }) :
    ((s.closedAt p).modPort q f).respond p status code payload = (s.modPort q f).answered p status code payload := by
  cases p <;> cases q <;>
    simp [State.respond, State.modPort, State.answered, State.closedAt, PerPort.get, PerPort.set, apart]

theorem State.respond_modArbiter_closedAt (s : State) (p : Port) (f : Arbiter → Arbiter) (status : Status) (code : Byte)
    (payload : List Byte) :
    ((s.closedAt p).modArbiter f).respond p status code payload = (s.modArbiter f).answered p status code payload := by
  cases p <;> rfl

/-! ## SET_QUOTA (R33) -/

/-- The admission sum with a new quota in place: the port that it names counts with the new reserve (R31). -/
theorem State.admissionSum_withQuota (s : State) (q : Port) (reserve ceiling : Nat) :
    (s.withQuota q reserve ceiling).admissionSum =
      max (s.port .a).used (if q = .a then reserve else (s.port .a).reserve)
        + max (s.port .b).used (if q = .b then reserve else (s.port .b).reserve)
        + max (s.port .c).used (if q = .c then reserve else (s.port .c).reserve) := by
  cases q <;> rfl

/-- The pool law that a new quota has to keep (R33). -/
def State.QuotaConflicts (s : State) (q : Port) (reserve ceiling : Nat) : Prop :=
  ceiling < reserve ∨ ceiling < (s.port q).used ∨ slotCount < (s.withQuota q reserve ceiling).admissionSum

@[simp] theorem State.quotaConflicts_closedAt (s : State) (p q : Port) (reserve ceiling : Nat) :
    (s.closedAt p).QuotaConflicts q reserve ceiling ↔ s.QuotaConflicts q reserve ceiling := by
  simp [State.QuotaConflicts, State.admissionSum_withQuota]

theorem setQuota_noPort {b : Byte} (above : 2 < b.toNat) (x y : Byte) (s : State) :
    setQuota b x y s = .refuse s .badField := by
  simp [setQuota, Port.ofCode_eq_none_of_lt above]

theorem setQuota_outOfRange {x y : Byte} (range : slotCount < x.toNat ∨ slotCount < y.toNat) (q : Port) (s : State) :
    setQuota q.code x y s = .refuse s .badField := by
  simp [setQuota, range]

theorem setQuota_conflict {x y : Byte} {q : Port} {s : State} (hx : x.toNat ≤ slotCount) (hy : y.toNat ≤ slotCount)
    (conflicts : s.QuotaConflicts q x.toNat y.toNat) : setQuota q.code x y s = .refuse s .quotaConflict := by
  have inRange : ¬ (slotCount < x.toNat ∨ slotCount < y.toNat) := by omega
  simp only [setQuota, Port.ofCode_code, if_neg inRange]
  rcases conflicts with order | used | sum
  · rw [if_pos order]
  · rw [if_pos used, ite_self]
  · rw [if_pos sum, ite_self, ite_self]

theorem setQuota_keeps {x y : Byte} {q : Port} {s : State} (hx : x.toNat ≤ slotCount) (hy : y.toNat ≤ slotCount)
    (keeps : ¬ s.QuotaConflicts q x.toNat y.toNat) :
    setQuota q.code x y s = .accept (s.withQuota q x.toNat y.toNat) [q.code, x, y] := by
  have inRange : ¬ (slotCount < x.toNat ∨ slotCount < y.toNat) := by omega
  simp only [State.QuotaConflicts, not_or] at keeps
  obtain ⟨order, used, sum⟩ := keeps
  simp only [setQuota, Port.ofCode_code, if_neg inRange, if_neg order, if_neg used, if_neg sum]

/-! ## SET_WEIGHT (R62) -/

/-- The credit after a new weight, as R62 words it. -/
theorem PortState.withWeight_eq (ps : PortState) (weight : Nat) :
    ps.withWeight weight =
      { ps with weight, credit := if (weight : Int) < ps.credit then (weight : Int) else ps.credit } := by
  rw [PortState.withWeight, min_comm, min_def_lt]

theorem setWeight_noPort {b : Byte} (above : 2 < b.toNat) (x : Byte) (s : State) :
    setWeight b x s = .refuse s .badField := by
  simp [setWeight, Port.ofCode_eq_none_of_lt above]

theorem setWeight_outOfRange {x : Byte} (range : x.toNat = 0 ∨ 8 < x.toNat) (q : Port) (s : State) :
    setWeight q.code x s = .refuse s .badField := by
  simp only [setWeight, Port.ofCode_code, if_pos range]

theorem setWeight_inRange {x : Byte} (low : 1 ≤ x.toNat) (high : x.toNat ≤ 8) (q : Port) (s : State) :
    setWeight q.code x s =
      .accept (s.modPort q (·.withWeight x.toNat)) [q.code, x, signed8 ((s.port q).withWeight x.toNat).credit] := by
  have inRange : ¬ (x.toNat = 0 ∨ 8 < x.toNat) := by omega
  simp only [setWeight, Port.ofCode_code, if_neg inRange, State.port_modPort_self]

/-! ## SET_AFFINITY (R65) -/

theorem setAffinity_outOfRange {x : Byte} (above : 15 < x.toNat) (s : State) :
    setAffinity x s = .refuse s .badField :=
  if_pos above

theorem setAffinity_inRange {x : Byte} (range : x.toNat ≤ 15) (s : State) :
    setAffinity x s = .accept (s.modArbiter fun a => { a with limit := x.toNat }) [x] :=
  if_neg (by omega)

/-! ## SET_ALLOWANCE (R151) -/

theorem setAllowance_noPort {b : Byte} (above : 2 < b.toNat) (x : Byte) (s : State) :
    setAllowance b x s = .refuse s .badField := by
  simp [setAllowance, Port.ofCode_eq_none_of_lt above]

theorem setAllowance_outOfRange {x : Byte} (above : 31 < x.toNat) (q : Port) (s : State) :
    setAllowance q.code x s = .refuse s .badField := by
  simp only [setAllowance, Port.ofCode_code, if_pos above]

theorem setAllowance_inRange {x : Byte} (range : x.toNat ≤ 31) (q : Port) (s : State) :
    setAllowance q.code x s =
      .accept (s.modPort q fun ps => { ps with allowance := x.toNat }) [q.code, x, unsigned8 (s.port q).owned] := by
  have inRange : ¬ 31 < x.toNat := by omega
  simp only [setAllowance, Port.ofCode_code, if_neg inRange]

/-! ## The settings taken from the supervisor -/

/-- R33: a quota that keeps the pool law is left as the port's reserve and ceiling. -/
theorem State.take_setQuota_keeps {s : State} {q : Port} {x y : Byte} (hx : x.toNat ≤ slotCount)
    (hy : y.toNat ≤ slotCount) (keeps : ¬ s.QuotaConflicts q x.toNat y.toNat) :
    s.take s.supervisor .setQuota (setQuota q.code x y) =
      (s.modPort q fun ps => { ps with reserve := x.toNat, ceiling := y.toNat }).answered s.supervisor .ok 0x42#8
        [q.code, x, y] := by
  rw [State.take_supervisor_accept (setQuota_keeps hx hy (by simpa using keeps))]
  exact s.respond_modPort_closedAt _ q _ _ _ _ fun _ _ => rfl

/-- R62: a weight in range is left as the port's weight, and a credit above it lowered to it. -/
theorem State.take_setWeight_inRange {s : State} {q : Port} {x : Byte} (low : 1 ≤ x.toNat) (high : x.toNat ≤ 8) :
    s.take s.supervisor .setWeight (setWeight q.code x) =
      (s.modPort q (·.withWeight x.toNat)).answered s.supervisor .ok 0x43#8
        [q.code, x, signed8 ((s.port q).withWeight x.toNat).credit] := by
  rw [State.take_supervisor_accept (setWeight_inRange low high q _),
    s.respond_modPort_closedAt _ q _ _ _ _ fun _ _ => rfl]
  simp only [PortState.withWeight, State.credit_closedAt, CommandCode.byte]

/-- R65: a limit in range is left as the affinity limit. -/
theorem State.take_setAffinity_inRange {s : State} {x : Byte} (range : x.toNat ≤ 15) :
    s.take s.supervisor .setAffinity (setAffinity x) =
      (s.modArbiter fun a => { a with limit := x.toNat }).answered s.supervisor .ok 0x44#8 [x] := by
  rw [State.take_supervisor_accept (setAffinity_inRange range _)]
  exact s.respond_modArbiter_closedAt _ _ _ _ _

/-- R151: an allowance in range is left as the port's allowance, and the response tells what the port owns. -/
theorem State.take_setAllowance_inRange {s : State} {q : Port} {x : Byte} (range : x.toNat ≤ 31) :
    s.take s.supervisor .setAllowance (setAllowance q.code x) =
      (s.modPort q fun ps => { ps with allowance := x.toNat }).answered s.supervisor .ok 0x45#8
        [q.code, x, unsigned8 (s.port q).owned] := by
  rw [State.take_supervisor_accept (setAllowance_inRange range q _), State.owned_closedAt]
  exact s.respond_modPort_closedAt _ q _ _ _ _ fun _ _ => rfl

end Machine

end Sys2Proof
end

section
/-! SUPPORT. The statement O31. -/

namespace Sys2Proof.Proofs

open Sys2Proof Sys2Proof.Machine

/-- Settles O31: the rights check stands before the four rules, and each rule's branches are one lemma each on the field
bytes; the conflict clauses are `State.QuotaConflicts` with the admission sum written out. -/
theorem poolAndArbiterSettingsTakeEffect : Obligations.PoolAndArbiterSettingsTakeEffect := by
  intro s q x y p sum
  have conflicts_iff : s.QuotaConflicts q x.toNat y.toNat ↔
      y.toNat < x.toNat ∨ y.toNat < (s.port q).used ∨ 24 < sum x.toNat := by
    rw [State.QuotaConflicts, State.admissionSum_withQuota, slotCount]
  refine ⟨fun other b ne awaits => ?_, fun awaits => ?_⟩
  · simp only [exec_setQuota_eq_take _ _ _ awaits, exec_setWeight_eq_take _ _ awaits, exec_setAffinity_eq_take _ awaits,
      exec_setAllowance_eq_take _ _ awaits, Host.Outcome.next.injEq]
    exact ⟨s.take_notSupervisor other _ _ rfl ne.symm, s.take_notSupervisor other _ _ rfl ne.symm,
      s.take_notSupervisor other _ _ rfl ne.symm, s.take_notSupervisor other _ _ rfl ne.symm⟩
  simp only [exec_setQuota_eq_take _ _ _ awaits, exec_setWeight_eq_take _ _ awaits, exec_setAffinity_eq_take _ awaits,
    exec_setAllowance_eq_take _ _ awaits, Host.Outcome.next.injEq]
  refine ⟨fun b above => ⟨?_, ?_, ?_⟩, fun range => ?_, fun hx hy => ⟨fun conflicts => ?_, fun order used room => ?_⟩,
    fun range => ?_, fun low high => ?_, fun above => ?_, fun range => ?_, fun above => ?_, fun range => ?_⟩
  · exact State.take_supervisor_refuse (setQuota_noPort above x y _)
  · exact State.take_supervisor_refuse (setWeight_noPort above x _)
  · exact State.take_supervisor_refuse (setAllowance_noPort above x _)
  · exact State.take_supervisor_refuse (setQuota_outOfRange range q _)
  · exact State.take_supervisor_refuse (setQuota_conflict hx hy (by simpa using conflicts_iff.2 conflicts))
  · refine State.take_setQuota_keeps hx hy fun conflicts => ?_
    have := conflicts_iff.1 conflicts
    omega
  · exact State.take_supervisor_refuse (setWeight_outOfRange range q _)
  · simpa only [PortState.withWeight_eq] using State.take_setWeight_inRange low high
  · exact State.take_supervisor_refuse (setAffinity_outOfRange above _)
  · exact State.take_setAffinity_inRange range
  · exact State.take_supervisor_refuse (setAllowance_outOfRange above q _)
  · exact State.take_setAllowance_inRange range

end Sys2Proof.Proofs
end

section
/-! SUPPORT. The supervisor's settings SET_CAL_POLICY and SET_EXCITE_TIMING: the output that a field byte names, the
answer of each rule in each of its cases, and that the close of the transaction does not show in it. -/

namespace Sys2Proof

/-! ## Output codes (R179) -/

@[simp] theorem OutputId.ofCode_code (o : OutputId) : OutputId.ofCode o.code = some o := by
  cases o <;> rfl

theorem OutputId.ofCode_eq_none_of_lt {b : Byte} (above : 1 < b.toNat) : OutputId.ofCode b = none := by
  have ne_small (k : Byte) (small : k.toNat ≤ 1) : b ≠ k := fun e => by
    rw [e] at above
    omega
  simp [OutputId.ofCode, ne_small 0x00#8 (by decide), ne_small 0x01#8 (by decide)]

namespace Machine

/-! ## Commands that the supervisor may give (R149, R160) -/

theorem exec_setCalPolicy_eq_take {s : State} {p : Port} (x y : Byte) (d : BitVec 16) (awaits : s.AwaitsFrame p) :
    exec (.setCalPolicy p x y d) s = .next (s.take p .setCalPolicy (setCalPolicy x y d)) :=
  takeCommand_of_awaits (i := .setCalPolicy p x y d) _ s rfl awaits

theorem exec_setExciteTiming_eq_take {s : State} {p : Port} (b x y : Byte) (awaits : s.AwaitsFrame p) :
    exec (.setExciteTiming p b x y) s = .next (s.take p .setExciteTiming (setExciteTiming b x y)) :=
  takeCommand_of_awaits (i := .setExciteTiming p b x y) _ s rfl awaits

/-! ## What the close of a transaction leaves (R159) -/

theorem State.respond_modMonitor_closedAt (s : State) (p : Port) (f : Monitor → Monitor) (status : Status) (code : Byte)
    (payload : List Byte) :
    ((s.closedAt p).modMonitor f).respond p status code payload = (s.modMonitor f).answered p status code payload := by
  cases p <;> rfl

theorem State.respond_modOutput_closedAt (s : State) (p : Port) (o : OutputId) (f : OutputState → OutputState)
    (status : Status) (code : Byte) (payload : List Byte) :
    ((s.closedAt p).modOutput o f).respond p status code payload = (s.modOutput o f).answered p status code payload := by
  cases p <;> rfl

/-! ## SET_CAL_POLICY (R108) -/

/-- The monitor after a new policy, as R108 words it: a stopped interval timer stays stopped. -/
theorem Monitor.withPolicy_eq (m : Monitor) (interval maxAge maxDelta : Nat) :
    m.withPolicy interval maxAge maxDelta =
      { m with
        sampleInterval := interval, maxAge, maxDelta
        intervalTimer := if m.intervalTimer = Timer.stopped then Timer.stopped else .running (interval * 1000) } := by
  cases timer : m.intervalTimer <;> simp [Monitor.withPolicy, timer]

theorem setCalPolicy_outOfRange {x y : Byte} {d : BitVec 16}
    (range : x.toNat = 0 ∨ y.toNat = 0 ∨ d.toNat = 0 ∨ 2000 < d.toNat) (s : State) :
    setCalPolicy x y d s = .refuse s .badField :=
  if_pos range

theorem setCalPolicy_inRange {x y : Byte} {d : BitVec 16} (interval : 1 ≤ x.toNat) (age : 1 ≤ y.toNat)
    (low : 1 ≤ d.toNat) (high : d.toNat ≤ 2000) (s : State) :
    setCalPolicy x y d s =
      .accept (s.modMonitor (·.withPolicy x.toNat y.toNat d.toNat)) ([x, y] ++ bytes16 d) :=
  if_neg (by omega)

/-- R108: a policy in range is left as the monitor's three values, in the event that restarts its running timer. -/
theorem State.take_setCalPolicy_inRange {s : State} {x y : Byte} {d : BitVec 16} (interval : 1 ≤ x.toNat)
    (age : 1 ≤ y.toNat) (low : 1 ≤ d.toNat) (high : d.toNat ≤ 2000) :
    s.take s.supervisor .setCalPolicy (setCalPolicy x y d) =
      (s.modMonitor (·.withPolicy x.toNat y.toNat d.toNat)).answered s.supervisor .ok 0x49#8 ([x, y] ++ bytes16 d) := by
  rw [State.take_supervisor_accept (setCalPolicy_inRange interval age low high _)]
  exact s.respond_modMonitor_closedAt _ _ _ _ _

/-! ## SET_EXCITE_TIMING (R139) -/

theorem setExciteTiming_noOutput {b : Byte} (above : 1 < b.toNat) (x y : Byte) (s : State) :
    setExciteTiming b x y s = .refuse s .badField := by
  simp only [setExciteTiming, OutputId.ofCode_eq_none_of_lt above]

theorem setExciteTiming_noWarmUp {x : Byte} (zero : x.toNat = 0) (o : OutputId) (y : Byte) (s : State) :
    setExciteTiming o.code x y s = .refuse s .badField := by
  have noWarmUp : x = 0#8 := BitVec.eq_of_toNat_eq zero
  simp only [setExciteTiming, OutputId.ofCode_code, if_pos noWarmUp]

theorem setExciteTiming_inRange {x : Byte} (warmUp : 1 ≤ x.toNat) (o : OutputId) (y : Byte) (s : State) :
    setExciteTiming o.code x y s =
      .accept (s.modOutput o fun out => { out with warmUpTime := x.toNat, lingerTime := y.toNat }) [o.code, x, y] := by
  have nonzero : x ≠ 0#8 := fun e => by simp [e] at warmUp
  simp only [setExciteTiming, OutputId.ofCode_code, if_neg nonzero]

/-- R139: both times are left as the output's settings, and its timers as they stand. -/
theorem State.take_setExciteTiming_inRange {s : State} {x : Byte} (warmUp : 1 ≤ x.toNat) (o : OutputId) (y : Byte) :
    s.take s.supervisor .setExciteTiming (setExciteTiming o.code x y) =
      (s.modOutput o fun out => { out with warmUpTime := x.toNat, lingerTime := y.toNat }).answered s.supervisor .ok
        0x47#8 [o.code, x, y] := by
  rw [State.take_supervisor_accept (setExciteTiming_inRange warmUp o y _)]
  exact s.respond_modOutput_closedAt _ o _ _ _ _

end Machine

end Sys2Proof
end

section
/-! SUPPORT. The statement O32. -/

namespace Sys2Proof.Proofs

open Sys2Proof Sys2Proof.Machine

/-- Settles O32: the rights check stands before the two rules, and each rule's branches are one lemma each on the field
bytes; the restart of a running interval timer is `Monitor.withPolicy`, in the words of `Monitor.withPolicy_eq`. -/
theorem policyAndTimingTakeEffect : Obligations.PolicyAndTimingTakeEffect := by
  intro s x y d o p
  refine ⟨fun other b ne awaits => ?_, fun awaits => ?_⟩
  · simp only [exec_setCalPolicy_eq_take _ _ _ awaits, exec_setExciteTiming_eq_take _ _ _ awaits,
      Host.Outcome.next.injEq]
    exact ⟨s.take_notSupervisor other _ _ rfl ne.symm, s.take_notSupervisor other _ _ rfl ne.symm⟩
  simp only [exec_setCalPolicy_eq_take _ _ _ awaits, exec_setExciteTiming_eq_take _ _ _ awaits,
    Host.Outcome.next.injEq]
  refine ⟨fun range => ?_, fun interval age low high => ?_, fun b above => ?_, fun zero => ?_, fun warmUp => ?_⟩
  · exact State.take_supervisor_refuse (setCalPolicy_outOfRange range _)
  · simpa only [State.modMonitor, Monitor.withPolicy_eq] using State.take_setCalPolicy_inRange interval age low high
  · exact State.take_supervisor_refuse (setExciteTiming_noOutput above x y _)
  · exact State.take_supervisor_refuse (setExciteTiming_noWarmUp zero o y _)
  · exact State.take_setExciteTiming_inRange warmUp o y

end Sys2Proof.Proofs
end

section
/-! SUPPORT. Notices and the ALERT line: how a queue takes a posted notice, what READ_NOTICES and ALERT_CONFIG read from
their field byte and answer, and that the close of the transaction does not show in the answer. -/

namespace Sys2Proof.Machine

/-! ## Posting a notice (R123) -/

/-- R123, R127: a notice that finds room joins the tail, and a queue that holds one drives ALERT low. -/
theorem PortState.post_of_room {ps : PortState} (room : ps.notices.length < 8) (n : Notice) :
    ps.post n = { ps with notices := ps.notices ++ [n], alertLow := true } := by
  have due : PortState.alertDue { ps with notices := ps.notices ++ [n] } = true := by simp [PortState.alertDue]
  rw [PortState.post, noticeCapacity, if_pos room, PortState.judgeAlert, due]

theorem PortState.post_of_full {ps : PortState} (full : 8 ≤ ps.notices.length) (n : Notice) :
    ps.post n = { ps with lost := true } :=
  if_neg (Nat.not_lt.2 full)

/-! ## Field bytes (R178) -/

theorem numberField_inRange {b : Byte} {highest : Nat} (low : 1 ≤ b.toNat) (high : b.toNat ≤ highest) :
    numberField b highest = some b.toNat :=
  if_pos ⟨low, high⟩

theorem numberField_outOfRange {b : Byte} {highest : Nat} (range : b.toNat = 0 ∨ highest < b.toNat) :
    numberField b highest = none :=
  if_neg (by omega)

@[simp] theorem boolOfCode_boolCode (on : Bool) : boolOfCode (boolCode on) = some on := by
  cases on <;> rfl

theorem boolOfCode_eq_none_of_lt {b : Byte} (above : 1 < b.toNat) : boolOfCode b = none := by
  have ne_small (k : Byte) (small : k.toNat ≤ 1) : b ≠ k := fun e => by
    rw [e] at above
    omega
  rw [boolOfCode, if_neg (ne_small 0x00#8 (by decide)), if_neg (ne_small 0x01#8 (by decide))]

/-! ## Commands that every port may give (R149, R160) -/

theorem exec_readNotices_eq_take {s : State} {p : Port} (b : Byte) (awaits : s.AwaitsFrame p) :
    exec (.readNotices p b) s = .next (s.take p .readNotices (readNotices p b)) :=
  takeCommand_of_awaits (i := .readNotices p b) _ s rfl awaits

theorem exec_alertConfig_eq_take {s : State} {p : Port} (b : Byte) (awaits : s.AwaitsFrame p) :
    exec (.alertConfig p b) s = .next (s.take p .alertConfig (alertConfig p b)) :=
  takeCommand_of_awaits (i := .alertConfig p b) _ s rfl awaits

/-- A command that any port may give, accepted by its own rule (R160). -/
theorem State.take_anyPort_accept {s u : State} {p : Port} {code : CommandCode} {act : State → Answer}
    {payload : List Byte} (anyPort : code.supervisorOnly = false)
    (accepts : act (s.closedAt p) = .accept u payload) :
    s.take p code act = u.respond p .ok code.byte payload := by
  rw [s.take_allowed p code act (.inl anyPort), s.closeTransaction_eq, accepts, Answer.accept]

/-- Two changes of a port that agree on what it holds are the same change. -/
theorem State.modPort_congr {s : State} {p : Port} {f g : PortState → PortState} (agree : f (s.port p) = g (s.port p)) :
    s.modPort p f = s.modPort p g := by
  have value : f (s.ports.get p) = g (s.ports.get p) := agree
  rw [State.modPort, State.modPort, value]

/-! ## READ_NOTICES (R124) -/

theorem readNotices_outOfRange {b : Byte} (range : b.toNat = 0 ∨ 8 < b.toNat) (p : Port) (s : State) :
    readNotices p b s = .refuse s .badField := by
  simp only [readNotices, numberField_outOfRange range]

theorem readNotices_inRange {b : Byte} (low : 1 ≤ b.toNat) (high : b.toNat ≤ 8) (p : Port) (s : State) :
    readNotices p b s =
      .accept (s.modPort p (·.noticesRead b.toNat))
        ([boolCode (s.port p).lost, unsigned8 ((s.port p).notices.take b.toNat).length] ++
          ((s.port p).notices.take b.toNat).flatMap (·.bytes)) := by
  simp only [readNotices, numberField_inRange low high]

/-- R124: the oldest notices are answered with the lost flag as it stood, and the queue is left without them. -/
theorem State.take_readNotices_inRange {s : State} {p : Port} {b : Byte} (low : 1 ≤ b.toNat) (high : b.toNat ≤ 8) :
    s.take p .readNotices (readNotices p b) =
      (s.modPort p (·.noticesRead b.toNat)).answered p .ok 0x31#8
        ([boolCode (s.port p).lost, unsigned8 ((s.port p).notices.take b.toNat).length] ++
          ((s.port p).notices.take b.toNat).flatMap (·.bytes)) := by
  rw [State.take_anyPort_accept rfl (readNotices_inRange low high p _), State.port_closedAt_self]
  exact s.respond_modPort_closedAt p p _ _ _ _ fun _ _ => rfl

/-! ## ALERT_CONFIG (R126) -/

theorem alertConfig_outOfRange {b : Byte} (above : 1 < b.toNat) (p : Port) (s : State) :
    alertConfig p b s = .refuse s .badField := by
  simp only [alertConfig, boolOfCode_eq_none_of_lt above]

theorem alertConfig_boolCode (on : Bool) (p : Port) (s : State) :
    alertConfig p (boolCode on) s =
      .accept (s.modPort p fun ps => { ps with ringAlert := on }.judgeAlert) [boolCode on] := by
  simp only [alertConfig, boolOfCode_boolCode]

/-- R126: the choice is stored, and the ALERT line judged with it. -/
theorem State.take_alertConfig_boolCode (s : State) (p : Port) (on : Bool) :
    s.take p .alertConfig (alertConfig p (boolCode on)) =
      (s.modPort p fun ps => { ps with ringAlert := on }.judgeAlert).answered p .ok 0x03#8 [boolCode on] := by
  rw [State.take_anyPort_accept rfl (alertConfig_boolCode on p _)]
  exact s.respond_modPort_closedAt p p _ _ _ _ fun _ _ => rfl

end Sys2Proof.Machine
end

section
/-! SUPPORT. The statement O30. -/

namespace Sys2Proof.Proofs

open Sys2Proof Sys2Proof.Machine

/-- Settles O30: a posting is decided by the room in the queue, and each command by whether its field byte is in range; the
states left are `PortState.noticesRead` and `PortState.judgeAlert` with the ALERT line written out, and the records are the
rows of `Notice.bytes`. -/
theorem noticesArePostedReadAndAlerted : Obligations.NoticesArePostedReadAndAlerted := by
  refine ⟨fun ps n => ⟨fun room => PortState.post_of_room room n, fun full => PortState.post_of_full full n⟩,
    fun tag n p o => ?_, fun s p b awaits => ?_⟩
  · exact ⟨fun _ => rfl, fun _ => rfl, fun _ => rfl, fun _ => rfl, rfl, rfl, rfl, fun _ => rfl, fun _ => rfl,
      rfl, rfl, rfl, rfl⟩
  simp only [exec_readNotices_eq_take _ awaits, exec_alertConfig_eq_take _ awaits, Host.Outcome.next.injEq]
  refine ⟨fun range => ?_, fun low high => ?_, fun above => ?_, fun on => ?_⟩
  · exact State.take_of_answer rfl (readNotices_outOfRange range p _)
  · rw [State.take_readNotices_inRange low high]
    exact congrArg (State.answered · p .ok 0x31#8 _) (State.modPort_congr rfl)
  · exact State.take_of_answer rfl (alertConfig_outOfRange above p _)
  · exact s.take_alertConfig_boolCode p on

end Sys2Proof.Proofs
end

section
/-! SUPPORT. The rights of R147 and R148 as one value, which every operation but the handover's leaves; the own rule of
each command by the command's name; and what a step may do with the rights. -/

namespace Sys2Proof.Machine

/-! ## A command's own rule (R160) -/

/-- The rule by which a command is acted on once its frame and its rights have passed (R163). NOP has none, and neither
has an event: nothing is acted on. -/
def ownRule : Instr → State → Answer
  | .status p => status p
  | .portReset p => portReset p
  | .alertConfig p choice => alertConfig p choice
  | .profileClaim p wanted => profileClaim p wanted
  | .profileWrite p fields => profileWrite p fields
  | .profileRead _ number => profileRead number
  | .profileShare p number share => profileShare p number share
  | .profileRetire p number => profileRetire p number
  | .profileRelease p number => profileRelease p number
  | .submit p fields => submit p fields
  | .cancel p tag => cancel p tag
  | .query p tag => query p tag
  | .fetch p n => fetch p n
  | .readNotices p n => readNotices p n
  | .exciteVote p output vote => exciteVote p output vote
  | .engineStart _ => engineStart
  | .engineHalt _ => engineHalt
  | .setQuota _ target reserve ceiling => setQuota target reserve ceiling
  | .setWeight _ target weight => setWeight target weight
  | .setAffinity _ limit => setAffinity limit
  | .setAllowance _ target allowance => setAllowance target allowance
  | .setCombine _ output mode designated => setCombine output mode designated
  | .setExciteTiming _ output warmUp linger => setExciteTiming output warmUp linger
  | .clearLockout _ output => clearLockout output
  | .setCalPolicy _ interval maxAge maxDelta => setCalPolicy interval maxAge maxDelta
  | .forceRelease _ number => forceRelease number
  | .handoverOffer p target => handoverOffer p target
  | .handoverAccept p => handoverAccept p
  | .nop _ | .frameError _ _ | .unknownCommand _ _ | .emptyTransaction _ _ | .busTimeout | .deviceReset _
  | .startTimerExpiry | .intervalTimerExpiry | .outputPeriodEnd _ _ | .warmUpExpiry _ | .lingerExpiry _
  | .holdOffExpiry _ | .readyDwellExpiry _ | .overcurrentTrip _ | .offerLapse | .transactionOpen _ => (.accept · [])

section

variable {i : Instr} {p : Port} {code : CommandCode} {payload : List Byte}

/-- The row of every command but NOP is the close of its transaction with its own rule. -/
theorem exec_eq_takeCommand (parts : commandParts i = some (p, code, payload)) (acts : code ≠ .nop) (s : State) :
    exec i s = takeCommand i (ownRule i) s := by
  cases i <;> cases parts <;> first | rfl | exact absurd rfl acts

theorem exec_eq_take {s : State} (parts : commandParts i = some (p, code, payload)) (acts : code ≠ .nop)
    (awaits : s.AwaitsFrame p) : exec i s = .next (s.take p code (ownRule i)) := by
  rw [exec_eq_takeCommand parts acts, takeCommand_of_awaits _ s parts awaits]

/-- The table of R149 names a command by its code alone. -/
theorem supervisorOnly_of_parts (parts : commandParts i = some (p, code, payload)) :
    i.supervisorOnly = if code.supervisorOnly then some p else none := by
  cases i <;> cases parts <;> rfl

end

/-! ## The rights of a state (R147) -/

/-- The supervisor port with the pending offer and its deadline. -/
structure Rights where
  supervisor : Port
  offer : Option Offer
  offerTimer : Timer

def State.rights (s : State) : Rights := ⟨s.supervisor, s.offer, s.offerTimer⟩

/-- What one command or event may do with the rights (R148): nothing, end the offer, make one of the supervisor's to
another port, or hand over to the target that accepts. -/
inductive Rights.Moves (i : Instr) (r : Rights) : Rights → Prop
  | kept : r.Moves i r
  | offerEnded : r.Moves i { r with offer := none, offerTimer := .stopped }
  | offered (q : Port) : q ≠ r.supervisor →
      r.Moves i { r with offer := some { offering := r.supervisor, target := q }, offerTimer := .running 250 }
  | accepted (p : Port) (o : Offer) : i = .handoverAccept p → r.offer = some o → o.target = p →
      r.Moves i { supervisor := p, offer := none, offerTimer := .stopped }

/-- `State.OfferLawful` of the rights. -/
def Rights.Lawful (r : Rights) : Prop :=
  (∀ o, r.offer = some o → o.offering = r.supervisor ∧ o.target ≠ r.supervisor) ∧
    (r.offer = none ↔ r.offerTimer = .stopped)

theorem State.offerLawful_iff (s : State) : s.OfferLawful ↔ s.rights.Lawful := Iff.rfl

theorem Rights.Moves.of_eq {i : Instr} {r r' : Rights} (same : r' = r) : r.Moves i r' := same ▸ .kept

/-- Every move leaves a lawful offer: none, or the supervisor's to another port with its deadline running. -/
theorem Rights.Moves.lawful {i : Instr} {r r' : Rights} (lawful : r.Lawful) (moves : r.Moves i r') : r'.Lawful := by
  cases moves with
  | kept => exact lawful
  | offerEnded => simp [Rights.Lawful]
  | offered q other => simp [Rights.Lawful, other]
  | accepted => simp [Rights.Lawful]

/-- R148: from a lawful offer only an accept by its target moves the rights. -/
theorem Rights.Moves.accepted_of_supervisor_ne {i : Instr} {r r' : Rights} (lawful : r.Lawful) (moves : r.Moves i r')
    (moved : r'.supervisor ≠ r.supervisor) :
    ∃ p, i = .handoverAccept p ∧ r.offer = some { offering := r.supervisor, target := p } ∧ r'.supervisor = p ∧
      r'.offer = none := by
  cases moves with
  | kept | offerEnded | offered => exact absurd rfl moved
  | accepted p o accepts pending target =>
    refine ⟨p, accepts, ?_, rfl, rfl⟩
    rw [pending, ← (lawful.1 o pending).1, ← target]

/-! ## What leaves the rights -/

section

variable (s : State)

theorem State.Keeps.rights {s t : State} (keeps : s.Keeps t) : t.rights = s.rights := by
  simp only [State.rights, keeps.supervisor, keeps.offer, keeps.offerTimer]

@[simp] theorem State.rights_closedAt (p : Port) : (s.closedAt p).rights = s.rights := rfl
@[simp] theorem State.rights_modPort (p : Port) (f : PortState → PortState) : (s.modPort p f).rights = s.rights := rfl
@[simp] theorem State.rights_postAll (n : Notice) : (s.postAll n).rights = s.rights := rfl
@[simp] theorem State.rights_modProfile (n : Fin 32) (f : Profile → Profile) :
    (s.modProfile n f).rights = s.rights := rfl
@[simp] theorem State.rights_modOutput (o : OutputId) (f : OutputState → OutputState) :
    (s.modOutput o f).rights = s.rights := rfl
@[simp] theorem State.rights_modEngine (f : Engine → Engine) : (s.modEngine f).rights = s.rights := rfl
@[simp] theorem State.rights_handOverDemand (f : OutputState → OutputState) :
    (s.handOverDemand f).rights = s.rights := rfl
@[simp] theorem State.rights_refreshDemand : s.refreshDemand.rights = s.rights := rfl
@[simp] theorem State.rights_restartInterval : s.restartInterval.rights = s.rights := rfl

@[simp] theorem State.rights_postOwner (owner : Option Source) (n : Notice) : (s.postOwner owner n).rights = s.rights :=
  (s.quiet_postOwner owner n).1.rights
@[simp] theorem State.rights_modFlight (f : Request → Request) : (s.modFlight f).rights = s.rights :=
  (s.quiet_modFlight f).1.rights
@[simp] theorem State.rights_terminate (reason : Reason) (ends : Request → Bool) :
    (s.terminate reason ends).rights = s.rights := (s.quiet_terminate reason ends).1.rights
@[simp] theorem State.rights_enterDown : s.enterDown.rights = s.rights := s.quiet_enterDown.1.rights
@[simp] theorem State.rights_kick : s.kick.rights = s.rights := s.quiet_kick.1.rights
@[simp] theorem State.rights_freed (boundary : Bool) : (s.freed boundary).rights = s.rights :=
  (s.quiet_freed boundary).1.rights
@[simp] theorem State.rights_afterTerminations (abandoned : Bool) : (s.afterTerminations abandoned).rights = s.rights :=
  (s.quiet_afterTerminations abandoned).1.rights
@[simp] theorem State.rights_placeSample : s.placeSample.rights = s.rights := s.quiet_placeSample.1.rights
@[simp] theorem State.rights_endPeriod (raw : Int) (overload : Bool) : (s.endPeriod raw overload).rights = s.rights :=
  (s.keeps_endPeriod raw overload).rights

@[simp] theorem State.rights_markFinal (n : Fin 32) : (s.markFinal n).rights = s.rights := by
  unfold State.markFinal
  split
  · exact s.rights_modFlight _
  · rfl

@[simp] theorem State.rights_disown (owner : Option Source) : (s.disown owner).rights = s.rights := by
  unfold State.disown
  split <;> rfl

@[simp] theorem State.rights_retire (n : Fin 32) : (s.retire n).rights = s.rights := by
  unfold State.retire
  split
  · rfl
  · simp [State.retireBusy]

@[simp] theorem State.rights_postTrip (o : OutputId) : (s.postTrip o).rights = s.rights := by
  unfold State.postTrip
  dsimp only
  split <;> rfl

@[simp] theorem State.rights_withdrawOther (p q : Port) : (s.withdrawOther p q).rights = s.rights := by
  unfold State.withdrawOther
  split
  · rfl
  · split <;> rfl

/-- What a close answers to bytes that are no sound command leaves the rights. -/
@[simp] theorem State.rights_answerVerdict (p : Port) (v : Verdict) : (s.answerVerdict p v).rights = s.rights := by
  rw [State.answerVerdict_eq]
  cases v <;> rfl

/-! ## What moves them (R152 to R156) -/

theorem State.rights_makeOffer (p q : Port) :
    (s.makeOffer p q).rights =
      { s.rights with offer := some { offering := p, target := q }, offerTimer := .running 250 } := by
  have same : (s.withdrawOther p q).supervisor = s.supervisor := congrArg Rights.supervisor (s.rights_withdrawOther p q)
  simp [State.makeOffer, State.rights, State.post, same, offerTime]

/-- R156: a port's reset ends an offer to which it is a party. -/
theorem State.moves_withdrawFor (i : Instr) (p : Port) : s.rights.Moves i (s.withdrawFor p).rights := by
  unfold State.withdrawFor
  split
  · exact .kept
  · split
    · exact .kept
    · exact .offerEnded

theorem State.moves_resetPort (i : Instr) (p : Port) : s.rights.Moves i (s.resetPort p).rights := by
  have moves := ((s.terminate .portReset (Request.isFrom p)).modPort p (·.cleared)).moves_withdrawFor i p
  unfold State.resetPort
  dsimp only
  split <;> simpa using moves

end

/-! ## What each command's own rule answers (R149, R178) -/

/-- The rule's answer is not the refusal of R149, and what it does with the rights is one of the moves. -/
structure Answer.WithinRights (a : Answer) (i : Instr) (s : State) : Prop where
  status : a.status ≠ .notSupervisor
  moves : s.rights.Moves i a.state.rights

namespace Answer

variable {i : Instr} {s u : State} {status : Status} {payload : List Byte}

theorem withinRights_refuse (other : status ≠ .notSupervisor) : (Answer.refuse s status).WithinRights i s :=
  ⟨other, .kept⟩

theorem withinRights_accept (moves : s.rights.Moves i u.rights) : (Answer.accept u payload).WithinRights i s :=
  ⟨nofun, moves⟩

theorem withinRights_keep (same : u.rights = s.rights) : (Answer.accept u payload).WithinRights i s :=
  withinRights_accept (.of_eq same)

end Answer

section

open Answer

variable (i : Instr) (s : State) (p : Port) (b x y : Byte)

theorem portReset_withinRights : (portReset p s).WithinRights i s :=
  withinRights_accept (s.moves_resetPort i p)

theorem alertConfig_withinRights : (alertConfig p b s).WithinRights i s := by
  unfold alertConfig
  split
  · exact withinRights_refuse nofun
  · exact withinRights_keep rfl

theorem profileClaim_withinRights : (profileClaim p b s).WithinRights i s := by
  unfold profileClaim
  repeat' split
  iterate 3 exact withinRights_refuse nofun
  exact withinRights_keep rfl

theorem profileWrite_withinRights (f : WriteFields) : (profileWrite p f s).WithinRights i s := by
  unfold profileWrite
  repeat' split
  iterate 4 exact withinRights_refuse nofun
  · exact withinRights_keep rfl
  · exact withinRights_refuse nofun

theorem profileRead_withinRights : (profileRead b s).WithinRights i s := by
  unfold profileRead
  split
  · exact withinRights_refuse nofun
  · exact withinRights_keep rfl

theorem profileShare_withinRights : (profileShare p b x s).WithinRights i s := by
  unfold profileShare
  repeat' split
  iterate 2 exact withinRights_refuse nofun
  · exact withinRights_keep rfl
  · exact withinRights_refuse nofun

theorem profileRetire_withinRights : (profileRetire p b s).WithinRights i s := by
  unfold profileRetire
  repeat' split
  iterate 4 exact withinRights_refuse nofun
  exact withinRights_keep (s.rights_retire _)

theorem profileRelease_withinRights : (profileRelease p b s).WithinRights i s := by
  unfold profileRelease
  repeat' split
  iterate 5 exact withinRights_refuse nofun
  exact withinRights_keep rfl

theorem forceRelease_withinRights : (forceRelease b s).WithinRights i s := by
  unfold forceRelease
  repeat' split
  iterate 2 exact withinRights_refuse nofun
  exact withinRights_keep (by simp [State.forceRelease, State.erase])

/-- R39: no check of a SUBMIT is the one of R149. -/
theorem State.submitRefusal_ne_notSupervisor (tag : Byte) (w : Submission) :
    s.submitRefusal p tag w ≠ some .notSupervisor := by
  unfold State.submitRefusal
  repeat' split
  all_goals nofun

theorem submit_withinRights (f : SubmitFields) : (submit p f s).WithinRights i s := by
  unfold submit
  split
  · exact ⟨nofun, .kept⟩
  · split
    next refusal => exact ⟨fun e => s.submitRefusal_ne_notSupervisor p _ _ (refusal.trans (congrArg some e)), .kept⟩
    next => exact withinRights_keep (by simp [State.submit, State.enqueue])

theorem cancel_withinRights : (cancel p b s).WithinRights i s := by
  unfold cancel
  split
  · exact withinRights_refuse nofun
  · exact withinRights_keep (by simp [State.cancel])

theorem query_withinRights : (query p b s).WithinRights i s := by
  unfold query
  split
  · exact withinRights_refuse nofun
  · exact withinRights_keep rfl

theorem fetch_withinRights : (fetch p b s).WithinRights i s := by
  unfold fetch
  split
  · exact withinRights_refuse nofun
  · exact withinRights_keep (by simp)

theorem readNotices_withinRights : (readNotices p b s).WithinRights i s := by
  unfold readNotices
  split
  · exact withinRights_refuse nofun
  · exact withinRights_keep rfl

theorem exciteVote_withinRights : (exciteVote p b x s).WithinRights i s := by
  unfold exciteVote
  split
  · exact withinRights_keep rfl
  · exact withinRights_refuse nofun

theorem setCombine_withinRights : (setCombine b x y s).WithinRights i s := by
  unfold setCombine
  split
  · exact withinRights_keep rfl
  · exact withinRights_refuse nofun

theorem setExciteTiming_withinRights : (setExciteTiming b x y s).WithinRights i s := by
  unfold setExciteTiming
  repeat' split
  iterate 2 exact withinRights_refuse nofun
  exact withinRights_keep rfl

theorem clearLockout_withinRights : (clearLockout b s).WithinRights i s := by
  unfold clearLockout
  repeat' split
  · exact withinRights_refuse nofun
  · exact withinRights_keep rfl
  · exact withinRights_refuse nofun

theorem engineStart_withinRights : (engineStart s).WithinRights i s := by
  unfold engineStart
  split
  · exact withinRights_keep rfl
  · exact withinRights_refuse nofun

theorem engineHalt_withinRights : (engineHalt s).WithinRights i s := by
  unfold engineHalt
  repeat' split
  iterate 2 exact withinRights_refuse nofun
  iterate 2 exact withinRights_keep s.rights_enterDown
  exact withinRights_keep rfl

theorem setQuota_withinRights : (setQuota b x y s).WithinRights i s := by
  unfold setQuota
  repeat' split
  iterate 5 exact withinRights_refuse nofun
  exact withinRights_keep rfl

theorem setWeight_withinRights : (setWeight b x s).WithinRights i s := by
  unfold setWeight
  repeat' split
  iterate 2 exact withinRights_refuse nofun
  exact withinRights_keep rfl

theorem setAffinity_withinRights : (setAffinity b s).WithinRights i s := by
  unfold setAffinity
  split
  · exact withinRights_refuse nofun
  · exact withinRights_keep rfl

theorem setAllowance_withinRights : (setAllowance b x s).WithinRights i s := by
  unfold setAllowance
  repeat' split
  iterate 2 exact withinRights_refuse nofun
  exact withinRights_keep rfl

theorem setCalPolicy_withinRights (d : BitVec 16) : (setCalPolicy b x d s).WithinRights i s := by
  unfold setCalPolicy
  split
  · exact withinRights_refuse nofun
  · exact withinRights_keep rfl

/-- R152: what the supervisor offers is its own, to another port. -/
theorem handoverOffer_withinRights : (handoverOffer s.supervisor b s).WithinRights i s := by
  unfold handoverOffer
  repeat' split
  iterate 2 exact withinRights_refuse nofun
  next other => exact withinRights_accept (s.rights_makeOffer s.supervisor _ ▸ .offered _ other)

/-- R153: an accept hands over to the offer's target alone. -/
theorem handoverAccept_withinRights : (handoverAccept p s).WithinRights (.handoverAccept p) s := by
  unfold handoverAccept
  repeat' split
  · exact withinRights_refuse nofun
  next o pending target => exact withinRights_accept (.accepted p o rfl pending target)
  · exact withinRights_refuse nofun

end

/-- Every command's own rule, asked with the rights that R149 wants. -/
theorem ownRule_withinRights (i : Instr) (s : State) (allowed : ∀ p, i.supervisorOnly = some p → s.supervisor = p) :
    (ownRule i s).WithinRights i s := by
  cases i with
  | status p => exact Answer.withinRights_keep rfl
  | portReset p => exact portReset_withinRights _ s p
  | alertConfig p b => exact alertConfig_withinRights _ s p b
  | profileClaim p b => exact profileClaim_withinRights _ s p b
  | profileWrite p f => exact profileWrite_withinRights _ s p f
  | profileRead p b => exact profileRead_withinRights _ s b
  | profileShare p b x => exact profileShare_withinRights _ s p b x
  | profileRetire p b => exact profileRetire_withinRights _ s p b
  | profileRelease p b => exact profileRelease_withinRights _ s p b
  | submit p f => exact submit_withinRights _ s p f
  | cancel p b => exact cancel_withinRights _ s p b
  | query p b => exact query_withinRights _ s p b
  | fetch p b => exact fetch_withinRights _ s p b
  | readNotices p b => exact readNotices_withinRights _ s p b
  | exciteVote p b x => exact exciteVote_withinRights _ s p b x
  | engineStart p => exact engineStart_withinRights _ s
  | engineHalt p => exact engineHalt_withinRights _ s
  | setQuota p b x y => exact setQuota_withinRights _ s b x y
  | setWeight p b x => exact setWeight_withinRights _ s b x
  | setAffinity p b => exact setAffinity_withinRights _ s b
  | setAllowance p b x => exact setAllowance_withinRights _ s b x
  | setCombine p b x y => exact setCombine_withinRights _ s b x y
  | setExciteTiming p b x y => exact setExciteTiming_withinRights _ s b x y
  | clearLockout p b => exact clearLockout_withinRights _ s b
  | setCalPolicy p b x d => exact setCalPolicy_withinRights _ s b x d
  | forceRelease p b => exact forceRelease_withinRights _ s b
  | handoverOffer p b => exact allowed p rfl ▸ handoverOffer_withinRights _ s b
  | handoverAccept p => exact handoverAccept_withinRights s p
  | nop | frameError | unknownCommand | emptyTransaction | busTimeout | deviceReset | startTimerExpiry
  | intervalTimerExpiry | outputPeriodEnd | warmUpExpiry | lingerExpiry | holdOffExpiry | readyDwellExpiry
  | overcurrentTrip | offerLapse | transactionOpen => exact Answer.withinRights_keep rfl

/-! ## What a command or event does with the rights -/

section

variable {i : Instr} {p : Port} {code : CommandCode} {payload : List Byte} {s t : State}

/-- R149: a command of the table from another port is refused for want of the rights. -/
theorem State.take_without_rights (s : State) (parts : commandParts i = some (p, code, payload))
    (only : i.supervisorOnly = some p) (other : s.supervisor ≠ p) :
    s.take p code (ownRule i) = s.answered p .notSupervisor code.byte [] := by
  have table : code.supervisorOnly = true := by
    by_contra anyPort
    simp [supervisorOnly_of_parts parts, anyPort] at only
  exact s.take_notSupervisor p code _ table other

/-- R149, R163: every other command is answered by its own rule, and not with NOT_SUPERVISOR. -/
theorem State.take_with_rights (s : State) (parts : commandParts i = some (p, code, payload))
    (rights : i.supervisorOnly = none ∨ s.supervisor = p) :
    ∃ a : Answer, a.WithinRights i s ∧
      s.take p code (ownRule i) = a.state.respond p a.status code.byte a.payload := by
  rw [supervisorOnly_of_parts parts] at rights
  have within : (ownRule i (s.closedAt p)).WithinRights i (s.closedAt p) := by
    refine ownRule_withinRights i _ fun q only => ?_
    rw [supervisorOnly_of_parts parts] at only
    split at only
    next table => exact Option.some.inj only ▸ rights.resolve_left (by simp [table])
    next => cases only
  refine ⟨_, ⟨within.status, within.moves⟩, ?_⟩
  rw [← s.closeTransaction_eq]
  exact s.take_allowed p code _ (by simpa using rights)

/-- R148: whether or not it is refused, a command that is taken does one of the moves. -/
theorem State.moves_take (s : State) (parts : commandParts i = some (p, code, payload)) :
    s.rights.Moves i (s.take p code (ownRule i)).rights := by
  by_cases rights : i.supervisorOnly = none ∨ s.supervisor = p
  · obtain ⟨a, within, taken⟩ := s.take_with_rights parts rights
    rw [taken]
    exact within.moves
  · have only : i.supervisorOnly = some p := by
      have table := supervisorOnly_of_parts parts
      split at table
      · exact table
      · exact absurd (.inl table) rights
    rw [s.take_without_rights parts only fun same => rights (.inr same)]
    exact .kept

theorem State.moves_closeBy (frame : List Byte) {taken : State} (moves : s.rights.Moves i taken.rights) :
    s.rights.Moves i (s.closeBy p frame taken).rights := by
  unfold State.closeBy
  split
  · exact moves
  · exact .of_eq (s.rights_answerVerdict p _)

theorem eq_nop_of_parts (parts : commandParts i = some (p, .nop, payload)) : i = .nop p := by
  cases i <;> cases parts
  rfl

theorem moves_of_exec_command (parts : commandParts i = some (p, code, payload)) (run : exec i s = .next t) :
    s.rights.Moves i t.rights := by
  rcases eq_or_ne code .nop with rfl | acts
  · obtain rfl := eq_nop_of_parts parts
    cases run
    exact State.moves_closeBy _ (.of_eq (by rw [s.closeTransaction_eq, s.rights_closedAt]))
  · rw [exec_eq_takeCommand parts acts, takeCommand, parts] at run
    cases run
    exact State.moves_closeBy _ (s.moves_take parts)

/-- R171: the close that an opening makes does with the rights what the command in its bytes does. -/
theorem moves_of_closesTo {opening : Opening} {u : State} (closes : s.ClosesTo u opening.port) :
    s.rights.Moves (s.performed (.transactionOpen opening)) u.rights := by
  unfold State.ClosesTo at closes
  split at closes
  iterate 3 exact closes ▸ .kept
  next j carried =>
    have performed : s.performed (.transactionOpen opening) = j := by simp only [State.performed, carried]
    obtain ⟨⟨q, code, payload⟩, parts⟩ := Option.ne_none_iff_exists'.1 (commandParts_of_judge carried)
    exact performed ▸ moves_of_exec_command parts closes

theorem exists_next_of_followedBy {outcome : Host.Outcome State Fault Refusal} {f : State → State}
    (run : followedBy outcome f = .next t) : ∃ u, outcome = .next u ∧ t = f u := by
  unfold followedBy at run
  split at run <;> cases run
  exact ⟨_, rfl, rfl⟩

/-- An opening leaves the rights as the close left them that it makes (R167, R171). -/
theorem exists_closesTo_of_open {opening : Opening} (run : exec (.transactionOpen opening) s = .next t) :
    ∃ u, s.ClosesTo u opening.port ∧ t.rights = u.rights := by
  cases opening with
  | chipSelectA | chipSelectB =>
    obtain ⟨u, closes, rfl⟩ := exists_next_of_followedBy run
    exact ⟨u, State.closeOnBytes_closesTo closes, rfl⟩
  | start address read received edges =>
    obtain ⟨u, closes, rfl⟩ := exists_next_of_followedBy run
    refine ⟨u, State.closeOnBytes_closesTo closes, ?_⟩
    split <;> rfl

/-- The rows of a port interface and the events inside the ET316, device reset and the openings apart. -/
theorem moves_of_exec_event (event : commandParts i = none) (noReset : i.isDeviceReset = false)
    (noOpening : ∀ opening, i ≠ .transactionOpen opening) (run : exec i s = .next t) :
    s.rights.Moves i t.rights := by
  cases i <;> cases event
  case deviceReset => cases noReset
  case transactionOpen opening => exact absurd rfl (noOpening opening)
  case frameError p rest | unknownCommand p rest | emptyTransaction p rest =>
    cases run
    split
    · exact .of_eq (s.rights_answerVerdict p _)
    all_goals exact .kept
  case busTimeout =>
    cases run
    split
    · unfold State.abandonTransaction
      split <;> exact .kept
    · exact .kept
  case startTimerExpiry =>
    cases run
    split
    · exact .of_eq (by simp [State.enterRunning])
    · exact .kept
  case intervalTimerExpiry =>
    cases run
    repeat' split
    · exact .of_eq (by simp)
    iterate 2 exact .kept
  case outputPeriodEnd raw overload =>
    cases run
    split
    · exact .of_eq (s.rights_endPeriod raw overload)
    · exact .kept
  case warmUpExpiry o =>
    cases run
    split
    · exact .of_eq (by simp)
    · exact .kept
  case lingerExpiry o | holdOffExpiry o | readyDwellExpiry o =>
    cases run
    split <;> exact .kept
  case overcurrentTrip o =>
    cases run
    split
    · exact .of_eq (by simp [State.trip])
    · exact .kept
  case offerLapse =>
    cases run
    split
    · exact .offerEnded
    · exact .kept

/-- R148: what any command or event but device reset does with the rights, by the command that it performs. -/
theorem moves_of_exec (noReset : i.isDeviceReset = false) (run : exec i s = .next t) :
    s.rights.Moves (s.performed i) t.rights := by
  by_cases opens : ∃ opening, i = .transactionOpen opening
  · obtain ⟨opening, rfl⟩ := opens
    obtain ⟨u, closes, same⟩ := exists_closesTo_of_open run
    rw [same]
    exact moves_of_closesTo closes
  · have itself : s.performed i = i := by
      unfold State.performed
      split
      · exact absurd ⟨_, rfl⟩ opens
      · rfl
    rw [itself]
    rcases parts : commandParts i with _ | ⟨p, code, payload⟩
    · exact moves_of_exec_event parts noReset (fun opening e => opens ⟨opening, e⟩) run
    · exact moves_of_exec_command parts run

end

end Sys2Proof.Machine
end

section
/-! SUPPORT. The statements O12 and O13. -/

namespace Sys2Proof.Proofs

open Sys2Proof Sys2Proof.Machine

/-- Settles O12: the rights check of `State.take` refuses the commands of the table from another port, and no command's
own rule answers NOT_SUPERVISOR. -/
theorem supervisorCommandsNeedTheRights : Obligations.SupervisorCommandsNeedTheRights := by
  intro i p code payload s parts awaits
  refine ⟨fun only other => ?_, fun rights acts t run => ?_⟩
  · have acts : code ≠ .nop := by
      rintro rfl
      simp [eq_nop_of_parts parts, Instr.supervisorOnly] at only
    rw [exec_eq_take parts acts awaits, s.take_without_rights parts only other]
  · obtain ⟨a, within, taken⟩ := s.take_with_rights parts rights
    rw [exec_eq_take parts acts awaits, taken] at run
    cases run
    simpa [State.respond, Response.make] using within.status

/-- R148: the strap gives the rights, and no offer is pending. -/
theorem resetWith_offerLawful (straps : Straps) : (State.resetWith straps).OfferLawful :=
  ⟨nofun, iff_of_true rfl rfl⟩

/-- Settles O13: what a command or event may do with the rights is `Rights.Moves`, of which an accept alone moves the
supervisor and none leaves an unlawful offer. -/
theorem rightsMoveByStrapAndAcceptAlone : Obligations.RightsMoveByStrapAndAcceptAlone := by
  refine ⟨fun straps s => ⟨_, rfl, rfl, rfl⟩, fun i s t lawful noReset run moved => ?_, resetWith_offerLawful,
    fun s t lawful run => ?_⟩
  · exact (moves_of_exec noReset run).accepted_of_supervisor_ne (s.offerLawful_iff.1 lawful) moved
  · unfold step at run
    split at run
    · cases run
      exact lawful
    next i rest _ =>
      by_cases reset : i.isDeviceReset = true
      · cases i <;> cases reset
        cases run
        exact resetWith_offerLawful _
      · have moves := moves_of_exec (Bool.eq_false_iff.2 reset) run
        exact t.offerLawful_iff.2 (moves.lawful (s.offerLawful_iff.1 lawful))

end Sys2Proof.Proofs
end

section
/-! SUPPORT. HANDOVER_OFFER, HANDOVER_ACCEPT and OFFER_LAPSE: the answer of each rule in each of its cases, and that the
close of the transaction does not show in it. -/

namespace Sys2Proof.Machine

/-! ## What the close of a transaction leaves (R159) -/

/-- R123: a posting neither reads nor moves the transaction. -/
theorem PortState.post_closed (ps : PortState) (n : Notice) :
    PortState.post { ps with transaction := .closed } n = { ps.post n with transaction := .closed } := by
  unfold PortState.post
  split <;> rfl

theorem State.respond_closedAt (s : State) (p : Port) (status : Status) (code : Byte) (payload : List Byte) :
    (s.closedAt p).respond p status code payload = s.answered p status code payload := by
  rw [← s.closeTransaction_eq, s.respond_closeTransaction]

theorem State.post_closedAt (s : State) (p q : Port) (n : Notice) :
    (s.closedAt p).post q n = (s.post q n).closedAt p := by
  cases p <;> cases q <;>
    simp [State.post, State.modPort, State.closedAt, PerPort.set, PerPort.get, PortState.post_closed]

theorem State.postAll_closedAt (s : State) (p : Port) (n : Notice) :
    (s.closedAt p).postAll n = (s.postAll n).closedAt p := by
  cases p <;>
    simp [State.postAll, State.mapPorts, State.closedAt, PerPort.set, PerPort.get, PerPort.map, PortState.post_closed]

theorem State.makeOffer_closedAt (s : State) (p x y : Port) :
    (s.closedAt p).makeOffer x y = (s.makeOffer x y).closedAt p := by
  have withdrawn : (s.closedAt p).withdrawOther x y = (s.withdrawOther x y).closedAt p := by
    have same : (s.closedAt p).offer = s.offer := rfl
    unfold State.withdrawOther
    rw [same]
    split
    · rfl
    · split
      · exact s.post_closedAt p _ _
      · rfl
  rw [State.makeOffer, withdrawn, State.post_closedAt]
  rfl

theorem State.handOver_closedAt (s : State) (p x : Port) : (s.closedAt p).handOver x = (s.handOver x).closedAt p :=
  State.postAll_closedAt { s with supervisor := x, offer := none, offerTimer := .stopped } p (.supervisor x)

/-! ## HANDOVER_OFFER (R152) -/

theorem exec_handoverOffer_eq_take {s : State} {p : Port} (b : Byte) (awaits : s.AwaitsFrame p) :
    exec (.handoverOffer p b) s = .next (s.take p .handoverOffer (handoverOffer p b)) :=
  exec_eq_take (i := .handoverOffer p b) rfl nofun awaits

theorem State.withdrawOther_other {s : State} {o : Offer} {q : Port} (pending : s.offer = some o)
    (other : o.target ≠ q) (p : Port) : s.withdrawOther p q = s.post o.target (.offerWithdrawn p) := by
  simp only [State.withdrawOther, pending, if_pos other]

/-- R152: without an offer to a different target nothing is withdrawn. -/
theorem State.withdrawOther_of_noOther {s : State} {q : Port} (noOther : ∀ o, s.offer = some o → o.target = q)
    (p : Port) : s.withdrawOther p q = s := by
  unfold State.withdrawOther
  split
  · rfl
  next o pending => exact if_neg (not_not.2 (noOther o pending))

theorem handoverOffer_badTarget {s : State} {b : Byte} (bad : 2 < b.toNat ∨ b = s.supervisor.code) (p : Port) :
    handoverOffer p b s = .refuse s .badField := by
  rcases bad with above | rfl
  · simp only [handoverOffer, Port.ofCode_eq_none_of_lt above]
  · simp only [handoverOffer, Port.ofCode_code, if_true]

theorem handoverOffer_otherPort {s : State} {q : Port} (other : q ≠ s.supervisor) (p : Port) :
    handoverOffer p q.code s = .accept (s.makeOffer p q) [q.code, optionalPortCode (s.offer.map (·.target))] := by
  simp only [handoverOffer, Port.ofCode_code, if_neg other]

/-- R152: an offer of the supervisor to another port is made, and the response tells which target it replaces. -/
theorem State.take_handoverOffer_otherPort {s : State} {q : Port} (other : q ≠ s.supervisor) :
    s.take s.supervisor .handoverOffer (handoverOffer s.supervisor q.code) =
      (s.makeOffer s.supervisor q).answered s.supervisor .ok 0x4B#8
        [q.code, optionalPortCode (s.offer.map (·.target))] := by
  rw [State.take_supervisor_accept (handoverOffer_otherPort (s := s.closedAt s.supervisor) other _),
    State.makeOffer_closedAt, State.respond_closedAt]
  rfl

/-! ## HANDOVER_ACCEPT (R153) -/

theorem exec_handoverAccept_eq_take {s : State} {p : Port} (awaits : s.AwaitsFrame p) :
    exec (.handoverAccept p) s = .next (s.take p .handoverAccept (handoverAccept p)) :=
  exec_eq_take (i := .handoverAccept p) rfl nofun awaits

theorem handoverAccept_target {s : State} {o : Offer} {p : Port} (pending : s.offer = some o) (target : o.target = p) :
    handoverAccept p s = .accept (s.handOver p) [p.code, s.supervisor.code] := by
  simp only [handoverAccept, pending, if_pos target]

theorem handoverAccept_noOffer {s : State} {p : Port} (noOffer : ∀ o, s.offer = some o → o.target ≠ p) :
    handoverAccept p s = .refuse s .noOffer := by
  unfold handoverAccept
  split
  · rfl
  next o pending => exact if_neg (noOffer o pending)

/-- R153: the target's accept hands the rights over. -/
theorem State.take_handoverAccept_target {s : State} {o : Offer} {p : Port} (pending : s.offer = some o)
    (target : o.target = p) :
    s.take p .handoverAccept (handoverAccept p) =
      (s.handOver p).answered p .ok 0x4C#8 [p.code, s.supervisor.code] := by
  rw [State.take_anyPort_accept rfl (handoverAccept_target (s := s.closedAt p) pending target),
    State.handOver_closedAt, State.respond_closedAt]
  rfl

/-! ## OFFER_LAPSE (R154) -/

theorem exec_offerLapse_of_running {s : State} {o : Offer} {ms : Nat} (pending : s.offer = some o)
    (running : s.offerTimer = .running ms) :
    exec .offerLapse s =
      .next ({ s with offer := none, offerTimer := .stopped }.post o.offering (.offerLapsed o.target)) := by
  simp only [exec, execOfferLapse, pending, running]

end Sys2Proof.Machine
end

section
/-! SUPPORT. The statement O14. -/

namespace Sys2Proof.Proofs

open Sys2Proof Sys2Proof.Machine

/-- Settles O14: HANDOVER_OFFER turns on the target byte and on which offer it replaces, HANDOVER_ACCEPT on the pending
offer's target; the states left are `State.makeOffer` and `State.handOver`, with the withdrawn offer written out. -/
theorem offersAreMadeAndEnd : Obligations.OffersAreMadeAndEnd := by
  refine ⟨fun s q other awaits => ?_, fun s p awaits => ?_, fun s o ms => exec_offerLapse_of_running⟩
  · simp only [exec_handoverOffer_eq_take _ awaits, State.take_handoverOffer_otherPort other, State.makeOffer,
      Host.Outcome.next.injEq]
    refine ⟨fun noOffer => ?_, fun o pending same => ?_, fun o pending different => ?_, fun b bad => ?_⟩
    · rw [State.withdrawOther_of_noOther (by simp [noOffer]), noOffer]
      rfl
    · rw [State.withdrawOther_of_noOther (by simp [pending, same]), pending, ← same]
      rfl
    · rw [State.withdrawOther_other pending different, pending]
      rfl
    · exact State.take_supervisor_refuse (handoverOffer_badTarget (s := s.closedAt s.supervisor) bad _)
  · simp only [exec_handoverOffer_eq_take _ awaits, exec_handoverAccept_eq_take awaits, Host.Outcome.next.injEq]
    refine ⟨fun b other => ?_, fun o pending target => ?_, fun noOffer => ?_⟩
    · exact s.take_notSupervisor p _ _ rfl other.symm
    · exact State.take_handoverAccept_target pending target
    · exact State.take_of_answer rfl (handoverAccept_noOffer noOffer)

end Sys2Proof.Proofs
end

section
/-! SUPPORT. What one command or event can do behind the port interfaces, said once (`Acts`), and how the row of a command
or event brings it about (`Row`, `exec_cases`): so that a law of the whole machine is proved act by act. -/

namespace Sys2Proof.Machine

/-! ## Field bytes read back (R178, R179) -/

theorem unsigned8_toNat (b : Byte) : unsigned8 b.toNat = b := by simp [unsigned8]

theorem numberOfCode_eq_some {b : Byte} {n : Fin 32} (h : numberOfCode b = some n) : b = unsigned8 n.val := by
  unfold numberOfCode at h
  split at h <;> cases h
  exact (unsigned8_toNat b).symm

theorem userNumberOfCode_eq_some {b : Byte} {n : Fin 32} (h : userNumberOfCode b = some n) :
    b = unsigned8 n.val ∧ n ≠ 0 := by
  unfold userNumberOfCode at h
  split at h
  · cases h
  next nonzero =>
    have code := numberOfCode_eq_some h
    exact ⟨code, by rintro rfl; exact nonzero code⟩

theorem wantedOfCode_named {b : Byte} {n : Fin 32} (h : wantedOfCode b = some (.named n)) : n ≠ 0 := by
  unfold wantedOfCode at h
  split at h
  · cases h
  · obtain ⟨m, user, e⟩ := Option.map_eq_some_iff.1 h
    cases e
    exact (userNumberOfCode_eq_some user).2

theorem portOfCode_eq_some {b : Byte} {q : Port} (h : Port.ofCode b = some q) : b = q.code := by
  unfold Port.ofCode at h
  repeat' split at h
  all_goals cases h
  all_goals assumption

theorem outputOfCode_eq_some {b : Byte} {o : OutputId} (h : OutputId.ofCode b = some o) : b = o.code := by
  unfold OutputId.ofCode at h
  repeat' split at h
  all_goals cases h
  all_goals assumption

theorem boolOfCode_eq_some {b : Byte} {on : Bool} (h : boolOfCode b = some on) : b = boolCode on := by
  unfold boolOfCode at h
  repeat' split at h
  all_goals cases h
  all_goals assumption

theorem numberField_eq_some {b : Byte} {highest k : Nat} (h : numberField b highest = some k) :
    k = b.toNat ∧ 1 ≤ k ∧ k ≤ highest := by
  unfold numberField at h
  split at h <;> cases h
  exact ⟨rfl, ‹_›⟩

/-- R10: what a claim chooses is a FREE user profile. -/
theorem State.claimChoice_eq_some {s : State} {w : Wanted} {n : Fin 32} (h : s.claimChoice w = some n) :
    n ≠ 0 ∧ (s.profile n).state = .free := by
  unfold State.claimChoice at h
  split at h
  · split at h <;> cases h
    exact (s.claimable_iff _).1 ‹_›
  · exact (s.claimable_iff _).1 (List.find?_some h)

/-! ## States that differ in the interfaces alone -/

/-- The two states differ in the transactions, holders and bus timer of the interfaces and in the queue of waiting
commands alone. -/
structure State.SameCore (s t : State) : Prop where
  ports : ∀ q, t.port q = { s.port q with transaction := (t.port q).transaction, holder := (t.port q).holder }
  rest : t = { s with ports := t.ports, busTimer := t.busTimer, pending := t.pending }

theorem State.SameCore.refl (s : State) : s.SameCore s := ⟨fun _ => rfl, rfl⟩

theorem State.SameCore.trans {s t u : State} (h : s.SameCore t) (k : t.SameCore u) : s.SameCore u := by
  refine ⟨fun q => ?_, ?_⟩
  · have a := h.ports q
    have b := k.ports q
    rw [a] at b
    rw [b]
  · have a := h.rest
    have b := k.rest
    rw [a] at b
    rw [b]

theorem State.sameCore_modPort (s : State) (p : Port) {f : PortState → PortState}
    (h : ∀ ps, f ps = { ps with transaction := (f ps).transaction, holder := (f ps).holder }) :
    s.SameCore (s.modPort p f) := by
  refine ⟨fun q => ?_, rfl⟩
  rw [State.port_modPort]
  split
  · subst q; exact h _
  · rfl

theorem State.sameCore_closedAt (s : State) (p : Port) : s.SameCore (s.closedAt p) := by
  refine ⟨fun q => ?_, rfl⟩
  cases p <;> cases q <;> rfl

theorem State.sameCore_respond (s : State) (p : Port) (status : Status) (code : Byte) (payload : List Byte) :
    s.SameCore (s.respond p status code payload) :=
  s.sameCore_modPort p fun _ => rfl

theorem State.sameCore_answered (s : State) (p : Port) (status : Status) (code : Byte) (payload : List Byte) :
    s.SameCore (s.answered p status code payload) := by
  rw [← s.respond_closedAt]
  exact (s.sameCore_closedAt p).trans (State.sameCore_respond _ _ _ _ _)

theorem State.sameCore_busTimer (s : State) (timer : Timer) : s.SameCore { s with busTimer := timer } :=
  ⟨fun _ => rfl, rfl⟩

theorem State.sameCore_pending (s : State) (rest : List Instr) : s.SameCore { s with pending := rest } :=
  ⟨fun _ => rfl, rfl⟩

namespace State.SameCore

variable {s t : State} (h : s.SameCore t)
include h

theorem symm : t.SameCore s := by
  refine ⟨fun q => ?_, ?_⟩
  · rw [h.ports q]
  · have e := h.rest
    rw [e]

theorem profile (n : Fin 32) : t.profile n = s.profile n := by rw [h.rest]; rfl
theorem output (o : OutputId) : t.output o = s.output o := by rw [h.rest]; rfl
theorem engine : t.engine = s.engine := by rw [h.rest]
theorem arbiter : t.arbiter = s.arbiter := by rw [h.rest]
theorem monitor : t.monitor = s.monitor := by rw [h.rest]
theorem supervisor : t.supervisor = s.supervisor := by rw [h.rest]
theorem targetAddress : t.targetAddress = s.targetAddress := by rw [h.rest]

/-- Everything that a port holds behind its interface. -/
theorem read {α : Type} (f : PortState → α)
    (behind : ∀ ps transaction holder, f { ps with transaction, holder } = f ps) (q : Port) :
    f (t.port q) = f (s.port q) := by
  rw [h.ports q]
  exact behind _ _ _

theorem queue (q : Port) : (t.port q).queue = (s.port q).queue := h.read (·.queue) (fun _ _ _ => rfl) q

theorem live : t.live = s.live := by
  have a := h.queue .a
  have b := h.queue .b
  have c := h.queue .c
  simp only [State.port, PerPort.get] at a b c
  simp only [State.live, a, b, c, h.monitor]

theorem flight : t.flight = s.flight := by
  simp only [State.flight, h.engine, h.queue, h.monitor]

end State.SameCore

/-! ## What a command or event does -/

/-- Everything that a command or event can do behind the interfaces, device reset apart: nothing, or its one effect under
the conditions that its rule checks. -/
inductive Acts (s : State) : Instr → State → Prop
  | idle (i : Instr) : Acts s i s
  | portReset (p : Port) : Acts s (.portReset p) (s.resetPort p)
  | alertConfig (p : Port) (b : Byte) (on : Bool) :
      Acts s (.alertConfig p b) (s.modPort p fun ps => { ps with ringAlert := on }.judgeAlert)
  | claim (p : Port) (b : Byte) (n : Fin 32) : n ≠ 0 → (s.profile n).state = .free →
      Acts s (.profileClaim p b) (s.claim p n)
  | write (p : Port) (f : WriteFields) (n : Fin 32) (w : Writing) : n ≠ 0 → f.number = unsigned8 n.val →
      writingOfFields f = some w → w.consistent = true → (s.profile n).state = .claimed ∨ (s.profile n).state = .active →
      (s.profile n).owner = some (.port p) → (s.profile n).refCount = 0 →
      Acts s (.profileWrite p f) (s.modProfile n (·.written w))
  | share (p : Port) (set : PerPort Bool) (b : Byte) (n : Fin 32) : n ≠ 0 → (s.profile n).state ≠ .free →
      (s.profile n).owner = some (.port p) →
      Acts s (.profileShare p (unsigned8 n.val) b) (s.modProfile n fun profile => { profile with share := storedShare p set })
  | retireNow (p : Port) (n : Fin 32) : n ≠ 0 → (s.profile n).state = .active → (s.profile n).owner = some (.port p) →
      (s.profile n).refCount = 0 →
      Acts s (.profileRetire p (unsigned8 n.val)) (s.modProfile n fun profile => { profile with state := .claimed })
  | retireBusy (p : Port) (n : Fin 32) : n ≠ 0 → (s.profile n).state = .active → (s.profile n).owner = some (.port p) →
      0 < (s.profile n).refCount → Acts s (.profileRetire p (unsigned8 n.val)) (s.retireBusy n)
  | release (p : Port) (n : Fin 32) : n ≠ 0 → (s.profile n).state = .claimed ∨ (s.profile n).state = .active →
      (s.profile n).owner = some (.port p) → (s.profile n).refCount = 0 →
      Acts s (.profileRelease p (unsigned8 n.val)) ((s.modProfile n fun _ => .default).disown (some (.port p)))
  | submit (p : Port) (f : SubmitFields) (w : Submission) : submissionOfFields f = some w →
      s.submitRefusal p f.tag w = none → Acts s (.submit p f) (s.submit p f.tag w)
  | cancel (p : Port) (tag : Byte) (r : Request) : (s.port p).tagged tag = some r →
      Acts s (.cancel p tag) (s.cancel p tag)
  | fetch (p : Port) (b : Byte) (n : Nat) : Acts s (.fetch p b) (s.modPort p (·.fetched n)).kick
  | readNotices (p : Port) (b : Byte) (n : Nat) : 1 ≤ n →
      Acts s (.readNotices p b) (s.modPort p (·.noticesRead n))
  | exciteVote (p : Port) (o : OutputId) (b : Byte) (on : Bool) :
      Acts s (.exciteVote p o.code b) (s.rejudgeOutput o (·.vote p on))
  | engineStart (p : Port) : s.engine.state = .down → Acts s (.engineStart p) s.startEngine
  | haltNow (p : Port) : s.engine.state = .starting ∨ s.engine.state = .running ∧ s.engine.inFlight = none →
      Acts s (.engineHalt p) s.enterDown
  | haltLater (p : Port) : s.engine.state = .running → s.engine.inFlight ≠ none →
      Acts s (.engineHalt p) s.awaitPeriod
  | setQuota (p q : Port) (x y : Byte) : x.toNat ≤ y.toNat → y.toNat ≤ slotCount → (s.port q).used ≤ y.toNat →
      (s.withQuota q x.toNat y.toNat).admissionSum ≤ slotCount →
      Acts s (.setQuota p q.code x y) (s.withQuota q x.toNat y.toNat)
  | setWeight (p q : Port) (x : Byte) : 1 ≤ x.toNat → x.toNat ≤ 8 →
      Acts s (.setWeight p q.code x) (s.modPort q (·.withWeight x.toNat))
  | setAffinity (p : Port) (x : Byte) :
      Acts s (.setAffinity p x) (s.modArbiter fun a => { a with limit := x.toNat })
  | setAllowance (p q : Port) (x : Byte) :
      Acts s (.setAllowance p q.code x) (s.modPort q fun ps => { ps with allowance := x.toNat })
  | setCombine (p q : Port) (o : OutputId) (x y : Byte) (combine : CombineMode) :
      Acts s (.setCombine p o.code x y) (s.rejudgeOutput o fun out => { out with combine, designated := q })
  | setExciteTiming (p : Port) (o : OutputId) (x y : Byte) :
      Acts s (.setExciteTiming p o.code x y)
        (s.modOutput o fun out => { out with warmUpTime := x.toNat, lingerTime := y.toNat })
  | clearLockout (p : Port) (o : OutputId) : (s.output o).state = .lockedOut →
      Acts s (.clearLockout p o.code) (s.modOutput o (·.cleared s.isDown))
  | setCalPolicy (p : Port) (x y : Byte) (d : BitVec 16) :
      Acts s (.setCalPolicy p x y d) (s.modMonitor (·.withPolicy x.toNat y.toNat d.toNat))
  | forceRelease (p : Port) (n : Fin 32) : n ≠ 0 → (s.profile n).state ≠ .free →
      Acts s (.forceRelease p (unsigned8 n.val)) (s.forceRelease n)
  | makeOffer (p q : Port) (b : Byte) : Acts s (.handoverOffer p b) (s.makeOffer p q)
  | handOver (p : Port) : Acts s (.handoverAccept p) (s.handOver p)
  | enterRunning : s.engine.state = .starting → s.engine.startTimer ≠ .stopped → Acts s .startTimerExpiry s.enterRunning
  | interval : s.monitor.intervalTimer ≠ .stopped → s.engine.state = .running ∨ s.engine.state = .halting →
      Acts s .intervalTimerExpiry s.restartInterval.placeSample.kick
  | periodEnd (raw : Int) (overload : Bool) : s.engine.state = .running ∨ s.engine.state = .halting →
      outputInRange raw = true → Acts s (.outputPeriodEnd raw overload) (s.endPeriod raw overload)
  | warmUp (o : OutputId) : (s.output o).state = .warming →
      Acts s (.warmUpExpiry o) ((s.modOutput o (·.becomeReady)).postAll (.excitation o .ready)).kick
  | linger (o : OutputId) : (s.output o).state = .linger →
      Acts s (.lingerExpiry o) (s.modOutput o fun out => out.switchOff.warmIfDemanded s.isDown)
  | holdOff (o : OutputId) : (s.output o).state = .tripped →
      Acts s (.holdOffExpiry o)
        (s.modOutput o fun out => { out with state := .off, holdOffTimer := .stopped }.warmIfDemanded s.isDown)
  | dwell (o : OutputId) : (s.output o).state = .ready →
      Acts s (.readyDwellExpiry o) (s.modOutput o fun out => { out with tripCount := 0, dwellTimer := .stopped })
  | trip (o : OutputId) : (s.output o).switchedOn = true → Acts s (.overcurrentTrip o) (s.trip o)
  | offerLapse (o : Offer) : s.offer = some o →
      Acts s .offerLapse ({ s with offer := none, offerTimer := .stopped }.post o.offering (.offerLapsed o.target))

section

variable (s : State) (p : Port) (b x y : Byte)

theorem acts_alertConfig : Acts s (.alertConfig p b) (alertConfig p b s).state := by
  unfold alertConfig
  split
  · exact .idle _
  · exact .alertConfig p b _

theorem acts_profileClaim : Acts s (.profileClaim p b) (profileClaim p b s).state := by
  unfold profileClaim
  repeat' split
  iterate 3 exact .idle _
  next choice _ =>
    obtain ⟨user, free⟩ := State.claimChoice_eq_some choice
    exact .claim p b _ user free

theorem acts_profileWrite (f : WriteFields) : Acts s (.profileWrite p f) (profileWrite p f s).state := by
  unfold profileWrite
  repeat' split
  iterate 4 exact .idle _
  next number fields consistent state owner count =>
    obtain ⟨code, user⟩ := userNumberOfCode_eq_some number
    refine .write p f _ _ user code fields (by simpa using consistent) ?_ (by simpa [Profile.ownedBy] using owner)
      (by omega)
    cases h : (s.profile _).state <;> simp_all
  · exact .idle _

theorem acts_profileShare : Acts s (.profileShare p b x) (profileShare p b x s).state := by
  unfold profileShare
  repeat' split
  iterate 2 exact .idle _
  next number _ state owner =>
    obtain ⟨rfl, user⟩ := userNumberOfCode_eq_some number
    exact .share p _ x _ user state (by simpa [Profile.ownedBy] using owner)
  · exact .idle _

theorem acts_profileRetire : Acts s (.profileRetire p b) (profileRetire p b s).state := by
  unfold profileRetire
  repeat' split
  iterate 4 exact .idle _
  next n number unready retiring owner =>
    obtain ⟨rfl, user⟩ := userNumberOfCode_eq_some number
    have active : (s.profile n).state = .active := by
      cases h : (s.profile n).state <;> simp_all
    have owned : (s.profile n).owner = some (.port p) := by simpa [Profile.ownedBy] using owner
    simp only [Answer.accept, State.retire]
    split
    · exact .retireNow p _ user active owned ‹_›
    · exact .retireBusy p _ user active owned (Nat.pos_of_ne_zero ‹_›)

theorem acts_profileRelease : Acts s (.profileRelease p b) (profileRelease p b s).state := by
  unfold profileRelease
  repeat' split
  iterate 5 exact .idle _
  next number free retiring owner count =>
    obtain ⟨rfl, user⟩ := userNumberOfCode_eq_some number
    refine .release p _ user ?_ (by simpa [Profile.ownedBy] using owner) (by omega)
    cases h : (s.profile _).state <;> simp_all

theorem acts_submit (f : SubmitFields) : Acts s (.submit p f) (submit p f s).state := by
  unfold submit
  split
  · exact .idle _
  next w fields =>
    split
    · exact .idle _
    · exact .submit p f w fields ‹_›

theorem acts_cancel : Acts s (.cancel p b) (cancel p b s).state := by
  unfold cancel
  split
  · exact .idle _
  · exact .cancel p b _ ‹_›

theorem acts_query : Acts s (.query p b) (query p b s).state := by
  unfold query
  split <;> exact .idle _

theorem acts_profileRead : Acts s (.profileRead p b) (profileRead b s).state := by
  unfold profileRead
  split <;> exact .idle _

theorem acts_fetch : Acts s (.fetch p b) (fetch p b s).state := by
  unfold fetch
  split
  · exact .idle _
  · exact .fetch p b _

theorem acts_readNotices : Acts s (.readNotices p b) (readNotices p b s).state := by
  unfold readNotices
  split
  · exact .idle _
  next k field => exact .readNotices p b _ (numberField_eq_some field).2.1

theorem acts_exciteVote : Acts s (.exciteVote p b x) (exciteVote p b x s).state := by
  unfold exciteVote
  split
  next output _ =>
    obtain rfl := outputOfCode_eq_some output
    exact .exciteVote p _ x _
  · exact .idle _

theorem acts_engineStart : Acts s (.engineStart p) (engineStart s).state := by
  unfold engineStart
  split
  · exact .engineStart p ‹_›
  · exact .idle _

theorem acts_engineHalt : Acts s (.engineHalt p) (engineHalt s).state := by
  unfold engineHalt
  repeat' split
  iterate 2 exact .idle _
  next state => exact .haltNow p (.inl state)
  next state idle => exact .haltNow p (.inr ⟨state, by simpa using idle⟩)
  next state busy => exact .haltLater p state (by simpa using busy)

theorem acts_setQuota : Acts s (.setQuota p b x y) (setQuota b x y s).state := by
  unfold setQuota
  repeat' split
  iterate 5 exact .idle _
  next target range order used sum =>
    obtain rfl := portOfCode_eq_some target
    exact .setQuota p _ x y (by omega) (by omega) (by omega) (by omega)

theorem acts_setWeight : Acts s (.setWeight p b x) (setWeight b x s).state := by
  unfold setWeight
  repeat' split
  iterate 2 exact .idle _
  next target range =>
    obtain rfl := portOfCode_eq_some target
    exact .setWeight p _ x (by omega) (by omega)

theorem acts_setAffinity : Acts s (.setAffinity p b) (setAffinity b s).state := by
  unfold setAffinity
  split
  · exact .idle _
  · exact .setAffinity p b

theorem acts_setAllowance : Acts s (.setAllowance p b x) (setAllowance b x s).state := by
  unfold setAllowance
  repeat' split
  iterate 2 exact .idle _
  next target _ =>
    obtain rfl := portOfCode_eq_some target
    exact .setAllowance p _ x

theorem acts_setCombine : Acts s (.setCombine p b x y) (setCombine b x y s).state := by
  unfold setCombine
  split
  next output _ _ =>
    obtain rfl := outputOfCode_eq_some output
    exact .setCombine p _ _ x y _
  · exact .idle _

theorem acts_setExciteTiming : Acts s (.setExciteTiming p b x y) (setExciteTiming b x y s).state := by
  unfold setExciteTiming
  repeat' split
  iterate 2 exact .idle _
  next output _ =>
    obtain rfl := outputOfCode_eq_some output
    exact .setExciteTiming p _ x y

theorem acts_clearLockout : Acts s (.clearLockout p b) (clearLockout b s).state := by
  unfold clearLockout
  repeat' split
  · exact .idle _
  next output locked =>
    obtain rfl := outputOfCode_eq_some output
    exact .clearLockout p _ locked
  · exact .idle _

theorem acts_setCalPolicy (d : BitVec 16) : Acts s (.setCalPolicy p x y d) (setCalPolicy x y d s).state := by
  unfold setCalPolicy
  split
  · exact .idle _
  · exact .setCalPolicy p x y d

theorem acts_forceRelease : Acts s (.forceRelease p b) (forceRelease b s).state := by
  unfold forceRelease
  repeat' split
  iterate 2 exact .idle _
  next number state =>
    obtain ⟨rfl, user⟩ := userNumberOfCode_eq_some number
    exact .forceRelease p _ user state

theorem acts_handoverOffer : Acts s (.handoverOffer p b) (handoverOffer p b s).state := by
  unfold handoverOffer
  repeat' split
  iterate 2 exact .idle _
  exact .makeOffer p _ b

theorem acts_handoverAccept : Acts s (.handoverAccept p) (handoverAccept p s).state := by
  unfold handoverAccept
  repeat' split
  · exact .idle _
  · exact .handOver p
  · exact .idle _

end

/-- Every command's own rule does nothing, or the command's act. -/
theorem acts_ownRule (i : Instr) (s : State) : Acts s i (ownRule i s).state := by
  cases i with
  | portReset p => exact .portReset p
  | alertConfig p b => exact acts_alertConfig s p b
  | profileClaim p b => exact acts_profileClaim s p b
  | profileWrite p f => exact acts_profileWrite s p f
  | profileRead p b => exact acts_profileRead s p b
  | profileShare p b x => exact acts_profileShare s p b x
  | profileRetire p b => exact acts_profileRetire s p b
  | profileRelease p b => exact acts_profileRelease s p b
  | submit p f => exact acts_submit s p f
  | cancel p b => exact acts_cancel s p b
  | query p b => exact acts_query s p b
  | fetch p b => exact acts_fetch s p b
  | readNotices p b => exact acts_readNotices s p b
  | exciteVote p b x => exact acts_exciteVote s p b x
  | engineStart p => exact acts_engineStart s p
  | engineHalt p => exact acts_engineHalt s p
  | setQuota p b x y => exact acts_setQuota s p b x y
  | setWeight p b x => exact acts_setWeight s p b x
  | setAffinity p b => exact acts_setAffinity s p b
  | setAllowance p b x => exact acts_setAllowance s p b x
  | setCombine p b x y => exact acts_setCombine s p b x y
  | setExciteTiming p b x y => exact acts_setExciteTiming s p b x y
  | clearLockout p b => exact acts_clearLockout s p b
  | setCalPolicy p x y d => exact acts_setCalPolicy s p x y d
  | forceRelease p b => exact acts_forceRelease s p b
  | handoverOffer p b => exact acts_handoverOffer s p b
  | handoverAccept p => exact acts_handoverAccept s p
  | status | nop | frameError | unknownCommand | emptyTransaction | busTimeout | deviceReset | startTimerExpiry
  | intervalTimerExpiry | outputPeriodEnd | warmUpExpiry | lingerExpiry | holdOffExpiry | readyDwellExpiry
  | overcurrentTrip | offerLapse | transactionOpen => exact .idle _

/-! ## How a row brings it about -/

/-- What the close of port `p`'s transaction by the row of `i`, or by an opening that takes `i` from its bytes, leaves
(R160, R163): the state as it stands, the transaction closed, a refusal in the holder, or the command taken. -/
inductive Row (s : State) (p : Port) (i : Instr) : State → Prop
  | stands : Row s p i s
  | closes : Row s p i (s.closedAt p)
  | refuses (status : Status) (code : Byte) : status ≠ .ok → Row s p i (s.answered p status code [])
  | takes (code : CommandCode) (payload : List Byte) : commandParts i = some (p, code, payload) →
      Row s p i ((ownRule i (s.closedAt p)).state.respond p (ownRule i (s.closedAt p)).status code.byte
        (ownRule i (s.closedAt p)).payload)

/-- What an opening at port `p` makes of the state after the close: a new transaction with the held response latched. -/
def State.Opens (u t : State) (p : Port) : Prop :=
  t = u ∨ ∃ read received acknowledged timer,
    t = { u.openTransaction p read received acknowledged with busTimer := timer }

section

variable {s t u : State} {p : Port} {i : Instr} {code : CommandCode} {payload : List Byte}

theorem row_of_answerVerdict (s : State) (p : Port) (i : Instr) (v : Verdict) : Row s p i (s.answerVerdict p v) := by
  rw [State.answerVerdict_eq]
  cases v with
  | noFrame => exact .closes
  | frameError first => exact .refuses _ _ nofun
  | unknownCommand code => exact .refuses _ _ nofun
  | command => exact .stands

theorem row_of_command (parts : commandParts i = some (p, code, payload)) (run : exec i s = .next t) : Row s p i t := by
  rcases eq_or_ne code .nop with rfl | acts
  · obtain rfl := eq_nop_of_parts parts
    cases run
    rw [State.closeBy]
    split
    · rw [s.closeTransaction_eq]; exact .closes
    · exact row_of_answerVerdict s p _ _
  · rw [exec_eq_takeCommand parts acts, takeCommand, parts] at run
    cases run
    show Row s p i (s.closeBy p (commandFrame code payload) (s.take p code (ownRule i)))
    rw [State.closeBy]
    split
    · rw [State.take]
      split
      · rw [s.respond_closeTransaction]; exact .refuses _ _ nofun
      · rw [s.closeTransaction_eq]; exact .takes code payload parts
    · exact row_of_answerVerdict s p _ _

/-- The close that an opening makes (R171): the row of the command that its bytes carry, or no command. -/
theorem row_of_closesTo {opening : Opening} (closes : s.ClosesTo u opening.port) :
    Row s opening.port (s.performed (.transactionOpen opening)) u := by
  unfold State.ClosesTo at closes
  split at closes
  · exact closes ▸ .closes
  · exact closes ▸ .refuses _ _ nofun
  · exact closes ▸ .refuses _ _ nofun
  next j carried =>
    have performed : s.performed (.transactionOpen opening) = j := by simp only [State.performed, carried]
    rw [performed]
    unfold judge judgeFrame at carried
    repeat' split at carried
    all_goals cases carried
    next spelled =>
      have parts : ∃ code payload, commandParts j = some (opening.port, code, payload) := by
        unfold readPayload at spelled
        split at spelled <;> split at spelled <;> cases spelled <;> exact ⟨_, _, rfl⟩
      obtain ⟨code, payload, parts⟩ := parts
      exact row_of_command parts closes

theorem opens_of_exec {opening : Opening} (run : exec (.transactionOpen opening) s = .next t) :
    ∃ u, s.ClosesTo u opening.port ∧ u.Opens t opening.port := by
  cases opening with
  | chipSelectA | chipSelectB =>
    obtain ⟨u, closes, rfl⟩ := exists_next_of_followedBy run
    exact ⟨u, State.closeOnBytes_closesTo closes, .inr ⟨_, _, _, u.busTimer, rfl⟩⟩
  | start address read received edges =>
    obtain ⟨u, closes, rfl⟩ := exists_next_of_followedBy run
    refine ⟨u, State.closeOnBytes_closesTo closes, ?_⟩
    split
    · exact .inr ⟨_, _, _, _, rfl⟩
    · exact .inl rfl

/-- The events inside the ET316, device reset apart. -/
theorem acts_of_internal_event (inside : i.port? = none) (noReset : i.isDeviceReset = false) (run : exec i s = .next t) :
    Acts s i t := by
  cases i <;> cases inside
  case deviceReset => cases noReset
  case startTimerExpiry =>
    cases run
    split
    next state timer => exact .enterRunning state (by rw [timer]; nofun)
    · exact .idle _
  case intervalTimerExpiry =>
    cases run
    repeat' split
    next timer state => exact .interval (by rw [timer]; nofun) state
    iterate 2 exact .idle _
  case outputPeriodEnd raw overload =>
    cases run
    split
    next h =>
      simp only [State.converts, Bool.and_eq_true, Bool.or_eq_true, decide_eq_true_eq] at h
      exact .periodEnd raw overload h.1 h.2
    · exact .idle _
  case warmUpExpiry o =>
    cases run
    split
    · exact .warmUp o ‹_›
    · exact .idle _
  case lingerExpiry o =>
    cases run
    split
    · exact .linger o ‹_›
    · exact .idle _
  case holdOffExpiry o =>
    cases run
    split
    · exact .holdOff o ‹_›
    · exact .idle _
  case readyDwellExpiry o =>
    cases run
    split
    · exact .dwell o ‹_›
    · exact .idle _
  case overcurrentTrip o =>
    cases run
    split
    · exact .trip o ‹_›
    · exact .idle _
  case offerLapse =>
    cases run
    split
    · exact .offerLapse _ ‹_›
    · exact .idle _

/-- The rows of a port that bring no command: their bytes are judged and answered (R163), or the bus timer expires. -/
theorem row_of_noCommand (event : commandParts i = none) (port : i.port? = some p)
    (noOpening : ∀ opening, i ≠ .transactionOpen opening) (run : exec i s = .next t) : Row s p i t := by
  cases i <;> cases event <;> cases port
  case transactionOpen opening => exact absurd rfl (noOpening opening)
  case frameError rest | unknownCommand rest | emptyTransaction rest =>
    cases run
    split
    · exact row_of_answerVerdict _ _ _ _
    all_goals exact .stands
  case busTimeout =>
    cases run
    split
    · unfold State.abandonTransaction
      split
      · rw [s.respond_closeTransaction]; exact .refuses _ _ nofun
      · rw [s.closeTransaction_eq]; exact .closes
    · exact .stands

/-- Every command and event but device reset: the row of a port's transaction, an event inside the ET316, or an opening
that first closes what stands open. -/
theorem exec_cases (noReset : i.isDeviceReset = false) (run : exec i s = .next t) :
    (∃ p, i.port? = some p ∧ s.performed i = i ∧ Row s p i t) ∨
    (i.port? = none ∧ s.performed i = i ∧ Acts s i t) ∨
    ∃ p u, i.port? = some p ∧ Row s p (s.performed i) u ∧ u.Opens t p := by
  by_cases opens : ∃ opening, i = .transactionOpen opening
  · obtain ⟨opening, rfl⟩ := opens
    obtain ⟨u, closes, opened⟩ := opens_of_exec run
    exact .inr (.inr ⟨opening.port, u, rfl, row_of_closesTo closes, opened⟩)
  · have itself : s.performed i = i := by
      unfold State.performed
      split
      · exact absurd ⟨_, rfl⟩ opens
      · rfl
    rcases port : i.port? with _ | p
    · exact .inr (.inl ⟨rfl, itself, acts_of_internal_event port noReset run⟩)
    · refine .inl ⟨p, rfl, itself, ?_⟩
      rcases parts : commandParts i with _ | ⟨q, code, payload⟩
      · exact row_of_noCommand parts port (fun opening e => opens ⟨opening, e⟩) run
      · have same : q = p := by
          cases i <;> cases parts <;> exact Option.some.inj port
        exact row_of_command (same ▸ parts) run

theorem Row.acts (row : Row s p i t) : ∃ s' u, s.SameCore s' ∧ Acts s' i u ∧ u.SameCore t := by
  cases row with
  | stands => exact ⟨s, s, .refl s, .idle _, .refl s⟩
  | closes => exact ⟨s, s, .refl s, .idle _, s.sameCore_closedAt p⟩
  | refuses status code => exact ⟨s, s, .refl s, .idle _, s.sameCore_answered p _ _ _⟩
  | takes => exact ⟨_, _, s.sameCore_closedAt p, acts_ownRule i _, State.sameCore_respond _ _ _ _ _⟩

theorem State.Opens.sameCore (h : u.Opens t p) : u.SameCore t := by
  rcases h with rfl | ⟨read, received, acknowledged, timer, rfl⟩
  · exact .refl _
  · exact (u.sameCore_modPort p fun _ => rfl).trans (State.sameCore_busTimer _ timer)

/-- Behind the interfaces a command or event acts as the command that it performs. -/
theorem acts_of_exec (noReset : i.isDeviceReset = false) (run : exec i s = .next t) :
    ∃ s' u, s.SameCore s' ∧ Acts s' (s.performed i) u ∧ u.SameCore t := by
  rcases exec_cases noReset run with ⟨p, -, itself, row⟩ | ⟨-, itself, acts⟩ | ⟨p, u, -, row, opened⟩
  · rw [itself]; exact row.acts
  · rw [itself]; exact ⟨s, t, .refl s, acts, .refl t⟩
  · obtain ⟨s', v, first, acts, last⟩ := row.acts
    exact ⟨s', v, first, acts, last.trans opened.sameCore⟩

end

/-- A law behind the interfaces that holds after device reset and that every act keeps is kept by every step. -/
theorem step_keeps {P : State → Prop} (core : ∀ s t : State, s.SameCore t → P s → P t)
    (reset : ∀ straps, P (State.resetWith straps)) (acts : ∀ s i t, P s → Acts s i t → P t) {s t : State} (law : P s)
    (run : step s = .next t) : P t := by
  unfold step at run
  split at run
  · cases run; exact law
  next i rest _ =>
    have start : P { s with pending := rest } := core _ _ (s.sameCore_pending rest) law
    by_cases noReset : i.isDeviceReset = false
    · obtain ⟨s', u, first, acts', last⟩ := acts_of_exec noReset run
      exact core _ _ last (acts _ _ _ (core _ _ first start) acts')
    · cases i <;> first | exact absurd rfl noReset | skip
      cases run
      exact core _ _ (State.sameCore_pending _ _) (reset _)

end Sys2Proof.Machine
end

section
/-! SUPPORT. The ports through an event: which notices were posted to each, and that nothing but queues, slots in use,
reservations and credits moved besides (`State.PortsWork`); for every shared operation that delivers no result. -/

namespace Sys2Proof.Machine

/-! ## Several postings to one port (R123) -/

/-- These notices posted in order. -/
def PortState.postList (ps : PortState) (new : List Notice) : PortState := new.foldl (·.post ·) ps

/-- A port with the queue, slots in use, reservations and credit of another. -/
def PortState.withWork (ps w : PortState) : PortState :=
  { ps with queue := w.queue, used := w.used, reservations := w.reservations, credit := w.credit }

@[simp] theorem PortState.postList_nil (ps : PortState) : ps.postList [] = ps := rfl

@[simp] theorem PortState.postList_cons (ps : PortState) (n : Notice) (new : List Notice) :
    ps.postList (n :: new) = (ps.post n).postList new := rfl

theorem PortState.postList_append (ps : PortState) (x y : List Notice) :
    ps.postList (x ++ y) = (ps.postList x).postList y := by
  simp [PortState.postList, List.foldl_append]

theorem PortState.post_withWork (ps w : PortState) (n : Notice) : (ps.withWork w).post n = (ps.post n).withWork w := by
  by_cases room : ps.notices.length < noticeCapacity
  · rw [PortState.post, PortState.post, if_pos room, if_pos (show (ps.withWork w).notices.length < _ from room)]
    rfl
  · rw [PortState.post, PortState.post, if_neg room, if_neg (show ¬ (ps.withWork w).notices.length < _ from room)]
    rfl

theorem PortState.postList_withWork (ps w : PortState) (new : List Notice) :
    (ps.withWork w).postList new = (ps.postList new).withWork w := by
  induction new generalizing ps with
  | nil => rfl
  | cons n rest ih => rw [PortState.postList_cons, PortState.post_withWork, ih, PortState.postList_cons]

/-- What no posting moves. -/
theorem PortState.read_postList {α : Type} (f : PortState → α) (unmoved : ∀ ps n, f (PortState.post ps n) = f ps)
    (ps : PortState) (new : List Notice) : f (ps.postList new) = f ps := by
  induction new generalizing ps with
  | nil => rfl
  | cons n rest ih => rw [PortState.postList_cons, ih, unmoved]

/-- A notice queue within its capacity whose lost flag goes with a full queue, and an ALERT line that is judged. -/
structure PortState.AlertSound (ps : PortState) : Prop where
  capacity : ps.notices.length ≤ 8
  lost : ps.lost = true → ps.notices.length = 8
  alert : ps.alertLow = ps.alertDue

theorem PortState.alertDue_iff (ps : PortState) :
    ps.alertDue = true ↔ ps.notices ≠ [] ∨ (ps.ringAlert = true ∧ ps.ring ≠ []) := by
  simp [PortState.alertDue]

theorem take_take_append {α : Type} (n : Nat) (x y : List α) : (x.take n ++ y).take n = (x ++ y).take n := by
  have left : n - min n x.length = n - x.length := by omega
  rw [List.take_append, List.take_append, List.take_take, Nat.min_self, List.length_take, left]

theorem State.noticesSound_iff (s : State) : s.NoticesSound ↔ ∀ q, (s.port q).AlertSound := by
  refine forall_congr' fun q => ⟨fun ⟨capacity, lost, alert⟩ => ⟨capacity, lost, ?_⟩,
    fun ⟨capacity, lost, alert⟩ => ⟨capacity, lost, ?_⟩⟩
  · rw [Bool.eq_iff_iff, alert, PortState.alertDue_iff]
  · rw [alert, PortState.alertDue_iff]

theorem PortState.AlertSound.post {ps : PortState} (h : ps.AlertSound) (n : Notice) : (ps.post n).AlertSound := by
  refine ⟨?_, fun lost => ?_, PortState.post_alert ps n h.alert⟩
  · rw [PortState.post_notices _ _ h.capacity, List.length_take]
    omega
  · rw [PortState.post_lost, Bool.or_eq_true, decide_eq_true_eq] at lost
    have full : ps.notices.length = 8 := lost.elim h.lost fun above => le_antisymm h.capacity above
    rw [PortState.post_notices _ _ h.capacity, List.length_take, List.length_append, full]
    rfl

theorem PortState.AlertSound.postList {ps : PortState} (h : ps.AlertSound) (new : List Notice) :
    (ps.postList new).AlertSound := by
  induction new generalizing ps with
  | nil => exact h
  | cons n rest ih => exact ih (h.post n)

theorem PortState.AlertSound.withWork {ps : PortState} (h : ps.AlertSound) (w : PortState) : (ps.withWork w).AlertSound :=
  ⟨h.capacity, h.lost, h.alert⟩

/-! ## The ports through an operation -/

/-- The ports of `t` are those of `s` after the posting of `new`, but for queues, slots in use, reservations and
credits. -/
def State.PortsWork (s t : State) (new : Port → List Notice) : Prop :=
  ∀ q, t.port q = ((s.port q).postList (new q)).withWork (t.port q)

/-- No notice to any port. -/
def noNotices (_ : Port) : List Notice := []

theorem State.PortsWork.of_ports {s t : State} (same : ∀ q, t.port q = s.port q) : s.PortsWork t noNotices := by
  intro q
  rw [same q]
  rfl

theorem State.PortsWork.refl (s : State) : s.PortsWork s noNotices := .of_ports fun _ => rfl

theorem State.PortsWork.trans {s t u : State} {x y : Port → List Notice} (h : s.PortsWork t x) (k : t.PortsWork u y) :
    s.PortsWork u fun q => x q ++ y q := by
  intro q
  have a := k q
  rw [h q, PortState.postList_withWork] at a
  rw [PortState.postList_append]
  exact a

theorem State.PortsWork.congr {s t : State} {x y : Port → List Notice} (h : s.PortsWork t x) (same : ∀ q, x q = y q) :
    s.PortsWork t y := by
  intro q
  rw [← same q]
  exact h q

theorem State.PortsWork.quiet_trans {s t u : State} {y : Port → List Notice} (h : s.PortsWork t noNotices)
    (k : t.PortsWork u y) : s.PortsWork u y := h.trans k

theorem State.PortsWork.trans_quiet {s t u : State} {x : Port → List Notice} (h : s.PortsWork t x)
    (k : t.PortsWork u noNotices) : s.PortsWork u x :=
  (h.trans k).congr fun q => List.append_nil (x q)

/-- What neither a posting nor work at a port moves. -/
theorem State.PortsWork.read {α : Type} {s t : State} {new : Port → List Notice} (h : s.PortsWork t new)
    (f : PortState → α) (q : Port) (posts : ∀ ps n, f (PortState.post ps n) = f ps)
    (works : ∀ ps w, f (PortState.withWork ps w) = f ps) : f (t.port q) = f (s.port q) := by
  rw [h q, works, PortState.read_postList f posts]

theorem State.PortsWork.ring {s t : State} {new : Port → List Notice} (h : s.PortsWork t new) (q : Port) :
    (t.port q).ring = (s.port q).ring := h.read (·.ring) q PortState.post_ring fun _ _ => rfl

theorem State.PortsWork.highWater {s t : State} {new : Port → List Notice} (h : s.PortsWork t new) (q : Port) :
    (t.port q).highWater = (s.port q).highWater := h.read (·.highWater) q PortState.post_highWater fun _ _ => rfl

theorem State.PortsWork.nextSeq {s t : State} {new : Port → List Notice} (h : s.PortsWork t new) (q : Port) :
    (t.port q).nextSeq = (s.port q).nextSeq := h.read (·.nextSeq) q PortState.post_nextSeq fun _ _ => rfl

theorem State.PortsWork.weight {s t : State} {new : Port → List Notice} (h : s.PortsWork t new) (q : Port) :
    (t.port q).weight = (s.port q).weight := h.read (·.weight) q PortState.post_weight fun _ _ => rfl

theorem State.PortsWork.owned {s t : State} {new : Port → List Notice} (h : s.PortsWork t new) (q : Port) :
    (t.port q).owned = (s.port q).owned := h.read (·.owned) q PortState.post_owned fun _ _ => rfl

theorem State.PortsWork.reserve {s t : State} {new : Port → List Notice} (h : s.PortsWork t new) (q : Port) :
    (t.port q).reserve = (s.port q).reserve := h.read (·.reserve) q PortState.post_reserve fun _ _ => rfl

theorem State.PortsWork.ceiling {s t : State} {new : Port → List Notice} (h : s.PortsWork t new) (q : Port) :
    (t.port q).ceiling = (s.port q).ceiling := h.read (·.ceiling) q PortState.post_ceiling fun _ _ => rfl

theorem State.PortsWork.alertSound {s t : State} {new : Port → List Notice} (h : s.PortsWork t new) {q : Port}
    (sound : (s.port q).AlertSound) : (t.port q).AlertSound := by
  rw [h q]
  exact (sound.postList _).withWork _

/-- The postings of an event in the words of the statements. -/
theorem State.PortsWork.posts {s t : State} {new : Port → List Notice} (h : s.PortsWork t new) {q : Port}
    (capacity : (s.port q).notices.length ≤ 8) : s.Posts t q (new q) := by
  have listed : ∀ (l : List Notice) (ps : PortState), ps.notices.length ≤ 8 →
      (ps.postList l).notices = (ps.notices ++ l).take 8 ∧
        ((ps.postList l).lost = true ↔ ps.lost = true ∨ 8 < ps.notices.length + l.length) := by
    intro l
    induction l with
    | nil => exact fun ps room => ⟨by simp [List.take_of_length_le room], by simp [room]⟩
    | cons n rest ih =>
      intro ps room
      have posted := PortState.post_notices ps n room
      have fits : (ps.post n).notices.length ≤ 8 := by rw [posted, List.length_take]; omega
      obtain ⟨notices, lost⟩ := ih (ps.post n) fits
      refine ⟨?_, ?_⟩
      · rw [PortState.postList_cons, notices, posted, take_take_append, List.append_assoc, List.singleton_append]
      · rw [PortState.postList_cons, lost, PortState.post_lost, posted, List.length_take]
        simp only [Bool.or_eq_true, decide_eq_true_eq, List.length_append, List.length_cons, List.length_nil]
        by_cases flag : ps.lost = true <;> simp only [flag, true_or, false_or, Bool.false_eq_true]
        omega
  obtain ⟨notices, lost⟩ := listed (new q) (s.port q) capacity
  have notices' : (t.port q).notices = ((s.port q).postList (new q)).notices := congrArg (·.notices) (h q)
  have lost' : (t.port q).lost = ((s.port q).postList (new q)).lost := congrArg (·.lost) (h q)
  exact ⟨notices'.trans notices, lost' ▸ lost⟩

/-! ## The updates -/

theorem State.portsWork_modPort (s : State) (p : Port) {f : PortState → PortState}
    (works : ∀ ps, f ps = ps.withWork (f ps)) : s.PortsWork (s.modPort p f) noNotices := by
  intro q
  rw [State.port_modPort]
  split
  · subst q; exact works _
  · rfl

theorem State.portsWork_mapPorts (s : State) {f : PortState → PortState} (works : ∀ ps, f ps = ps.withWork (f ps)) :
    s.PortsWork (s.mapPorts f) noNotices := by
  intro q
  rw [State.port_mapPorts]
  exact works _

theorem State.portsWork_modSource (s : State) (r : Request) {f : PortState → PortState}
    (works : ∀ ps, f ps = ps.withWork (f ps)) : s.PortsWork (s.modSource r f) noNotices := by
  unfold State.modSource
  split
  · exact s.portsWork_modPort _ works
  · exact .refl s

theorem State.portsWork_post (s : State) (p : Port) (n : Notice) :
    s.PortsWork (s.post p n) fun q => if q = p then [n] else [] := by
  intro q
  rw [State.post_port]
  by_cases same : q = p
  · subst q
    simp only [if_true]
    rfl
  · simp only [if_neg same]
    rfl

theorem State.portsWork_postAll (s : State) (n : Notice) : s.PortsWork (s.postAll n) fun _ => [n] := by
  intro q
  rw [State.postAll_port]
  rfl

/-- One notice to a port that is an owner. -/
def ownerNotice (owner : Option Source) (n : Notice) (q : Port) : List Notice :=
  if owner = some (.port q) then [n] else []

theorem State.portsWork_postOwner (s : State) (owner : Option Source) (n : Notice) :
    s.PortsWork (s.postOwner owner n) (ownerNotice owner n) := by
  unfold State.postOwner
  split
  next p => exact (s.portsWork_post p n).congr fun q => by simp [ownerNotice, eq_comm]
  next none =>
    refine (State.PortsWork.refl s).congr fun q => ?_
    exact (if_neg fun e => none q e).symm

/-- REQUEST_ENDED to a port for a request that it named (R29). -/
def Request.endNotice (reason : Reason) (q : Port) (r : Request) : Option Notice :=
  if r.source = .port q then r.tag.map fun tag => .requestEnded tag reason else none

theorem State.portsWork_postEnded (s : State) (reason : Reason) (r : Request) :
    s.PortsWork (s.postEnded reason r) fun q => (r.endNotice reason q).toList := by
  unfold State.postEnded
  split
  next p tag source named =>
    refine (s.portsWork_post p _).congr fun q => ?_
    by_cases same : q = p
    · simp [Request.endNotice, source, named, same]
    · simp [Request.endNotice, source, Ne.symm same, same]
  next unnamed =>
    refine (State.PortsWork.refl s).congr fun q => ?_
    cases source : r.source with
    | monitor => simp [Request.endNotice, source, noNotices]
    | port p =>
      cases named : r.tag with
      | none => simp [Request.endNotice, named, noNotices]
      | some tag => exact absurd named (unnamed p tag source)

theorem State.portsWork_postEnds (s : State) (reason : Reason) (ended : List Request) :
    s.PortsWork (ended.foldl (·.postEnded reason ·) s) fun q => ended.filterMap (·.endNotice reason q) := by
  induction ended generalizing s with
  | nil => exact .refl s
  | cons r rest ih =>
    refine ((s.portsWork_postEnded reason r).trans (ih _)).congr fun q => ?_
    rw [List.filterMap_cons]
    cases r.endNotice reason q <;> rfl

/-! ## Completed retires (R9) -/

/-- The end of these requests completes the retire of a profile that they leave with reference count 0. -/
def State.retireEnds (s : State) (ended : List Request) (n : Fin 32) : Bool :=
  ended.any (·.profile = n) && decide ((s.profile n).state = .retiring) && decide ((s.profile n).refCount = 0)

/-- PROFILE_RETIRED to a port for each of its profiles whose retire these requests' end completes. -/
def State.retiredNotices (s : State) (ended : List Request) (q : Port) : List Notice :=
  (List.finRange 32).filterMap fun n =>
    if s.retireEnds ended n = true ∧ (s.profile n).owner = some (.port q) then some (.profileRetired n) else none

theorem State.retireEnds_congr {s t : State} {n : Fin 32} (same : t.profile n = s.profile n) (ended : List Request) :
    t.retireEnds ended n = s.retireEnds ended n := by
  simp only [State.retireEnds, same]

theorem State.retiredNotices_congr {s t : State} (same : ∀ n, t.profile n = s.profile n) (ended : List Request)
    (q : Port) : t.retiredNotices ended q = s.retiredNotices ended q := by
  unfold State.retiredNotices
  congr 1
  funext n
  rw [State.retireEnds_congr (same n), same n]

/-- One profile after the completion of the retires. -/
theorem State.completeRetires_profile (s : State) (ended : List Request) (n : Fin 32) :
    (s.completeRetires ended).profile n =
      if s.retireEnds ended n then { s.profile n with state := .claimed } else s.profile n := by
  have walk : ∀ (l : List (Fin 32)) (x : State), l.Nodup →
      (l.foldl (fun s n => if ended.any (·.profile = n) then s.completeRetire n else s) x).profile n =
        if n ∈ l ∧ x.retireEnds ended n = true then { x.profile n with state := .claimed } else x.profile n := by
    intro l
    induction l with
    | nil => intro x _; simp
    | cons m rest ih =>
      intro x nodup
      obtain ⟨absent, nodup⟩ := List.nodup_cons.1 nodup
      rw [List.foldl_cons, ih _ nodup]
      by_cases same : n = m
      · subst same
        simp only [absent, false_and, if_false, List.mem_cons, true_or, true_and, State.retireEnds, Bool.and_eq_true,
          decide_eq_true_eq]
        by_cases named : ended.any (·.profile = n)
        · simp [named, State.completeRetire_profile]
        · simp [named]
      · have kept : (if ended.any (·.profile = m) then x.completeRetire m else x).profile n = x.profile n := by
          split
          · simp [State.completeRetire_profile, same]
          · rfl
        simp only [State.retireEnds, kept, List.mem_cons, same, false_or]
  have all : n ∈ profileNumbers := List.mem_finRange n
  have := walk profileNumbers s (List.nodup_finRange 32)
  rw [State.completeRetires, this]
  simp only [all, true_and]

theorem State.portsWork_completeRetires (s : State) (ended : List Request) :
    s.PortsWork (s.completeRetires ended) (s.retiredNotices ended) := by
  have walk : ∀ (l : List (Fin 32)) (x : State), l.Nodup → (∀ n ∈ l, x.profile n = s.profile n) →
      x.PortsWork (l.foldl (fun s n => if ended.any (·.profile = n) then s.completeRetire n else s) x) fun q =>
        l.filterMap fun n => if s.retireEnds ended n = true ∧ (s.profile n).owner = some (.port q) then
          some (.profileRetired n) else none := by
    intro l
    induction l with
    | nil => exact fun x _ _ => .refl x
    | cons m rest ih =>
      intro x nodup same
      obtain ⟨absent, nodup⟩ := List.nodup_cons.1 nodup
      have one : x.PortsWork (if ended.any (·.profile = m) then x.completeRetire m else x) fun q =>
          if s.retireEnds ended m = true ∧ (s.profile m).owner = some (.port q) then [.profileRetired m] else [] := by
        have here := same m (List.mem_cons_self ..)
        simp only [State.retireEnds, Bool.and_eq_true, decide_eq_true_eq]
        by_cases named : ended.any (·.profile = m)
        · rw [if_pos named, State.completeRetire, here]
          by_cases completes : (s.profile m).state = .retiring ∧ (s.profile m).refCount = 0
          · rw [if_pos completes]
            refine State.PortsWork.congr (.quiet_trans (.of_ports fun _ => rfl) (State.portsWork_postOwner _ _ _))
              fun q => ?_
            simp [ownerNotice, named, completes]
          · rw [if_neg completes]
            refine (State.PortsWork.refl x).congr fun q => (if_neg fun h => completes ⟨h.1.1.2, h.1.2⟩).symm
        · rw [if_neg named]
          refine (State.PortsWork.refl x).congr fun q => (if_neg fun h => named h.1.1.1).symm
      have kept : ∀ n ∈ rest, (if ended.any (·.profile = m) then x.completeRetire m else x).profile n = s.profile n := by
        intro n mem
        have other : n ≠ m := fun e => absent (e ▸ mem)
        rw [← same n (List.mem_cons_of_mem _ mem)]
        split
        · simp [State.completeRetire_profile, other]
        · rfl
      refine (one.trans (ih _ nodup kept)).congr fun q => ?_
      rw [List.filterMap_cons]
      by_cases h : s.retireEnds ended m = true ∧ (s.profile m).owner = some (.port q)
      · simp only [if_pos h, List.singleton_append]
      · simp only [if_neg h, List.nil_append]
  exact walk profileNumbers s (List.nodup_finRange 32) fun _ _ => rfl

/-! ## Terminations (R28 to R30) -/

theorem State.portsWork_drop (s : State) (ends : Request → Bool) : s.PortsWork (s.drop ends) noNotices := by
  intro q
  rw [State.port_drop]
  rfl

theorem State.portsWork_releaseReservation (s : State) (r : Request) : s.PortsWork (s.releaseReservation r) noNotices :=
  s.portsWork_modSource r fun _ => rfl

theorem State.portsWork_modFlight (s : State) (f : Request → Request) : s.PortsWork (s.modFlight f) noNotices := by
  unfold State.modFlight
  split
  · exact .refl s
  · exact s.portsWork_modPort _ fun _ => rfl
  · exact .of_ports fun _ => rfl

/-- The notices of a termination to a port: REQUEST_ENDED in the order of the live requests where the reason posts it, then
the completed retires. -/
def State.terminationNotices (s : State) (reason : Reason) (ends : Request → Bool) (q : Port) : List Notice :=
  (if reason.posts then (s.live.filter ends).filterMap (·.endNotice reason q) else []) ++
    (s.drop ends).retiredNotices (s.live.filter ends) q

/-- The state after the abandonment of the in-flight request, where it ends. -/
def State.abandonIf (s : State) (ends : Request → Bool) : State :=
  match s.flight with
  | some r => if ends r then s.abandon r else s
  | none => s

theorem State.terminate_eq (s : State) (reason : Reason) (ends : Request → Bool) :
    s.terminate reason ends = (if reason.posts then
        (s.live.filter ends).foldl (·.postEnded reason ·) ((s.abandonIf ends).drop ends)
      else (s.abandonIf ends).drop ends).completeRetires (s.live.filter ends) := rfl

theorem State.abandonIf_cases (s : State) (ends : Request → Bool) :
    s.abandonIf ends = s ∧ s.flightEnds ends = false ∨
      ∃ r, s.flight = some r ∧ ends r = true ∧ s.abandonIf ends = s.abandon r := by
  unfold State.abandonIf State.flightEnds
  cases s.flight with
  | none => exact .inl ⟨rfl, rfl⟩
  | some r =>
    cases h : ends r
    · exact .inl ⟨by simp [h], by simp [h]⟩
    · exact .inr ⟨r, rfl, h, by simp [h]⟩

/-- Whether an abandonment came first or not, the profiles that are dropped are those of the state. -/
theorem State.profile_drop_abandonIf (s : State) (ends : Request → Bool) (n : Fin 32) :
    ((s.abandonIf ends).drop ends).profile n = (s.drop ends).profile n := by
  rcases s.abandonIf_cases ends with ⟨e, -⟩ | ⟨r, -, -, e⟩ <;> rw [e]
  simp only [State.profile_drop, State.abandon_profile, State.abandon_live]

theorem State.profile_terminate_before_retires (s : State) (reason : Reason) (ends : Request → Bool) (n : Fin 32) :
    (if reason.posts then (s.live.filter ends).foldl (·.postEnded reason ·) ((s.abandonIf ends).drop ends)
      else (s.abandonIf ends).drop ends).profile n = (s.drop ends).profile n := by
  split
  · rw [(State.noticesOnly_postEnds _ _ _).profile, s.profile_drop_abandonIf]
  · exact s.profile_drop_abandonIf ends n

theorem State.portsWork_terminate (s : State) (reason : Reason) (ends : Request → Bool) :
    s.PortsWork (s.terminate reason ends) (s.terminationNotices reason ends) := by
  have abandoned : s.PortsWork (s.abandonIf ends) noNotices := by
    rcases s.abandonIf_cases ends with ⟨e, -⟩ | ⟨r, -, -, e⟩ <;> rw [e]
    · exact .refl s
    · exact (s.portsWork_releaseReservation r).trans_quiet (.of_ports fun _ => rfl)
  have posted : ((s.abandonIf ends).drop ends).PortsWork (if reason.posts then
      (s.live.filter ends).foldl (·.postEnded reason ·) ((s.abandonIf ends).drop ends)
        else (s.abandonIf ends).drop ends) fun q =>
        if reason.posts then (s.live.filter ends).filterMap (·.endNotice reason q) else [] := by
    split
    · exact State.portsWork_postEnds _ _ _
    · exact .refl _
  rw [s.terminate_eq]
  refine (((abandoned.trans_quiet (State.portsWork_drop _ ends)).quiet_trans posted).trans
    (State.portsWork_completeRetires _ _)).congr fun q => ?_
  rw [State.terminationNotices, State.retiredNotices_congr (s.profile_terminate_before_retires reason ends)]

/-- A profile after a termination: its reference count falls by the requests that end, and a retire may complete. -/
theorem State.terminate_profile (s : State) (reason : Reason) (ends : Request → Bool) (n : Fin 32) :
    (s.terminate reason ends).profile n =
      if (s.drop ends).retireEnds (s.live.filter ends) n then { (s.drop ends).profile n with state := .claimed }
      else (s.drop ends).profile n := by
  have same := s.profile_terminate_before_retires reason ends n
  rw [s.terminate_eq, State.completeRetires_profile, State.retireEnds_congr same, same]

theorem State.terminate_arbiter (s : State) (reason : Reason) (ends : Request → Bool) :
    (s.terminate reason ends).arbiter = s.arbiter := by
  obtain ⟨t, u, ht, hu, e⟩ := s.terminate_parts reason ends
  rw [e, (State.retiresOnly_completeRetires _ _).arbiter, hu.arbiter, State.arbiter_drop]
  rcases ht with ⟨rfl, -⟩ | ⟨r, -, -, rfl⟩
  · rfl
  · cases hr : r.source <;> simp only [State.abandon, State.releaseReservation, State.modSource, hr] <;> rfl

theorem State.terminate_credit (s : State) (reason : Reason) (ends : Request → Bool) (q : Port) :
    ((s.terminate reason ends).port q).credit = (s.port q).credit := by
  obtain ⟨t, u, ht, hu, e⟩ := s.terminate_parts reason ends
  rw [e, (State.retiresOnly_completeRetires _ _).credit, hu.credit, State.port_drop]
  rcases ht with ⟨rfl, -⟩ | ⟨r, -, -, rfl⟩
  · rfl
  · cases hr : r.source <;> simp only [State.abandon, State.releaseReservation, State.modSource, hr]
    · rw [State.modEngine_port, State.port_modPort]; split <;> simp_all [PortState.drop]
    · rfl

/-- The reservation of the in-flight request is released where it ends; no other moves. -/
theorem State.terminate_reservations (s : State) (reason : Reason) (ends : Request → Bool) (q : Port) :
    ((s.terminate reason ends).port q).reservations = (s.port q).reservations -
      (match s.flight with
        | some r => if ends r = true ∧ r.source = .port q then r.reserves else 0
        | none => 0) := by
  obtain ⟨t, u, ht, hu, e⟩ := s.terminate_parts reason ends
  rw [e, (State.retiresOnly_completeRetires _ _).reservations, hu.reservations, State.port_drop]
  rcases ht with ⟨rfl, stays⟩ | ⟨r, flies, ends', rfl⟩
  · cases flies : t.flight with
    | none => rfl
    | some r =>
      have : ends r = false := by simpa [State.flightEnds, flies] using stays
      simp [this, PortState.drop]
  · simp only [flies, ends', true_and]
    cases hr : r.source <;> simp only [State.abandon, State.releaseReservation, State.modSource, hr]
    · rw [State.modEngine_port, State.port_modPort]
      by_cases same : q = ‹Port› <;> simp [same, PortState.drop, eq_comm]
    · simp [PortState.drop]

/-! ## The end of the request in flight by completion (R28, R29) -/

theorem State.port_handOverDemand (s : State) (f : OutputState → OutputState) (q : Port) :
    (s.handOverDemand f).port q = s.port q := rfl

theorem State.port_refreshDemand (s : State) (q : Port) : s.refreshDemand.port q = s.port q := rfl

theorem State.profile_refreshDemand (s : State) (n : Fin 32) : s.refreshDemand.profile n = s.profile n := rfl

theorem State.monitor_refreshDemand (s : State) : s.refreshDemand.monitor = s.monitor := rfl

theorem State.engine_refreshDemand (s : State) : s.refreshDemand.engine = s.engine := rfl

theorem State.arbiter_refreshDemand (s : State) : s.refreshDemand.arbiter = s.arbiter := rfl

theorem State.flight_refreshDemand (s : State) : s.refreshDemand.flight = s.flight := rfl

theorem State.portsWork_refreshDemand (s : State) : s.PortsWork s.refreshDemand noNotices := .of_ports fun _ => rfl

theorem State.portsWork_finish (s : State) :
    s.PortsWork s.finish ((s.drop (·.isInFlight)).retiredNotices (s.live.filter (·.isInFlight))) := by
  refine State.PortsWork.trans_quiet (.congr (.quiet_trans (.quiet_trans (.of_ports fun _ => rfl)
    (State.portsWork_drop (s.modEngine (·.noFlight)) (·.isInFlight))) (State.portsWork_completeRetires _ _)) fun q => ?_)
    (State.portsWork_refreshDemand _)
  rfl

theorem State.finish_profile (s : State) (n : Fin 32) :
    s.finish.profile n =
      if (s.drop (·.isInFlight)).retireEnds (s.live.filter (·.isInFlight)) n then
        { (s.drop (·.isInFlight)).profile n with state := .claimed }
      else (s.drop (·.isInFlight)).profile n :=
  (State.profile_refreshDemand _ n).trans (State.completeRetires_profile ((s.modEngine (·.noFlight)).drop (·.isInFlight)) _ n)

theorem State.finish_port (s : State) (q : Port) : s.finish.port q = (((s.modEngine (·.noFlight)).drop
    (·.isInFlight)).completeRetires (s.live.filter (·.isInFlight))).port q := State.port_refreshDemand _ q

theorem State.finish_queue (s : State) (q : Port) :
    (s.finish.port q).queue = (s.port q).queue.filter (!·.isInFlight) := by
  rw [s.finish_port, (State.retiresOnly_completeRetires _ _).queue, State.port_drop]
  rfl

theorem State.finish_used (s : State) (q : Port) :
    (s.finish.port q).used = (s.port q).used - (s.port q).queue.countP (·.isInFlight) := by
  rw [s.finish_port, (State.retiresOnly_completeRetires _ _).used, State.port_drop]
  rfl

theorem State.finish_credit (s : State) (q : Port) : (s.finish.port q).credit = (s.port q).credit := by
  rw [s.finish_port, (State.retiresOnly_completeRetires _ _).credit, State.port_drop]
  rfl

theorem State.finish_reservations (s : State) (q : Port) :
    (s.finish.port q).reservations = (s.port q).reservations := by
  rw [s.finish_port, (State.retiresOnly_completeRetires _ _).reservations, State.port_drop]
  rfl

theorem State.finish_monitor (s : State) :
    s.finish.monitor = { s.monitor with queue := s.monitor.queue.filter (!·.isInFlight) } :=
  (State.retiresOnly_completeRetires ((s.modEngine (·.noFlight)).drop (·.isInFlight)) _).monitor

theorem State.finish_engine (s : State) : s.finish.engine = s.engine.noFlight :=
  (State.retiresOnly_completeRetires ((s.modEngine (·.noFlight)).drop (·.isInFlight)) _).engine

theorem State.finish_arbiter (s : State) : s.finish.arbiter = s.arbiter :=
  (State.retiresOnly_completeRetires ((s.modEngine (·.noFlight)).drop (·.isInFlight)) _).arbiter

/-! ## Grants, grant points and the entry to DOWN -/

theorem State.portsWork_grant (s : State) (f : Flight) : s.PortsWork (s.grant f) noNotices := by
  intro q
  have := (s.grant_rest f).2.2.2 q
  rw [this]
  rfl

theorem State.portsWork_refill (s : State) : s.PortsWork s.refill noNotices := by
  intro q
  rw [s.refill_rest.2 q]
  rfl

theorem State.portsWork_grantPoint (s : State) (boundary : Bool) : s.PortsWork (s.grantPoint boundary) noNotices := by
  rcases s.grantPoint_cases boundary with ⟨r, -, e⟩ | ⟨-, ⟨-, e⟩ | ⟨-, ⟨p, -, e⟩ | ⟨-, ⟨p, -, e⟩ | ⟨-, e⟩⟩⟩⟩ <;> rw [e]
  · exact s.portsWork_grant _
  · exact .of_ports fun _ => rfl
  · exact s.portsWork_refill.trans_quiet (.quiet_trans (.of_ports fun _ => rfl) (State.portsWork_grant _ _))
  · exact s.portsWork_refill.trans_quiet (.quiet_trans (.of_ports fun _ => rfl) (State.portsWork_grant _ _))
  · exact s.portsWork_refill.trans_quiet (.of_ports fun _ => rfl)

theorem State.portsWork_kick (s : State) : s.PortsWork s.kick noNotices := by
  rcases s.kick_cases with ⟨-, e⟩ | ⟨-, e⟩ <;> rw [e]
  · exact .refl s
  · exact s.portsWork_grantPoint _

/-- The notices of a request given back at an entry to DOWN: those of the end of a final-marked one. -/
def State.giveBackNotices (s : State) (q : Port) : List Notice :=
  if s.flight.any (·.finalMark) then s.terminationNotices .retired (·.isInFlight) q else []

theorem State.portsWork_giveBack (s : State) : s.PortsWork s.giveBack s.giveBackNotices := by
  rcases s.giveBack_cases with ⟨flies, e⟩ | ⟨r, flies, mark, e⟩ | ⟨r, flies, mark, e⟩ <;> rw [e]
  · exact (State.PortsWork.refl s).congr fun q => by simp [State.giveBackNotices, flies, noNotices]
  · refine ((s.portsWork_terminate _ _).trans_quiet (State.portsWork_refreshDemand _)).congr fun q => ?_
    simp [State.giveBackNotices, flies, mark]
  · refine ((s.portsWork_releaseReservation r).trans_quiet (State.portsWork_modFlight _ _)).congr fun q => ?_
    simp [State.giveBackNotices, flies, mark, noNotices]

theorem State.portsWork_enterDown (s : State) :
    s.PortsWork s.enterDown fun q => s.giveBackNotices q ++ [.engine .down] := by
  have posted : s.giveBack.PortsWork s.enterDown fun _ => [.engine .down] := by
    intro q
    rw [s.enterDown_parts.2.2.2.2 q]
    rfl
  exact s.portsWork_giveBack.trans posted

/-- The notices of a converter that is left free: those of an entry to DOWN where a halt ends. -/
def State.freedNotices (s : State) (q : Port) : List Notice :=
  if s.engine.state = .halting then s.giveBackNotices q ++ [.engine .down] else []

theorem State.portsWork_freed (s : State) (boundary : Bool) : s.PortsWork (s.freed boundary) s.freedNotices := by
  rcases s.freed_cases boundary with ⟨state, e⟩ | ⟨state, e⟩ | ⟨state, e⟩ <;> rw [e]
  · exact (s.portsWork_grantPoint boundary).congr fun q => by simp [State.freedNotices, state, noNotices]
  · exact s.portsWork_enterDown.congr fun q => by simp [State.freedNotices, state]
  · refine (State.PortsWork.refl s).congr fun q => ?_
    rcases state with state | state <;> simp [State.freedNotices, state, noNotices]

theorem State.portsWork_afterTerminations (s : State) (abandoned : Bool) :
    s.PortsWork (s.afterTerminations abandoned) fun q => if abandoned then s.freedNotices q else [] := by
  unfold State.afterTerminations
  cases abandoned
  · exact s.portsWork_kick
  · exact s.portsWork_freed false

/-! ## The monitor -/

theorem State.portsWork_placeSample (s : State) : s.PortsWork s.placeSample noNotices := by
  unfold State.placeSample
  split
  · exact .refl s
  · exact .of_ports fun _ => rfl

theorem State.portsWork_offerZero (s : State) (n : Fin 32) : s.PortsWork (s.offerZero n) noNotices := by
  unfold State.offerZero
  split
  · exact .of_ports fun _ => rfl
  · exact .refl s

/-- OFFSET_STALE to a port in the ageing pass at one profile (R100). -/
def State.staleNotice (s : State) (q : Port) (n : Fin 32) : Option Notice :=
  if (s.profile n).owner = some (.port q) then
    ((s.profile n).record.bind (·.newlyStale s.monitor)).map (.offsetStale n ·)
  else none

theorem State.portsWork_ageProfile (s : State) (n : Fin 32) :
    s.PortsWork (s.ageProfile n) fun q => (s.staleNotice q n).toList := by
  unfold State.ageProfile
  split
  next empty =>
    refine (State.PortsWork.refl s).congr fun q => ?_
    simp [State.staleNotice, empty, noNotices]
  next r stands =>
    have judged : s.PortsWork (match r.newlyStale s.monitor with
        | some criterion => (s.modProfile n fun profile => { profile with record := some (r.aged s.monitor) }).postOwner
            (s.profile n).owner (.offsetStale n criterion)
        | none => s.modProfile n fun profile => { profile with record := some (r.aged s.monitor) }) fun q =>
          (s.staleNotice q n).toList := by
      split
      next criterion onset =>
        refine State.PortsWork.congr (.quiet_trans (.of_ports fun _ => rfl) (State.portsWork_postOwner _ _ _)) fun q => ?_
        simp only [ownerNotice, State.staleNotice, stands, Option.bind_some, onset]
        split <;> rfl
      next fresh =>
        refine (State.PortsWork.of_ports fun _ => rfl).congr fun q => ?_
        simp only [State.staleNotice, stands, Option.bind_some, fresh]
        split <;> rfl
    dsimp only
    split
    · exact judged.trans_quiet (State.portsWork_offerZero _ _)
    · exact judged

end Sys2Proof.Machine
end

section
/-! SUPPORT. The ageing pass of the Calibration Monitor, profile by profile and over the whole table. -/

namespace Sys2Proof.Machine

/-! ## One profile (R99 to R102) -/

theorem OffsetRecord.aged_eq_afterPass (r : OffsetRecord) (m : Monitor) : r.aged m = r.afterPass m := rfl

theorem OffsetRecord.newlyStale_map (r : OffsetRecord) (m : Monitor) (n : Fin 32) :
    (r.newlyStale m).map (.offsetStale n ·) = r.onsetNotice m n := by
  unfold OffsetRecord.newlyStale OffsetRecord.onsetNotice staleByAge staleByTemperature agedBy
  by_cases stale : r.stale = true
  · simp [stale]
  · by_cases age : m.maxAge < min 255 (r.age + 1) <;>
      by_cases delta : m.maxDelta < (m.temperature - r.calTemperature).natAbs <;>
      simp only [stale, age, delta, decide_true, decide_false, if_true, if_false, Bool.false_eq_true] <;> rfl

theorem State.staleNotices_eq (s : State) (q : Port) : s.staleNotices q = (List.finRange 32).filterMap (s.staleNotice q) := by
  unfold State.staleNotices
  congr 1
  funext n
  unfold State.staleNotice
  cases (s.profile n).record with
  | none => rfl
  | some r => simp only [Option.bind_some, OffsetRecord.newlyStale_map]

/-- The zero entries of a monitor queue are below the pool's two (R37). -/
def State.zeroRoom (s : State) : Bool := decide (s.monitor.queue.countP (fun r => decide (r.kind = .zero)) < 2)

/-- The ageing pass at a profile places an automatic ZERO: it qualifies and a place is free (R102, R38). -/
def State.placesZero (s : State) (n : Fin 32) : Bool := s.qualifies n && s.zeroRoom

/-- A profile whose record has been aged and judged. -/
def Profile.aged (profile : Profile) (m : Monitor) : Profile :=
  { profile with record := profile.record.map (·.afterPass m) }

theorem State.modProfile_congr {s : State} {n : Fin 32} {f g : Profile → Profile}
    (agree : f (s.profile n) = g (s.profile n)) : s.modProfile n f = s.modProfile n g := by
  unfold State.modProfile
  rw [show f s.profiles[n.val] = g s.profiles[n.val] from agree]

theorem State.modProfile_id {s : State} {n : Fin 32} {f : Profile → Profile} (same : f (s.profile n) = s.profile n) :
    s.modProfile n f = s := by
  rw [State.modProfile_congr (g := fun profile => profile) same]
  unfold State.modProfile
  rw [Vector.set_getElem_self]

theorem State.offerZero_eq (s : State) (n : Fin 32) (stale : (s.profile n).record.any (·.stale) = true) (t : State)
    (aged : (s.profile n).record = (t.profile n).record.map (·.afterPass t.monitor))
    (rest : s.profile n = { t.profile n with record := (s.profile n).record }) (monitor : s.monitor = t.monitor)
    (outputs : s.outputs = t.outputs) :
    s.offerZero n = if t.placesZero n then s.place n .zero else s := by
  have qualified : t.qualifies n = (decide ((t.profile n).state = .active) && (t.profile n).autoRecal &&
      (!t.monitor.queue.any fun r => decide (r.kind = .zero ∧ r.profile = n)) &&
      !((t.profile n).need.exa && decide ((t.output .exa).state = .lockedOut)) &&
      !((t.profile n).need.exb && decide ((t.output .exb).state = .lockedOut))) := by
    have due : ((t.profile n).record.any fun r => (r.afterPass t.monitor).stale) = true := by
      rw [← stale, aged, Option.any_map]
    unfold State.qualifies
    rw [due, Bool.true_and]
  have accepted : (decide ((s.profile n).state = .active) && (s.profile n).autoRecal && s.acceptsZero n) = t.placesZero n := by
    unfold State.placesZero State.acceptsZero State.needLocked State.zeroRoom
    rw [qualified, rest, monitor, outputs]
    simp only [State.output, PerOutput.get, Bool.decide_and, Bool.not_or]
    ac_rfl
  unfold State.offerZero
  by_cases h : t.placesZero n = true
  · rw [if_pos h, if_pos]
    rw [← accepted] at h
    simpa [and_assoc] using h
  · rw [if_neg h, if_neg]
    rw [← accepted] at h
    simpa [and_assoc] using h

theorem State.offerZero_judged {s u : State} {n : Fin 32} {r : OffsetRecord} (stands : (s.profile n).record = some r)
    (judged : (s.modProfile n (·.aged s.monitor)).NoticesOnly u) :
    (if (r.aged s.monitor).stale then u.offerZero n else u) = if s.placesZero n then u.place n .zero else u := by
  have now : u.profile n = (s.profile n).aged s.monitor := by rw [judged.profile, State.profile_modProfile_self]
  have record : (u.profile n).record = some (r.afterPass s.monitor) := by rw [now, Profile.aged, stands]; rfl
  split
  next stale =>
    exact u.offerZero_eq n (by rw [record]; exact stale) s (by rw [record, stands]; rfl) (by rw [now]; rfl)
      (by rw [judged.monitor]; rfl) (by rw [judged.outputs]; rfl)
  next fresh =>
    have unqualified : s.qualifies n = false := by
      rw [State.qualifies, stands, Option.any_some, show (r.afterPass s.monitor).stale = false from Bool.eq_false_iff.2 fresh]
      simp only [Bool.false_and]
    rw [if_neg (by simp [State.placesZero, unqualified])]

/-- The pass at one profile: its record aged and judged, a notice at most, and an automatic ZERO where one is placed. -/
theorem State.ageProfile_parts (s : State) (n : Fin 32) :
    ∃ u, (s.modProfile n (·.aged s.monitor)).NoticesOnly u ∧
      s.ageProfile n = if s.placesZero n then u.place n .zero else u := by
  unfold State.ageProfile
  split
  next empty =>
    refine ⟨s, ?_, ?_⟩
    · rw [State.modProfile_id (by simp only [Profile.aged, empty, Option.map_none]; rw [← empty])]
      exact .refl s
    · rw [if_neg (by simp [State.placesZero, State.qualifies, empty])]
  next r stands =>
    have aged : (s.modProfile n fun profile => { profile with record := some (r.aged s.monitor) }) =
        s.modProfile n (·.aged s.monitor) := State.modProfile_congr (by rw [Profile.aged, stands]; rfl)
    dsimp only
    rw [aged]
    cases r.newlyStale s.monitor with
    | none => exact ⟨_, .refl _, State.offerZero_judged stands (.refl _)⟩
    | some criterion =>
      exact ⟨_, State.noticesOnly_postOwner _ _ _, State.offerZero_judged stands (State.noticesOnly_postOwner _ _ _)⟩

section

variable (s : State) (n : Fin 32)

theorem State.ageProfile_monitor :
    (s.ageProfile n).monitor = { s.monitor with
      queue := s.monitor.queue ++ if s.placesZero n then [monitorEntry n .zero] else [] } := by
  obtain ⟨u, judged, e⟩ := s.ageProfile_parts n
  rw [e]
  split
  · simp [State.place, judged.monitor]
  · simp [judged.monitor]

theorem State.ageProfile_outputs : (s.ageProfile n).outputs = s.outputs := by
  obtain ⟨u, judged, e⟩ := s.ageProfile_parts n
  rw [e]
  split <;> simp [State.place, judged.outputs]

theorem State.ageProfile_engine : (s.ageProfile n).engine = s.engine := by
  obtain ⟨u, judged, e⟩ := s.ageProfile_parts n
  rw [e]
  split <;> simp [State.place, judged.engine]

theorem State.ageProfile_arbiter : (s.ageProfile n).arbiter = s.arbiter := by
  obtain ⟨u, judged, e⟩ := s.ageProfile_parts n
  rw [e]
  split <;> simp [State.place, judged.arbiter]

theorem State.ageProfile_port (q : Port) : (s.ageProfile n).port q = { s.port q with
    notices := ((s.ageProfile n).port q).notices, lost := ((s.ageProfile n).port q).lost
    alertLow := ((s.ageProfile n).port q).alertLow } := by
  obtain ⟨u, judged, e⟩ := s.ageProfile_parts n
  rw [e]
  split
  · exact judged.ports q
  · exact judged.ports q

theorem State.ageProfile_profile_self :
    (s.ageProfile n).profile n = { (s.profile n).aged s.monitor with
      refCount := (s.profile n).refCount + if s.placesZero n then 1 else 0 } := by
  obtain ⟨u, judged, e⟩ := s.ageProfile_parts n
  rw [e]
  split
  · simp [State.place, judged.profile, Profile.aged]
  · simp [judged.profile, Profile.aged]

theorem State.ageProfile_profile_other {m : Fin 32} (other : m ≠ n) : (s.ageProfile n).profile m = s.profile m := by
  obtain ⟨u, judged, e⟩ := s.ageProfile_parts n
  rw [e]
  split
  · simp [State.place, judged.profile, other]
  · simp [judged.profile, other]

end

/-- The pass at one profile leaves another as qualified as it was. -/
theorem State.ageProfile_qualifies_other (s : State) {n m : Fin 32} (other : m ≠ n) :
    (s.ageProfile n).qualifies m = s.qualifies m := by
  have outputs : ∀ o, (s.ageProfile n).output o = s.output o := by simp [State.output, s.ageProfile_outputs n]
  unfold State.qualifies
  rw [s.ageProfile_monitor n, s.ageProfile_profile_other n other, outputs, outputs, List.any_append]
  have fresh : ((if s.placesZero n then [monitorEntry n .zero] else []).any fun r =>
      decide (r.kind = .zero ∧ r.profile = m)) = false := by
    split <;> simp [monitorEntry, Ne.symm other]
  rw [fresh, Bool.or_false]
  rfl

theorem State.ageProfile_staleNotice_other (s : State) {n m : Fin 32} (other : m ≠ n) (q : Port) :
    (s.ageProfile n).staleNotice q m = s.staleNotice q m := by
  unfold State.staleNotice
  rw [s.ageProfile_monitor n, s.ageProfile_profile_other n other]
  rfl

/-! ## The whole table (R98) -/

/-- The numbers of a list at which the pass places an automatic ZERO: the qualifying ones, in order, as far as the free ZERO
places go. -/
def State.zeroNumbers (s : State) (l : List (Fin 32)) : List (Fin 32) :=
  (l.filter s.qualifies).take (2 - s.monitor.queue.countP fun r => decide (r.kind = .zero))

theorem State.placedZeros_eq (s : State) :
    s.placedZeros = (s.zeroNumbers (List.finRange 32)).map (monitorEntry · .zero) := rfl

theorem State.zeroNumbers_cons (s : State) {n : Fin 32} {rest : List (Fin 32)} (absent : n ∉ rest) :
    s.zeroNumbers (n :: rest) = (if s.placesZero n then [n] else []) ++ (s.ageProfile n).zeroNumbers rest := by
  have kept : rest.filter (s.ageProfile n).qualifies = rest.filter s.qualifies :=
    List.filter_congr fun m mem => s.ageProfile_qualifies_other fun e => absent (e ▸ mem)
  unfold State.zeroNumbers
  rw [kept, s.ageProfile_monitor n]
  by_cases qualified : s.qualifies n = true
  · by_cases room : s.monitor.queue.countP (fun r => decide (r.kind = .zero)) < 2
    · have places : s.placesZero n = true := by simp [State.placesZero, qualified, State.zeroRoom, room]
      have one : (monitorEntry n .zero).kind = .zero := rfl
      simp only [places, if_true, List.countP_append, List.countP_singleton, one, decide_true,
        List.filter_cons_of_pos qualified]
      rw [show 2 - s.monitor.queue.countP (fun r => decide (r.kind = .zero)) =
        (2 - (s.monitor.queue.countP (fun r => decide (r.kind = .zero)) + 1)) + 1 by omega]
      rfl
    · have places : s.placesZero n = false := by simp [State.placesZero, State.zeroRoom, room]
      simp [places, show 2 - s.monitor.queue.countP (fun r => decide (r.kind = .zero)) = 0 by omega]
  · have places : s.placesZero n = false := by simp [State.placesZero, qualified]
    simp [places, List.filter_cons_of_neg qualified]

/-- The pass over a list of numbers: the monitor queue. -/
theorem State.ageAll_monitor (l : List (Fin 32)) (s : State) (nodup : l.Nodup) :
    (l.foldl (·.ageProfile ·) s).monitor =
      { s.monitor with queue := s.monitor.queue ++ (s.zeroNumbers l).map (monitorEntry · .zero) } := by
  induction l generalizing s with
  | nil => simp [State.zeroNumbers]
  | cons n rest ih =>
    obtain ⟨absent, nodup⟩ := List.nodup_cons.1 nodup
    rw [List.foldl_cons, ih _ nodup, s.zeroNumbers_cons absent, s.ageProfile_monitor n]
    split <;> simp

/-- The pass over a list of numbers: a profile. -/
theorem State.ageAll_profile (l : List (Fin 32)) (s : State) (nodup : l.Nodup) (n : Fin 32) :
    (l.foldl (·.ageProfile ·) s).profile n =
      { s.profile n with
        record := if n ∈ l then (s.profile n).record.map (·.afterPass s.monitor) else (s.profile n).record
        refCount := (s.profile n).refCount + (s.zeroNumbers l).count n } := by
  induction l generalizing s with
  | nil => simp [State.zeroNumbers]
  | cons m rest ih =>
    obtain ⟨absent, nodup⟩ := List.nodup_cons.1 nodup
    have policy : ∀ r : OffsetRecord, r.afterPass (s.ageProfile m).monitor = r.afterPass s.monitor := fun r => by
      rw [s.ageProfile_monitor m]
      rfl
    rw [List.foldl_cons, ih _ nodup, s.zeroNumbers_cons absent]
    simp only [policy]
    by_cases same : n = m
    · subst same
      rw [s.ageProfile_profile_self n]
      split <;> (simp [absent, Profile.aged]; try omega)
    · have uncounted : (if s.placesZero m then [m] else []).count n = 0 := by
        split <;> simp [Ne.symm same]
      rw [s.ageProfile_profile_other m same, List.count_append, uncounted, Nat.zero_add]
      simp only [List.mem_cons, same, false_or]

theorem State.ageAll_portsWork (l : List (Fin 32)) (s : State) (nodup : l.Nodup) :
    s.PortsWork (l.foldl (·.ageProfile ·) s) fun q => l.filterMap (s.staleNotice q) := by
  induction l generalizing s with
  | nil => exact .refl s
  | cons n rest ih =>
    obtain ⟨absent, nodup⟩ := List.nodup_cons.1 nodup
    refine ((s.portsWork_ageProfile n).trans (ih _ nodup)).congr fun q => ?_
    have kept : ∀ m ∈ rest, (s.ageProfile n).staleNotice q m = s.staleNotice q m := fun m mem =>
      s.ageProfile_staleNotice_other (ne_of_mem_of_not_mem mem absent) q
    rw [List.filterMap_congr kept, List.filterMap_cons]
    cases s.staleNotice q n <;> rfl

/-- What an operation over a list leaves as it stands, where each of its steps does. -/
theorem State.foldl_read {α β : Type} (f : State → β → State) (g : State → α) (h : ∀ (s : State) x, g (f s x) = g s)
    (l : List β) (s : State) : g (l.foldl f s) = g s := by
  induction l generalizing s with
  | nil => rfl
  | cons x rest ih => rw [List.foldl_cons, ih, h]

section

variable (s : State)

theorem State.ageingPass_monitor :
    s.ageingPass.monitor = { s.monitor with queue := s.monitor.queue ++ s.placedZeros } :=
  State.ageAll_monitor _ s (List.nodup_finRange 32)

theorem State.ageingPass_profile (n : Fin 32) :
    s.ageingPass.profile n =
      { s.profile n with
        record := (s.profile n).record.map (·.afterPass s.monitor)
        refCount := (s.profile n).refCount + s.placedZeros.countP fun r => decide (r.profile = n) } := by
  have placed : s.placedZeros.countP (fun r => decide (r.profile = n)) = (s.zeroNumbers (List.finRange 32)).count n := by
    rw [s.placedZeros_eq, List.countP_map, List.count]
    rfl
  unfold State.ageingPass profileNumbers
  rw [placed, State.ageAll_profile _ s (List.nodup_finRange 32), if_pos (List.mem_finRange n)]

theorem State.portsWork_ageingPass : s.PortsWork s.ageingPass s.staleNotices :=
  (State.ageAll_portsWork _ s (List.nodup_finRange 32)).congr fun q => (s.staleNotices_eq q).symm

theorem State.ageingPass_outputs : s.ageingPass.outputs = s.outputs :=
  State.foldl_read _ (·.outputs) State.ageProfile_outputs _ s

theorem State.ageingPass_engine : s.ageingPass.engine = s.engine :=
  State.foldl_read _ (·.engine) State.ageProfile_engine _ s

theorem State.ageingPass_arbiter : s.ageingPass.arbiter = s.arbiter :=
  State.foldl_read _ (·.arbiter) State.ageProfile_arbiter _ s

/-- The pass moves the notices of a port alone. -/
theorem State.ageingPass_port {α : Type} (f : PortState → α)
    (unmoved : ∀ ps notices lost alertLow, f { ps with notices, lost, alertLow } = f ps) (q : Port) :
    f (s.ageingPass.port q) = f (s.port q) := by
  refine State.foldl_read _ (fun s => f (s.port q)) (fun s n => ?_) _ s
  rw [s.ageProfile_port n q, unmoved]

end

end Sys2Proof.Machine
end

section
/-! PROOF. The ageing pass. -/

namespace Sys2Proof.Proofs
open Sys2Proof Sys2Proof.Machine

/-- Settles O40, by induction over the profile table: the pass at one profile leaves the others as they were, and takes one
ZERO place at most. -/
theorem ageingPassJudgesEveryRecord : Obligations.AgeingPassJudgesEveryRecord := by
  intro s notices
  refine ⟨fun n => ?_, fun q => ?_, ?_⟩
  · rw [s.ageingPass_profile n]
  · exact s.portsWork_ageingPass.posts (notices q).1
  · rw [s.ageingPass_monitor]

end Sys2Proof.Proofs
end

section
/-! SUPPORT. The notice queues and ALERT lines through every act: notices are posted, read and cleared, and the line is
judged again wherever its conditions move (R121, R123, R127). -/

namespace Sys2Proof.Machine

/-! ## One port -/

/-- A notice queue within its capacity whose lost flag goes with a full queue (R123). -/
structure PortState.QueueSound (ps : PortState) : Prop where
  capacity : ps.notices.length ≤ 8
  lost : ps.lost = true → ps.notices.length = 8

theorem PortState.AlertSound.queueSound {ps : PortState} (h : ps.AlertSound) : ps.QueueSound := ⟨h.capacity, h.lost⟩

theorem PortState.QueueSound.post {ps : PortState} (h : ps.QueueSound) (n : Notice) : (ps.post n).QueueSound := by
  have posted := PortState.post_notices ps n h.capacity
  refine ⟨by rw [posted, List.length_take]; omega, fun lost => ?_⟩
  rw [PortState.post_lost, Bool.or_eq_true, decide_eq_true_eq] at lost
  have full : ps.notices.length = 8 := lost.elim h.lost fun above => le_antisymm h.capacity above
  rw [posted, List.length_take, List.length_append, full]
  rfl

theorem PortState.QueueSound.postList {ps : PortState} (h : ps.QueueSound) (new : List Notice) :
    (ps.postList new).QueueSound := by
  induction new generalizing ps with
  | nil => exact h
  | cons n rest ih => exact ih (h.post n)

/-- A judged line stands as its conditions say. -/
theorem PortState.QueueSound.judgeAlert {ps : PortState} (h : ps.QueueSound) : ps.judgeAlert.AlertSound :=
  ⟨h.capacity, h.lost, rfl⟩

theorem PortState.QueueSound.judgeHighWater {ps : PortState} (h : ps.QueueSound) : ps.judgeHighWater.QueueSound := by
  unfold PortState.judgeHighWater
  split
  · exact PortState.QueueSound.post (ps := { ps with highWater := .fired }) ⟨h.capacity, h.lost⟩ _
  · exact h

theorem PortState.AlertSound.writeResult {ps : PortState} (h : ps.AlertSound) (reserved : Bool) (record : ResultRecord) :
    (ps.writeResult reserved record).AlertSound := by
  refine PortState.QueueSound.judgeAlert (PortState.QueueSound.judgeHighWater ?_)
  exact ⟨h.capacity, h.lost⟩

theorem PortState.AlertSound.fetched {ps : PortState} (h : ps.AlertSound) (n : Nat) : (ps.fetched n).AlertSound := by
  refine PortState.QueueSound.judgeAlert ?_
  unfold PortState.rearm
  split
  · exact ⟨h.capacity, h.lost⟩
  · exact ⟨h.capacity, h.lost⟩

theorem PortState.AlertSound.noticesRead {ps : PortState} (h : ps.AlertSound) (n : Nat) : (ps.noticesRead n).AlertSound := by
  have shorter : (ps.notices.drop n).length ≤ 8 := by
    have := h.capacity
    rw [List.length_drop]
    omega
  exact PortState.QueueSound.judgeAlert ⟨shorter, nofun⟩

/-! ## Changes of the ports -/

theorem State.PortsWork.queueSound {s t : State} {new : Port → List Notice} (h : s.PortsWork t new) {q : Port}
    (sound : (s.port q).QueueSound) : (t.port q).QueueSound := by
  rw [h q]
  exact ⟨(sound.postList _).capacity, (sound.postList _).lost⟩

theorem State.PortsWork.noticesSound {s t : State} {new : Port → List Notice} (h : s.PortsWork t new)
    (sound : s.NoticesSound) : t.NoticesSound :=
  t.noticesSound_iff.2 fun q => h.alertSound (s.noticesSound_iff.1 sound q)

theorem State.NoticesSound.of_ports {s t : State} (sound : s.NoticesSound) (same : ∀ q, t.port q = s.port q) :
    t.NoticesSound := (State.PortsWork.of_ports same).noticesSound sound

theorem State.NoticesSound.modPort {s : State} (sound : s.NoticesSound) (p : Port) {f : PortState → PortState}
    (keeps : ∀ ps, PortState.AlertSound ps → (f ps).AlertSound) : (s.modPort p f).NoticesSound := by
  rw [State.noticesSound_iff] at sound ⊢
  intro q
  rw [State.port_modPort]
  split
  · subst q; exact keeps _ (sound _)
  · exact sound q

theorem State.NoticesSound.post {s : State} (sound : s.NoticesSound) (p : Port) (n : Notice) : (s.post p n).NoticesSound :=
  (s.portsWork_post p n).noticesSound sound

theorem State.NoticesSound.postAll {s : State} (sound : s.NoticesSound) (n : Notice) : (s.postAll n).NoticesSound :=
  (s.portsWork_postAll n).noticesSound sound

theorem State.NoticesSound.kick {s : State} (sound : s.NoticesSound) : s.kick.NoticesSound :=
  s.portsWork_kick.noticesSound sound

theorem State.NoticesSound.restartInterval {s : State} (sound : s.NoticesSound) : s.restartInterval.NoticesSound :=
  sound.of_ports fun _ => rfl

theorem State.NoticesSound.placeSample {s : State} (sound : s.NoticesSound) : s.placeSample.NoticesSound :=
  s.portsWork_placeSample.noticesSound sound

theorem State.NoticesSound.writeToRing {s : State} (sound : s.NoticesSound) (r : Request) (record : ResultRecord) :
    (s.writeToRing r record).NoticesSound := by
  unfold State.writeToRing State.modSource
  split
  · refine sound.modPort _ fun ps h => ?_
    have written := h.writeResult (r.run = .contiguous) record
    exact ⟨written.capacity, written.lost, written.alert⟩
  · exact sound

/-! ## The acts of several operations -/

section

variable (s : State)

theorem State.portsWork_modProfile (n : Fin 32) (f : Profile → Profile) : s.PortsWork (s.modProfile n f) noNotices :=
  .of_ports fun _ => rfl

theorem State.portsWork_modEngine (f : Engine → Engine) : s.PortsWork (s.modEngine f) noNotices := .of_ports fun _ => rfl

theorem State.portsWork_modMonitor (f : Monitor → Monitor) : s.PortsWork (s.modMonitor f) noNotices :=
  .of_ports fun _ => rfl

end

theorem State.portsWork_handOverDemand (s : State) (f : OutputState → OutputState) :
    s.PortsWork (s.handOverDemand f) noNotices := .of_ports fun _ => rfl

theorem State.portsWork_markFinal (s : State) (n : Fin 32) : s.PortsWork (s.markFinal n) noNotices := by
  unfold State.markFinal
  split
  · exact s.portsWork_modFlight _
  · exact .refl s

/-- The state in which a retire with live requests ends the queued continuous ones (R15). -/
def State.retireMarked (s : State) (n : Fin 32) : State :=
  (s.modProfile n fun profile => { profile with state := .retiring }).markFinal n

theorem State.portsWork_retireMarked (s : State) (n : Fin 32) : s.PortsWork (s.retireMarked n) noNotices :=
  (s.portsWork_modProfile n _).trans_quiet (State.portsWork_markFinal _ n)

/-- The state in which a retire with live requests tries an idle converter (R15, R53). -/
def State.retireEnded (s : State) (n : Fin 32) : State :=
  ((s.retireMarked n).terminate .retired (Request.endsAtRetire n)).refreshDemand

theorem State.retireBusy_eq (s : State) (n : Fin 32) : s.retireBusy n = (s.retireEnded n).kick := rfl

theorem State.portsWork_retireEnded (s : State) (n : Fin 32) :
    s.PortsWork (s.retireEnded n) ((s.retireMarked n).terminationNotices .retired (Request.endsAtRetire n)) :=
  ((s.portsWork_retireMarked n).quiet_trans (State.portsWork_terminate _ _ _)).trans_quiet
    (State.portsWork_refreshDemand _)

theorem State.portsWork_retireBusy (s : State) (n : Fin 32) :
    s.PortsWork (s.retireBusy n) ((s.retireMarked n).terminationNotices .retired (Request.endsAtRetire n)) := by
  rw [s.retireBusy_eq]
  exact (s.portsWork_retireEnded n).trans_quiet (State.portsWork_kick _)

theorem State.portsWork_enqueue (s : State) (p : Port) (r : Request) : s.PortsWork (s.enqueue p r) noNotices :=
  (s.portsWork_modPort p (f := fun ps => { ps with used := ps.used + 1, queue := ps.queue ++ [r] }) fun _ => rfl).trans_quiet
    (State.portsWork_modProfile _ _ _)

/-- The state in which an accepted SUBMIT tries an idle converter (R40, R53). -/
def State.submitted (s : State) (p : Port) (tag : Byte) (w : Submission) : State :=
  (s.enqueue p (newRequest p tag w)).refreshDemand

theorem State.submit_eq (s : State) (p : Port) (tag : Byte) (w : Submission) :
    s.submit p tag w = (s.submitted p tag w).kick := rfl

theorem State.portsWork_submit (s : State) (p : Port) (tag : Byte) (w : Submission) :
    s.PortsWork (s.submit p tag w) noNotices := by
  rw [s.submit_eq]
  exact ((s.portsWork_enqueue p _).trans_quiet (State.portsWork_refreshDemand _)).trans_quiet (State.portsWork_kick _)

/-- The state in which a cancel frees the converter or tries an idle one (R42, R87). -/
def State.cancelEnded (s : State) (p : Port) (tag : Byte) : State :=
  (s.terminate .cancelled (Request.isTagged p tag)).refreshDemand

theorem State.portsWork_cancelEnded (s : State) (p : Port) (tag : Byte) :
    s.PortsWork (s.cancelEnded p tag) (s.terminationNotices .cancelled (Request.isTagged p tag)) :=
  (s.portsWork_terminate _ _).trans_quiet (State.portsWork_refreshDemand _)

theorem State.cancel_eq (s : State) (p : Port) (tag : Byte) :
    s.cancel p tag = (s.cancelEnded p tag).afterTerminations (s.flightEnds (Request.isTagged p tag)) := rfl

theorem State.portsWork_cancel (s : State) (p : Port) (tag : Byte) : s.PortsWork (s.cancel p tag) fun q =>
    s.terminationNotices .cancelled (Request.isTagged p tag) q ++
      if s.flightEnds (Request.isTagged p tag) then (s.cancelEnded p tag).freedNotices q else [] :=
  (s.portsWork_cancelEnded p tag).trans (State.portsWork_afterTerminations (s.cancelEnded p tag) _)

theorem State.NoticesSound.disown {s : State} (sound : s.NoticesSound) (owner : Option Source) :
    (s.disown owner).NoticesSound := by
  unfold State.disown
  split
  · exact sound.modPort _ fun ps h => ⟨h.capacity, h.lost, h.alert⟩
  · exact sound

/-- The state in which a forced release frees the converter or tries an idle one (R19, R87). -/
def State.forceEnded (s : State) (n : Fin 32) : State :=
  ((((s.erase n).terminate .revoked (Request.names n)).disown (s.profile n).owner).postOwner (s.profile n).owner
    (.profileRevoked n)).refreshDemand

theorem State.forceRelease_eq (s : State) (n : Fin 32) :
    s.forceRelease n = (s.forceEnded n).afterTerminations (s.flightEnds (Request.names n)) := rfl

theorem State.NoticesSound.forceRelease {s : State} (sound : s.NoticesSound) (n : Fin 32) :
    (s.forceRelease n).NoticesSound := by
  have ended : ((s.erase n).terminate .revoked (Request.names n)).NoticesSound :=
    (State.portsWork_terminate _ _ _).noticesSound (sound.of_ports fun _ => rfl)
  exact (State.portsWork_afterTerminations _ _).noticesSound ((State.portsWork_refreshDemand _).noticesSound
    ((State.portsWork_postOwner _ _ _).noticesSound (ended.disown _)))

/-- The notices of a trip that all ports receive (R141). -/
def State.tripNotices (s : State) (o : OutputId) : List Notice :=
  .excitation o .tripped :: if (s.output o).state = .lockedOut then [.excitation o .lockedOut] else []

theorem State.portsWork_postTrip (s : State) (o : OutputId) : s.PortsWork (s.postTrip o) fun _ => s.tripNotices o := by
  unfold State.postTrip State.tripNotices
  dsimp only
  split
  · exact (s.portsWork_postAll _).trans (State.portsWork_postAll _ _)
  · exact s.portsWork_postAll _

/-- The state in which a trip frees the converter or tries an idle one (R140, R87). -/
def State.tripEnded (s : State) (o : OutputId) : State :=
  (((s.modOutput o (·.trip)).terminate .excitationFault (s.needs o)).refreshDemand).postTrip o

theorem State.trip_eq (s : State) (o : OutputId) :
    s.trip o = (s.tripEnded o).afterTerminations (s.flightEnds (s.needs o)) := rfl

theorem State.NoticesSound.trip {s : State} (sound : s.NoticesSound) (o : OutputId) : (s.trip o).NoticesSound := by
  have ended : ((s.modOutput o (·.trip)).terminate .excitationFault (s.needs o)).NoticesSound :=
    (State.portsWork_terminate _ _ _).noticesSound (sound.of_ports fun _ => rfl)
  exact (State.portsWork_afterTerminations _ _).noticesSound ((State.portsWork_postTrip _ o).noticesSound
    ((State.portsWork_refreshDemand _).noticesSound ended))

/-- OFFER_WITHDRAWN to the other party of an offer, where the resetting port is a party to it (R156). -/
def State.withdrawalNotices (s : State) (p q : Port) : List Notice :=
  if s.offer.bind (·.otherParty p) = some q then [.offerWithdrawn p] else []

theorem State.portsWork_withdrawFor (s : State) (p : Port) : s.PortsWork (s.withdrawFor p) (s.withdrawalNotices p) := by
  unfold State.withdrawFor
  split
  next none => exact (State.PortsWork.refl s).congr fun q => by simp [State.withdrawalNotices, none, noNotices]
  next o pending =>
    split
    next party => exact (State.PortsWork.refl s).congr fun q => by simp [State.withdrawalNotices, pending, party, noNotices]
    next other party =>
      refine State.PortsWork.congr (.quiet_trans (.of_ports fun _ => rfl) (State.portsWork_post _ other _)) fun q => ?_
      simp [State.withdrawalNotices, pending, party, eq_comm]

/-- The state in which a port reset frees the converter, where its request was in flight (R129, R87). -/
def State.resetEnded (s : State) (p : Port) : State :=
  (((s.terminate .portReset (Request.isFrom p)).modPort p (·.cleared)).withdrawFor p).handOverDemand (·.vote p false)

/-- The state of a port reset before the ALERT line is judged (R129). -/
def State.resetFreed (s : State) (p : Port) : State :=
  if s.flightEnds (Request.isFrom p) then (s.resetEnded p).freed false else s.resetEnded p

theorem State.resetPort_eq (s : State) (p : Port) : s.resetPort p = (s.resetFreed p).modPort p (·.judgeAlert) := rfl

/-- The notices of a port reset from the withdrawal of the offer to the end of a halt. -/
def State.resetNotices (s : State) (p q : Port) : List Notice :=
  ((s.terminate .portReset (Request.isFrom p)).modPort p (·.cleared)).withdrawalNotices p q ++
    if s.flightEnds (Request.isFrom p) then (s.resetEnded p).freedNotices q else []

theorem State.portsWork_resetFreed (s : State) (p : Port) :
    ((s.terminate .portReset (Request.isFrom p)).modPort p (·.cleared)).PortsWork (s.resetFreed p) (s.resetNotices p) := by
  have ended : ((s.terminate .portReset (Request.isFrom p)).modPort p (·.cleared)).PortsWork (s.resetEnded p) _ :=
    (State.portsWork_withdrawFor _ p).trans_quiet (State.portsWork_handOverDemand _ _)
  refine ended.trans ?_
  unfold State.resetFreed
  split
  · exact State.portsWork_freed _ _
  · exact .refl _

theorem State.NoticesSound.resetPort {s : State} (sound : s.NoticesSound) (p : Port) : (s.resetPort p).NoticesSound := by
  have ended := s.portsWork_terminate .portReset (Request.isFrom p)
  rw [State.noticesSound_iff] at sound ⊢
  intro q
  have cleared : (((s.terminate .portReset (Request.isFrom p)).modPort p (·.cleared)).port q).QueueSound := by
    rw [State.port_modPort]
    split
    · exact ⟨Nat.zero_le _, nofun⟩
    · exact (ended.alertSound (sound q)).queueSound
  rw [State.resetPort_eq, State.port_modPort]
  split
  · subst q
    exact ((s.portsWork_resetFreed p).queueSound cleared).judgeAlert
  next other =>
    refine (s.portsWork_resetFreed p).alertSound ?_
    rw [State.port_modPort, if_neg other]
    exact ended.alertSound (sound q)

/-! ## Results -/

theorem State.portsWork_completeSample (s : State) (value : Int) : ∃ new, s.PortsWork (s.completeSample value) new :=
  ⟨_, (s.portsWork_modMonitor fun m => { m with temperature := value, valid := true }).quiet_trans
    ((State.portsWork_ageingPass _).trans (State.portsWork_finish _))⟩

theorem State.portsWork_rotateFlight (s : State) (r : Request) (f : Request → Request) :
    s.PortsWork (s.rotateFlight r f) noNotices :=
  (s.portsWork_modSource r fun _ => rfl).trans_quiet (.of_ports fun _ => rfl)

/-- PROFILE_RETIRED to a port for the end of the request in flight by completion. -/
def State.finishNotices (s : State) : Port → List Notice :=
  (s.drop (·.isInFlight)).retiredNotices (s.live.filter (·.isInFlight))

theorem State.portsWork_endTurn (s : State) (r : Request) (value : Int) :
    s.PortsWork (s.endTurn r value) fun q => if r.endsAt r.nextDelivered then s.finishNotices q else [] := by
  rcases s.endTurn_cases r value with ⟨ends, e⟩ | ⟨ends, run, e⟩ | ⟨ends, run, e⟩ <;> rw [e]
  · exact s.portsWork_finish.congr fun q => by rw [if_pos ends]; rfl
  · exact (s.portsWork_rotateFlight r _).congr fun q => by simp [ends, noNotices]
  · refine ((s.portsWork_modFlight _).trans_quiet (.of_ports fun _ => rfl)).congr fun q => by simp [ends, noNotices]

theorem State.portsWork_postWindow (s : State) (r : Request) (value : Int) :
    ∃ new, s.PortsWork (s.postWindow r value) new := by
  unfold State.postWindow
  split
  · split
    · exact ⟨_, s.portsWork_post _ _⟩
    · exact ⟨_, .refl s⟩
  · exact ⟨_, .refl s⟩

theorem State.portsWork_afterPeriod (s : State) : ∃ new, s.PortsWork s.afterPeriod new := by
  unfold State.afterPeriod
  split
  · exact ⟨_, s.portsWork_enterDown⟩
  · split
    · exact ⟨_, s.portsWork_freed true⟩
    · exact ⟨_, .refl s⟩

theorem State.NoticesSound.deliver {s : State} (sound : s.NoticesSound) (r : Request) (formed : Formed) :
    (s.deliver r formed).NoticesSound := by
  unfold State.deliver
  dsimp only
  obtain ⟨_, window⟩ := State.portsWork_postWindow
    (s.writeToRing r (r.resultRecord r.nextDelivered
      { (formed.judgeWindow r.window).flags with last := r.endsAt r.nextDelivered } (formed.judgeWindow r.window).value)) r
    (formed.judgeWindow r.window).value
  exact (State.portsWork_endTurn _ r _).noticesSound (window.noticesSound (sound.writeToRing r _))

theorem State.NoticesSound.completeZero {s : State} (sound : s.NoticesSound) (r : Request) (value : Int)
    (overload : Bool) : (s.completeZero r value overload).NoticesSound :=
  (State.portsWork_finish _).noticesSound ((State.portsWork_postOwner _ _ _).noticesSound
    ((sound.writeToRing r _).of_ports fun _ => rfl))

theorem State.NoticesSound.useOutput {s : State} (sound : s.NoticesSound) (r : Request) (step : OpStep) (l : LoadedSetup)
    (raw : Int) (overload : Bool) : (s.useOutput r step l raw overload).NoticesSound := by
  unfold State.useOutput
  split
  case h_1 | h_2 | h_3 | h_4 | h_6 => exact sound.of_ports fun _ => rfl
  case h_5 =>
    unfold State.useResult
    split
    · obtain ⟨_, sample⟩ := s.portsWork_completeSample (formUnchopped r.profile (s.profile r.profile) raw overload).value
      exact sample.noticesSound sound
    · exact sound.deliver r _
  case h_7 =>
    unfold State.chopOutput
    split
    · exact sound.deliver r _
    · exact sound
  case h_8 =>
    unfold State.averageOutput
    dsimp only
    split
    · exact sound.of_ports fun _ => rfl
    · exact sound.completeZero r _ _

theorem State.NoticesSound.endPeriod {s : State} (sound : s.NoticesSound) (raw : Int) (overload : Bool) :
    (s.endPeriod raw overload).NoticesSound := by
  unfold State.endPeriod
  split
  next r step l _ _ _ =>
    have counted : (s.modEngine (·.countPeriod l overload)).NoticesSound := sound.of_ports fun _ => rfl
    obtain ⟨_, after⟩ := State.portsWork_afterPeriod ((s.modEngine (·.countPeriod l overload)).useOutput r step l raw
      ((s.modEngine (·.countPeriod l overload)).engine.spanOverload l))
    exact after.noticesSound (counted.useOutput r step l raw _)
  · exact sound

/-! ## Every act -/

theorem State.NoticesSound.sameCore {s t : State} (same : s.SameCore t) (sound : s.NoticesSound) : t.NoticesSound := by
  intro q
  rw [same.ports q]
  exact sound q

theorem State.NoticesSound.resetWith (straps : Straps) : (State.resetWith straps).NoticesSound := by
  intro q
  have fresh : (State.resetWith straps).port q = .reset := by cases q <;> rfl
  rw [fresh]
  decide

theorem State.NoticesSound.acts {s t : State} {i : Instr} (sound : s.NoticesSound) (act : Acts s i t) :
    t.NoticesSound := by
  cases act with
  | idle => exact sound
  | portReset p => exact sound.resetPort p
  | alertConfig p => exact sound.modPort p fun ps h => PortState.QueueSound.judgeAlert ⟨h.capacity, h.lost⟩
  | claim p b n =>
    have claimed := (s.portsWork_modProfile n fun _ => .claimedBy p).noticesSound sound
    exact claimed.modPort p fun ps h => ⟨h.capacity, h.lost, h.alert⟩
  | release p n => exact ((s.portsWork_modProfile n fun _ => .default).noticesSound sound).disown _
  | write | share | retireNow | exciteVote | setAffinity | setCombine | setExciteTiming | clearLockout | setCalPolicy
  | linger | holdOff | dwell => exact sound.of_ports fun _ => rfl
  | retireBusy p n => exact (s.portsWork_retireBusy n).noticesSound sound
  | submit p f w => exact (s.portsWork_submit p f.tag w).noticesSound sound
  | cancel p tag => exact (s.portsWork_cancel p tag).noticesSound sound
  | fetch p b n => exact (sound.modPort p fun ps h => h.fetched n).kick
  | readNotices p b n => exact sound.modPort p fun ps h => h.noticesRead n
  | engineStart =>
    exact (State.NoticesSound.postAll (s := s.modEngine fun e => { e with state := .starting, startTimer := .running startTime })
      (sound.of_ports fun _ => rfl) (.engine .starting)).of_ports fun _ => rfl
  | haltNow => exact s.portsWork_enterDown.noticesSound sound
  | haltLater =>
    exact State.NoticesSound.postAll (s := s.modEngine fun e => { e with state := .halting })
      (sound.of_ports fun _ => rfl) _
  | setQuota | setWeight | setAllowance => exact sound.modPort _ fun ps h => ⟨h.capacity, h.lost, h.alert⟩
  | forceRelease p n => exact sound.forceRelease n
  | makeOffer p q =>
    have withdrawn : (s.withdrawOther p q).NoticesSound := by
      unfold State.withdrawOther
      split
      · exact sound
      · split
        · exact sound.post _ _
        · exact sound
    exact (withdrawn.post q (.offer p)).of_ports fun _ => rfl
  | handOver p =>
    exact State.NoticesSound.postAll (s := { s with supervisor := p, offer := none, offerTimer := .stopped })
      (sound.of_ports fun _ => rfl) _
  | enterRunning =>
    have running := State.NoticesSound.postAll
      (s := s.modEngine fun e => { e with state := .running, startTimer := .stopped }.settleBreak)
      (sound.of_ports fun _ => rfl) (.engine .running)
    exact (running.restartInterval.placeSample).kick
  | interval => exact (sound.restartInterval.placeSample).kick
  | periodEnd raw overload => exact sound.endPeriod raw overload
  | warmUp o => exact (State.NoticesSound.postAll (s := s.modOutput o (·.becomeReady)) (sound.of_ports fun _ => rfl) _).kick
  | trip o => exact sound.trip o
  | offerLapse o =>
    exact State.NoticesSound.post (s := { s with offer := none, offerTimer := .stopped }) (sound.of_ports fun _ => rfl) _ _

end Sys2Proof.Machine
end

section
/-! PROOF. Notice queues and ALERT lines. -/

namespace Sys2Proof.Proofs
open Sys2Proof Sys2Proof.Machine

/-- Settles O52, act by act: the ports receive notices and else move in queues, slots and credits alone, or their line is
judged again. -/
theorem noticeQueuesStayLawful : Obligations.NoticeQueuesStayLawful := fun _ _ =>
  step_keeps (fun _ _ => State.NoticesSound.sameCore) State.NoticesSound.resetWith fun _ _ _ => State.NoticesSound.acts

end Sys2Proof.Proofs
end

section
/-! SUPPORT. What becomes of the live requests: in every operation that accepts none, requests leave their queues, change
place and marks, and their slots and references follow them (`State.Winds`). -/

namespace Sys2Proof.Machine

/-! ## What a request asks for -/

/-- A request but for its progress: state, delivered count, window side and final mark. -/
def Request.ask (r : Request) : Request := { r with state := .queued, delivered := 0, side := none, finalMark := false }

/-- The number of live requests that name a profile (R8). -/
def State.named (s : State) (n : Fin 32) : Nat := s.live.countP fun r => decide (r.profile = n)

theorem countP_ask (l : List Request) (f : Request → Bool) (unmarked : ∀ r : Request, f r.ask = f r) :
    (l.map Request.ask).countP f = l.countP f := by
  rw [List.countP_map]
  congr 1
  funext r
  exact unmarked r

theorem map_ask_entries (ps : PortState) : ps.entries.map Request.ask = ps.queue.map Request.ask := by
  rw [PortState.entries, List.map_map]
  rfl

/-! ## The relation -/

/-- Between two states no request is accepted: those that leave their queues free their slots and give their references
back, and a retire completes where the last one leaves (R9, R28). -/
structure State.Winds (s t : State) : Prop where
  queue : ∀ q, ((t.port q).queue.map Request.ask).Subperm ((s.port q).queue.map Request.ask)
  used : ∀ q, (t.port q).used = (s.port q).used - ((s.port q).queue.length - (t.port q).queue.length)
  monitor : (t.monitor.queue.map Request.ask).Subperm (s.monitor.queue.map Request.ask)
  refCount : ∀ n, (t.profile n).refCount = (s.profile n).refCount - (s.named n - t.named n)
  state : ∀ n, (t.profile n).state = (s.profile n).state ∨
    (s.profile n).state = .retiring ∧ (t.profile n).state = .claimed ∧ (t.profile n).refCount = 0
  held : ∀ n, (s.profile n).refCount ≠ 0 → (t.profile n).state = .retiring → (t.profile n).refCount ≠ 0

theorem State.live_subperm {s t : State}
    (queue : ∀ q, ((t.port q).queue.map Request.ask).Subperm ((s.port q).queue.map Request.ask))
    (monitor : (t.monitor.queue.map Request.ask).Subperm (s.monitor.queue.map Request.ask)) :
    (t.live.map Request.ask).Subperm (s.live.map Request.ask) := by
  simp only [State.live, List.map_append]
  exact (((queue .a).append (queue .b)).append (queue .c)).append monitor

namespace State.Winds

variable {s t u : State}

theorem live (h : s.Winds t) : (t.live.map Request.ask).Subperm (s.live.map Request.ask) :=
  State.live_subperm h.queue h.monitor

theorem named_le (h : s.Winds t) (n : Fin 32) : t.named n ≤ s.named n := by
  have := h.live.countP_le fun r => decide (r.profile = n)
  rwa [countP_ask _ _ fun _ => rfl, countP_ask _ _ fun _ => rfl] at this

theorem length_le (h : s.Winds t) (q : Port) : (t.port q).queue.length ≤ (s.port q).queue.length := by
  simpa using (h.queue q).length_le

theorem trans (h : s.Winds t) (k : t.Winds u) : s.Winds u where
  queue q := (k.queue q).trans (h.queue q)
  used q := by
    have := h.length_le q
    have := k.length_le q
    rw [k.used q, h.used q]
    omega
  monitor := k.monitor.trans h.monitor
  refCount n := by
    have := h.named_le n
    have := k.named_le n
    rw [k.refCount n, h.refCount n]
    omega
  state n := by
    have later := k.refCount n
    rcases h.state n with a | ⟨a, b, c⟩ <;> rcases k.state n with d | ⟨d, e, f⟩
    · exact .inl (d.trans a)
    · exact .inr ⟨a ▸ d, e, f⟩
    · exact .inr ⟨a, d.trans b, by omega⟩
    · rw [b] at d; cases d
  held n := by
    intro counted retiring
    refine k.held n (h.held n counted ?_) retiring
    · rcases k.state n with d | ⟨-, e, -⟩
      · rw [← d, retiring]
      · rw [e] at retiring; cases retiring

/-- Every ask, and all that a wind moves of the profiles, stands. -/
theorem of_asks (queue : ∀ q, ((t.port q).queue.map Request.ask).Perm ((s.port q).queue.map Request.ask))
    (used : ∀ q, (t.port q).used = (s.port q).used)
    (monitor : (t.monitor.queue.map Request.ask).Perm (s.monitor.queue.map Request.ask))
    (profile : ∀ n, (t.profile n).refCount = (s.profile n).refCount ∧ (t.profile n).state = (s.profile n).state) :
    s.Winds t where
  queue q := (queue q).subperm
  used q := by
    have : (t.port q).queue.length = (s.port q).queue.length := by simpa using (queue q).length_eq
    rw [used q]
    omega
  monitor := monitor.subperm
  refCount n := by
    have less := (State.live_subperm (fun q => (queue q).symm.subperm) monitor.symm.subperm).countP_le
      fun r => decide (r.profile = n)
    rw [countP_ask _ _ fun _ => rfl, countP_ask _ _ fun _ => rfl] at less
    have : s.named n ≤ t.named n := less
    rw [(profile n).1]
    omega
  state n := .inl (profile n).2
  held n := by
    intro counted _
    rwa [(profile n).1]

/-- The queues, the slots and the profiles' lifecycles stand. -/
theorem of_same (queue : ∀ q, (t.port q).queue = (s.port q).queue) (used : ∀ q, (t.port q).used = (s.port q).used)
    (monitor : t.monitor.queue = s.monitor.queue)
    (profile : ∀ n, (t.profile n).refCount = (s.profile n).refCount ∧ (t.profile n).state = (s.profile n).state) :
    s.Winds t :=
  of_asks (fun q => by rw [queue q]) used (by rw [monitor]) profile

theorem refl (s : State) : s.Winds s := of_same (fun _ => rfl) (fun _ => rfl) rfl fun _ => ⟨rfl, rfl⟩

end State.Winds

/-! ## Requests that leave (R28) -/

theorem State.live_filter {s t : State} (ends : Request → Bool)
    (queue : ∀ q, (t.port q).queue = (s.port q).queue.filter (!ends ·))
    (monitor : t.monitor.queue = s.monitor.queue.filter (!ends ·)) : t.live = s.live.filter (!ends ·) := by
  have a := queue .a
  have b := queue .b
  have c := queue .c
  simp only [State.port, PerPort.get] at a b c
  simp only [State.live, a, b, c, monitor, List.filter_append]

theorem countP_split (l : List Request) (f ends : Request → Bool) :
    l.countP f = (l.filter ends).countP f + (l.filter (!ends ·)).countP f := by
  induction l with
  | nil => rfl
  | cons r rest ih =>
    cases e : ends r <;> simp [e, List.countP_cons, ih] <;> omega

/-- Requests leave every queue, their slots and references follow, and their end completes retires: a wind. -/
theorem State.winds_of_ended {s t : State} (ends : Request → Bool)
    (queue : ∀ q, (t.port q).queue = (s.port q).queue.filter (!ends ·))
    (used : ∀ q, (t.port q).used = (s.port q).used - (s.port q).queue.countP ends)
    (monitor : t.monitor.queue = s.monitor.queue.filter (!ends ·))
    (profile : ∀ n, t.profile n = if (s.drop ends).retireEnds (s.live.filter ends) n then
      { (s.drop ends).profile n with state := .claimed } else (s.drop ends).profile n) : s.Winds t := by
  have live := State.live_filter ends queue monitor
  have dropped : ∀ n, (t.profile n).refCount = (s.profile n).refCount - (s.live.filter ends).countP fun r =>
      decide (r.profile = n) := fun n => by rw [profile n]; split <;> rw [State.profile_drop]
  have gone : ∀ n, s.named n = (s.live.filter ends).countP (fun r => decide (r.profile = n)) + t.named n := fun n => by
    rw [State.named, countP_split s.live _ ends, ← live]
    rfl
  refine ⟨fun q => ?_, fun q => ?_, ?_, fun n => ?_, fun n => ?_, fun n => ?_⟩
  · rw [queue q]
    exact (List.filter_sublist.map _).subperm
  · have split := countP_split (s.port q).queue (fun _ => true) ends
    simp only [List.countP_true] at split
    rw [used q, queue q, List.countP_eq_length_filter]
    omega
  · rw [monitor]
    exact (List.filter_sublist.map _).subperm
  · have := gone n
    rw [dropped n]
    omega
  · have := dropped n
    rw [profile n]
    split
    next completes =>
      simp only [State.retireEnds, Bool.and_eq_true, decide_eq_true_eq] at completes
      exact .inr ⟨by simpa [State.profile_drop] using completes.1.2, rfl, completes.2⟩
    · exact .inl (by rw [State.profile_drop])
  · intro counted retiring none
    rw [dropped n] at none
    rw [profile n] at retiring
    split at retiring
    · cases retiring
    next stays =>
      apply stays
      have some : 0 < (s.live.filter ends).countP fun r => decide (r.profile = n) := by omega
      obtain ⟨r, mem, named⟩ := List.countP_pos_iff.1 some
      simp only [State.retireEnds, Bool.and_eq_true, decide_eq_true_eq, List.any_eq_true]
      refine ⟨⟨⟨r, mem, by simpa using named⟩, retiring⟩, ?_⟩
      rw [State.profile_drop]
      exact none

theorem State.winds_terminate (s : State) (reason : Reason) (ends : Request → Bool) : s.Winds (s.terminate reason ends) :=
  State.winds_of_ended ends (s.terminate_queue reason ends) (s.terminate_used reason ends)
    (by rw [s.terminate_monitor]) (s.terminate_profile reason ends)

theorem State.winds_finish (s : State) : s.Winds s.finish :=
  State.winds_of_ended (·.isInFlight) s.finish_queue s.finish_used (by rw [s.finish_monitor]) s.finish_profile

/-! ## Operations that leave the asks -/

theorem State.winds_modPort (s : State) (p : Port) {f : PortState → PortState}
    (asks : ∀ ps, ((f ps).queue.map Request.ask).Perm (ps.queue.map Request.ask)) (used : ∀ ps, (f ps).used = ps.used) :
    s.Winds (s.modPort p f) := by
  refine .of_asks (fun q => ?_) (fun q => ?_) (.refl _) fun _ => ⟨rfl, rfl⟩ <;> rw [State.port_modPort] <;> split
  · subst q; exact asks _
  · exact .refl _
  · subst q; exact used _
  · rfl

theorem State.winds_mapPorts (s : State) {f : PortState → PortState} (queue : ∀ ps, (f ps).queue = ps.queue)
    (used : ∀ ps, (f ps).used = ps.used) : s.Winds (s.mapPorts f) :=
  .of_same (fun q => by rw [State.port_mapPorts, queue]) (fun q => by rw [State.port_mapPorts, used]) rfl fun _ => ⟨rfl, rfl⟩

theorem State.winds_modSource (s : State) (r : Request) {f : PortState → PortState}
    (asks : ∀ ps, ((f ps).queue.map Request.ask).Perm (ps.queue.map Request.ask)) (used : ∀ ps, (f ps).used = ps.used) :
    s.Winds (s.modSource r f) := by
  unfold State.modSource
  split
  · exact s.winds_modPort _ asks used
  · exact .refl s

theorem State.winds_modProfile (s : State) (n : Fin 32) {f : Profile → Profile}
    (same : ∀ profile, (f profile).refCount = profile.refCount ∧ (f profile).state = profile.state) :
    s.Winds (s.modProfile n f) := by
  refine .of_same (fun _ => rfl) (fun _ => rfl) rfl fun m => ?_
  by_cases e : m = n
  · subst e; rw [State.profile_modProfile_self]; exact same _
  · rw [State.profile_modProfile_other _ e]; exact ⟨rfl, rfl⟩

theorem State.winds_modEngine (s : State) (f : Engine → Engine) : s.Winds (s.modEngine f) :=
  .of_same (fun _ => rfl) (fun _ => rfl) rfl fun _ => ⟨rfl, rfl⟩

theorem State.winds_modArbiter (s : State) (f : Arbiter → Arbiter) : s.Winds (s.modArbiter f) :=
  .of_same (fun _ => rfl) (fun _ => rfl) rfl fun _ => ⟨rfl, rfl⟩

theorem State.winds_modMonitor (s : State) {f : Monitor → Monitor}
    (asks : ((f s.monitor).queue.map Request.ask).Perm (s.monitor.queue.map Request.ask)) : s.Winds (s.modMonitor f) :=
  .of_asks (fun _ => .refl _) (fun _ => rfl) asks fun _ => ⟨rfl, rfl⟩

theorem State.winds_modOutput (s : State) (o : OutputId) (f : OutputState → OutputState) : s.Winds (s.modOutput o f) :=
  .of_same (fun _ => rfl) (fun _ => rfl) rfl fun _ => ⟨rfl, rfl⟩

theorem State.winds_handOverDemand (s : State) (f : OutputState → OutputState) : s.Winds (s.handOverDemand f) :=
  .of_same (fun _ => rfl) (fun _ => rfl) rfl fun _ => ⟨rfl, rfl⟩

theorem State.winds_refreshDemand (s : State) : s.Winds s.refreshDemand := s.winds_handOverDemand id

theorem State.NoticesOnly.winds {s t : State} (h : s.NoticesOnly t) : s.Winds t :=
  .of_same h.queue h.used (by rw [h.monitor]) fun n => by rw [h.profile n]; exact ⟨rfl, rfl⟩

theorem map_ask_modHead (f : Request → Request) (kept : ∀ r, (f r).ask = r.ask) (l : List Request) :
    (modHead f l).map Request.ask = l.map Request.ask := by
  cases l <;> simp [modHead, kept]

theorem map_ask_where (f : Request → Request) (kept : ∀ r, (f r).ask = r.ask) (which : Request → Prop)
    [DecidablePred which] (l : List Request) :
    (l.map fun r => if which r then f r else r).map Request.ask = l.map Request.ask := by
  rw [List.map_map]
  refine List.map_congr_left fun r _ => ?_
  simp only [Function.comp_apply]
  split
  · exact kept r
  · rfl

theorem State.winds_modFlight (s : State) {f : Request → Request} (kept : ∀ r, (f r).ask = r.ask) :
    s.Winds (s.modFlight f) := by
  unfold State.modFlight
  split
  · exact .refl s
  · exact s.winds_modPort _ (fun ps => by rw [map_ask_modHead f kept]) fun _ => rfl
  · exact s.winds_modMonitor (by rw [map_ask_where f kept])

theorem State.winds_rotateFlight (s : State) (r : Request) {f : Request → Request} (kept : ∀ r, (f r).ask = r.ask) :
    s.Winds (s.rotateFlight r f) := by
  refine .trans (s.winds_modSource r (f := fun ps => { ps with queue := rotate f ps.queue }) (fun ps => ?_) fun _ => rfl)
    (State.winds_modEngine _ _)
  cases ps.queue with
  | nil => exact .refl _
  | cons head rest =>
    simp only [rotate, List.map_append, List.map_cons, List.map_nil, kept]
    exact List.perm_append_comm

theorem State.winds_releaseReservation (s : State) (r : Request) : s.Winds (s.releaseReservation r) :=
  s.winds_modSource r (fun _ => .refl _) fun _ => rfl

theorem State.winds_grant (s : State) (f : Flight) : s.Winds (s.grant f) := by
  cases flies : (s.modEngine fun e => { e with inFlight := some f }).flight with
  | none => rw [s.grant_none f flies]; exact .refl s
  | some r =>
    rw [s.grant_some f r flies]
    refine .trans (.trans (.trans (s.winds_modEngine _) (State.winds_modFlight _ ?_)) (State.winds_modSource _ r ?_ ?_))
      (State.winds_modEngine _ _)
    · exact fun _ => rfl
    · exact fun _ => .refl _
    · exact fun _ => rfl

theorem State.winds_refill (s : State) : s.Winds s.refill := by
  unfold State.refill
  split
  · exact .refl s
  · exact s.winds_mapPorts (fun _ => rfl) fun _ => rfl

theorem State.winds_grantPoint (s : State) (boundary : Bool) : s.Winds (s.grantPoint boundary) := by
  rcases s.grantPoint_cases boundary with ⟨r, -, e⟩ | ⟨-, ⟨-, e⟩ | ⟨-, ⟨p, -, e⟩ | ⟨-, ⟨p, -, e⟩ | ⟨-, e⟩⟩⟩⟩ <;> rw [e]
  · exact s.winds_grant _
  · exact s.winds_modEngine _
  · exact s.winds_refill.trans ((State.winds_modArbiter _ _).trans (State.winds_grant _ _))
  · exact s.winds_refill.trans ((State.winds_modArbiter _ _).trans (State.winds_grant _ _))
  · exact s.winds_refill.trans (State.winds_modEngine _ _)

theorem State.winds_kick (s : State) : s.Winds s.kick := by
  rcases s.kick_cases with ⟨-, e⟩ | ⟨-, e⟩ <;> rw [e]
  · exact .refl s
  · exact s.winds_grantPoint _

theorem State.winds_giveBack (s : State) : s.Winds s.giveBack := by
  rcases s.giveBack_cases with ⟨-, e⟩ | ⟨r, -, -, e⟩ | ⟨r, -, -, e⟩ <;> rw [e]
  · exact .refl s
  · exact (s.winds_terminate _ _).trans (State.winds_refreshDemand _)
  · exact .trans (s.winds_releaseReservation r) (State.winds_modFlight _ (f := fun r => { r with state := .queued }) fun _ => rfl)

theorem State.winds_enterDown (s : State) : s.Winds s.enterDown :=
  (s.winds_giveBack.trans ((State.winds_modEngine _ _).trans (State.noticesOnly_postAll _ _).winds)).trans
    (.of_same (fun _ => rfl) (fun _ => rfl) rfl fun _ => ⟨rfl, rfl⟩)

theorem State.winds_freed (s : State) (boundary : Bool) : s.Winds (s.freed boundary) := by
  rcases s.freed_cases boundary with ⟨-, e⟩ | ⟨-, e⟩ | ⟨-, e⟩ <;> rw [e]
  · exact s.winds_grantPoint _
  · exact s.winds_enterDown
  · exact .refl s

theorem State.winds_afterTerminations (s : State) (abandoned : Bool) : s.Winds (s.afterTerminations abandoned) := by
  cases abandoned
  · exact s.winds_kick
  · exact s.winds_freed _

theorem State.winds_writeToRing (s : State) (r : Request) (record : ResultRecord) : s.Winds (s.writeToRing r record) := by
  refine s.winds_modSource r (fun ps => ?_) fun ps => ?_
  · obtain ⟨-, -, -, queue, -⟩ := ps.writeResult_parts (r.run = .contiguous) record
    rw [PortState.charge, queue]
  · obtain ⟨-, -, -, -, used, -⟩ := ps.writeResult_parts (r.run = .contiguous) record
    exact used

end Sys2Proof.Machine
end

section
/-! SUPPORT. What every act makes of the live requests and the profiles' lifecycles, in six forms (`State.Deals`), and the
laws that follow: reference counts, retires, the slot pool and the monitor queue. -/

namespace Sys2Proof.Machine

/-! ## The forms -/

/-- What an act does to the live requests and the lifecycles of their profiles: no more than a wind; or a wind after the
command of one profile, a forced release, an accepted request, a placed sample or an ageing pass. -/
inductive State.Deals (s : State) : Option (Fin 32) → State → Prop
  | winds {t : State} : s.Winds t → s.Deals none t
  | lifecycle {t : State} (n : Fin 32) (f : Profile → Profile) : n ≠ 0 →
      ((f (s.profile n)).refCount = (s.profile n).refCount ∨ (s.profile n).state = .free ∧ (f (s.profile n)).refCount = 0) →
      ((f (s.profile n)).state = .free ∨ (f (s.profile n)).state = .claimed → (f (s.profile n)).refCount = 0) →
      ((f (s.profile n)).state = .retiring → (f (s.profile n)).refCount ≠ 0) →
      (s.modProfile n f).Winds t → s.Deals (some n) t
  | erases {t : State} (n : Fin 32) : n ≠ 0 → ((s.erase n).terminate .revoked (Request.names n)).Winds t →
      s.Deals (some n) t
  | submits {t : State} (p : Port) (tag : Byte) (w : Submission) : s.submitRefusal p tag w = none →
      (s.enqueue p (newRequest p tag w)).Winds t → s.Deals none t
  | samples {t : State} (u : State) : s.Winds u → (∀ n, u.profile n = s.profile n) → u.monitor.queue = s.monitor.queue →
      u.monitor.queue.any (·.kind = .measure) = false → (u.place 0 .measure).Winds t → s.Deals none t
  | passes {t : State} (u : State) : s.Winds u → (∀ n, u.profile n = s.profile n) → u.monitor.queue = s.monitor.queue →
      u.ageingPass.Winds t → s.Deals none t

theorem State.Deals.trans_winds {s t u : State} {n : Option (Fin 32)} (h : s.Deals n t) (k : t.Winds u) : s.Deals n u := by
  cases h with
  | winds w => exact .winds (w.trans k)
  | lifecycle n f user count empty held w => exact .lifecycle n f user count empty held (w.trans k)
  | erases n user w => exact .erases n user (w.trans k)
  | submits p tag w accepted wind => exact .submits p tag w accepted (wind.trans k)
  | samples v before profiles queue none w => exact .samples v before profiles queue none (w.trans k)
  | passes v before profiles queue w => exact .passes v before profiles queue (w.trans k)

theorem State.profile_enqueue (s : State) (p : Port) (r : Request) (n : Fin 32) :
    (s.enqueue p r).profile n = { s.profile n with
      refCount := (s.profile n).refCount + if n = r.profile then 1 else 0 } := by
  unfold State.enqueue
  by_cases same : n = r.profile
  · subst same; simp
  · simp [State.profile_modProfile_other _ same, same]

theorem State.profile_place (s : State) (n : Fin 32) (kind : Kind) (m : Fin 32) :
    (s.place n kind).profile m = { s.profile m with refCount := (s.profile m).refCount + if m = n then 1 else 0 } := by
  unfold State.place
  by_cases same : m = n
  · subst same; simp
  · simp [State.profile_modProfile_other _ same, same]

/-- The profile of a number whose command the instruction is; a claim may be of any. -/
def TouchesProfile (i : Instr) (n : Fin 32) : Prop :=
  (∃ p b, i = .profileClaim p b) ∨ (∃ p f, i = .profileWrite p f ∧ f.number = unsigned8 n.val) ∨
    (∃ p, i = .profileRetire p (unsigned8 n.val)) ∨ (∃ p, i = .profileRelease p (unsigned8 n.val)) ∨
    ∃ p, i = .forceRelease p (unsigned8 n.val)

/-- The lifecycle of a profile that the act does not touch moves by a completed retire alone (R9). -/
theorem State.Deals.state {s t : State} {touched : Option (Fin 32)} (d : s.Deals touched t) {n : Fin 32}
    (untouched : touched ≠ some n) : (t.profile n).state = (s.profile n).state ∨
      (s.profile n).state = .retiring ∧ (t.profile n).state = .claimed ∧ (t.profile n).refCount = 0 := by
  cases d with
  | winds w => exact w.state n
  | lifecycle m f user count empty held w =>
    have := w.state n
    rwa [State.profile_modProfile_other _ fun e => untouched (by rw [e])] at this
  | erases m user w =>
    have := ((State.winds_terminate _ _ _).trans w).state n
    rwa [State.erase, State.profile_modProfile_other _ fun e => untouched (by rw [e])] at this
  | submits p tag w accepted wind =>
    have := wind.state n
    rwa [s.profile_enqueue] at this
  | samples u before profiles queue none w =>
    have := w.state n
    rw [← profiles n]
    rwa [u.profile_place] at this
  | passes u before profiles queue w =>
    have := w.state n
    rw [← profiles n]
    simpa [State.ageingPass_profile] using this

/-! ## Every act in its form -/

/-- A sample is placed, where none stands in the monitor queue. -/
theorem State.deals_placeSample {s u : State} (before : s.Winds u) (profiles : ∀ n, u.profile n = s.profile n)
    (queue : u.monitor.queue = s.monitor.queue) : s.Deals none u.placeSample := by
  unfold State.placeSample
  split
  · exact .winds before
  next none => exact .samples u before profiles queue (by simpa using none) (State.winds_refreshDemand _)

theorem State.winds_endTurn (s : State) (r : Request) (value : Int) : s.Winds (s.endTurn r value) := by
  rcases s.endTurn_cases r value with ⟨-, e⟩ | ⟨-, -, e⟩ | ⟨-, -, e⟩ <;> rw [e]
  · exact s.winds_finish
  · exact s.winds_rotateFlight r fun _ => rfl
  · exact .trans (s.winds_modFlight (f := (·.after value)) fun _ => rfl) (State.winds_modEngine _ _)

theorem State.noticesOnly_postWindow (s : State) (r : Request) (value : Int) : s.NoticesOnly (s.postWindow r value) := by
  unfold State.postWindow
  split
  · split
    · exact s.noticesOnly_post _ _
    · exact .refl s
  · exact .refl s

theorem State.winds_deliver (s : State) (r : Request) (formed : Formed) : s.Winds (s.deliver r formed) :=
  .trans (.trans (s.winds_writeToRing r _) (State.noticesOnly_postWindow _ r _).winds) (State.winds_endTurn _ r _)

theorem State.winds_writeRecord (s : State) (r : Request) (value : Int) : s.Winds (s.writeRecord r value) :=
  .trans (s.winds_modProfile r.profile
    (f := fun profile => { profile with record := some (s.monitor.freshRecord value) }) fun _ => ⟨rfl, rfl⟩)
    (State.noticesOnly_postOwner _ _ _).winds

theorem State.winds_completeZero (s : State) (r : Request) (value : Int) (overload : Bool) :
    s.Winds (s.completeZero r value overload) :=
  .trans (.trans (s.winds_writeToRing r _) (State.winds_writeRecord _ r _)) (State.winds_finish _)

/-- The use of a period's output completes a temperature sample, or accepts no request. -/
theorem State.useOutput_cases (s : State) (r : Request) (step : OpStep) (l : LoadedSetup) (raw : Int) (overload : Bool) :
    s.Winds (s.useOutput r step l raw overload) ∨
      ∃ value, r.source = .monitor ∧ step = .output ∧ s.useOutput r step l raw overload = s.completeSample value := by
  cases step with
  | settling | chopPlusSettling | chopMinusSettling | zeroSettling => exact .inl (s.winds_modEngine (·.advance l _))
  | chopPlusOutput => exact .inl (s.winds_modEngine (·.swapPhase l raw overload))
  | output =>
    cases source : r.source with
    | monitor =>
      refine .inr ⟨(formUnchopped r.profile (s.profile r.profile) raw overload).value, rfl, rfl, ?_⟩
      simp only [State.useOutput, State.useResult, source]
    | port p =>
      refine .inl ?_
      simp only [State.useOutput, State.useResult, source]
      exact s.winds_deliver r _
  | chopMinusOutput =>
    refine .inl ?_
    simp only [State.useOutput, State.chopOutput]
    split
    · exact s.winds_deliver r _
    · exact .refl s
  | zeroAveraging =>
    refine .inl ?_
    simp only [State.useOutput, State.averageOutput]
    split
    · exact s.winds_modEngine _
    · exact s.winds_completeZero r _ _

theorem State.winds_afterPeriod (s : State) : s.Winds s.afterPeriod := by
  unfold State.afterPeriod
  split
  · exact s.winds_enterDown
  · split
    · exact s.winds_freed true
    · exact .refl s

theorem State.deals_endPeriod (s : State) (raw : Int) (overload : Bool) : s.Deals none (s.endPeriod raw overload) := by
  unfold State.endPeriod
  split
  next r step l _ _ _ =>
    refine State.Deals.trans_winds ?_ (State.winds_afterPeriod _)
    rcases (s.modEngine (·.countPeriod l overload)).useOutput_cases r step l raw
      ((s.modEngine (·.countPeriod l overload)).engine.spanOverload l) with used | ⟨value, -, -, sample⟩
    · exact .winds ((s.winds_modEngine _).trans used)
    · rw [sample]
      refine .passes ((s.modEngine (·.countPeriod l overload)).modMonitor fun m =>
        { m with temperature := value, valid := true }) ?_ (fun _ => rfl) rfl (State.winds_finish _)
      exact (s.winds_modEngine _).trans (State.winds_modMonitor _ (.refl _))
  · exact .winds (.refl s)

theorem State.winds_disown (s : State) (owner : Option Source) : s.Winds (s.disown owner) := by
  unfold State.disown
  split
  · exact s.winds_modPort _ (fun _ => .refl _) fun _ => rfl
  · exact .refl s

theorem State.winds_markFinal (s : State) (n : Fin 32) : s.Winds (s.markFinal n) := by
  unfold State.markFinal
  split
  · exact s.winds_modFlight fun _ => rfl
  · exact .refl s

/-- The supervisor and the offer are no one's work. -/
theorem State.winds_party (s : State) (supervisor : Port) (offer : Option Offer) (offerTimer : Timer) :
    s.Winds { s with supervisor, offer, offerTimer } := .of_same (fun _ => rfl) (fun _ => rfl) rfl fun _ => ⟨rfl, rfl⟩

theorem State.winds_withdrawFor (s : State) (p : Port) : s.Winds (s.withdrawFor p) := by
  unfold State.withdrawFor
  split
  · exact .refl s
  · split
    · exact .refl s
    · exact .trans (s.winds_party s.supervisor none .stopped) (State.noticesOnly_post _ _ _).winds

theorem State.winds_resetPort (s : State) (p : Port) : s.Winds (s.resetPort p) := by
  have ended : s.Winds (s.resetEnded p) :=
    .trans (.trans (.trans (s.winds_terminate .portReset (Request.isFrom p))
      (State.winds_modPort _ p (f := (·.cleared)) (fun _ => .refl _) fun _ => rfl)) (State.winds_withdrawFor _ p))
      (State.winds_handOverDemand _ _)
  have freed : s.Winds (s.resetFreed p) := by
    unfold State.resetFreed
    split
    · exact ended.trans (State.winds_freed _ _)
    · exact ended
  exact freed.trans (State.winds_modPort _ p (f := (·.judgeAlert)) (fun _ => .refl _) fun _ => rfl)

theorem State.winds_postTrip (s : State) (o : OutputId) : s.Winds (s.postTrip o) := by
  unfold State.postTrip
  dsimp only
  split
  · exact ((s.noticesOnly_postAll _).trans (State.noticesOnly_postAll _ _)).winds
  · exact (s.noticesOnly_postAll _).winds

theorem State.winds_withdrawOther (s : State) (p target : Port) : s.Winds (s.withdrawOther p target) := by
  unfold State.withdrawOther
  split
  · exact .refl s
  · split
    · exact (s.noticesOnly_post _ _).winds
    · exact .refl s

/-- Every act in its form, and the profile that it touches. -/
theorem Acts.deals {s t : State} {i : Instr} (act : Acts s i t) :
    ∃ touched, s.Deals touched t ∧ ∀ n, touched = some n → TouchesProfile i n := by
  have plain : ∀ {u : State}, s.Deals none u → ∃ touched, s.Deals touched u ∧ ∀ n, touched = some n → TouchesProfile i n :=
    fun d => ⟨none, d, nofun⟩
  have wind : ∀ {u : State}, s.Winds u → ∃ touched, s.Deals touched u ∧ ∀ n, touched = some n → TouchesProfile i n :=
    fun w => plain (.winds w)
  cases act with
  | idle => exact wind (.refl s)
  | portReset p => exact wind (s.winds_resetPort p)
  | alertConfig p | readNotices p | setQuota p q | setWeight p q | setAllowance p q =>
    exact wind (s.winds_modPort _ (fun _ => .refl _) fun _ => rfl)
  | claim p b n user free =>
    refine ⟨some n, .lifecycle n (fun _ => .claimedBy p) user (.inr ⟨free, rfl⟩) (fun _ => rfl) nofun
      (State.winds_modPort _ p (f := fun ps => { ps with owned := ps.owned + 1 }) (fun _ => .refl _) fun _ => rfl), ?_⟩
    exact fun _ _ => .inl ⟨p, b, rfl⟩
  | write p f n w user code fields consistent state owner count =>
    refine ⟨some n, .lifecycle n (·.written w) user (.inl rfl) nofun nofun (.refl _), ?_⟩
    rintro m ⟨⟩
    exact .inr (.inl ⟨p, f, rfl, code⟩)
  | share p set b n user state owner =>
    exact wind (s.winds_modProfile n fun _ => ⟨rfl, rfl⟩)
  | retireNow p n user active owner count =>
    refine ⟨some n, .lifecycle n (fun profile => { profile with state := .claimed }) user (.inl rfl) (fun _ => count) nofun
      (.refl _), ?_⟩
    rintro m ⟨⟩
    exact .inr (.inr (.inl ⟨p, rfl⟩))
  | retireBusy p n user active owner count =>
    refine ⟨some n, .lifecycle n (fun profile => { profile with state := .retiring }) user (.inl rfl)
      (by rintro (h | h) <;> cases h) (fun _ => Nat.ne_of_gt count) ?_, ?_⟩
    · exact .trans (.trans (.trans (State.winds_markFinal _ n) (State.winds_terminate _ _ _)) (State.winds_refreshDemand _))
        (State.winds_kick _)
    · rintro m ⟨⟩
      exact .inr (.inr (.inl ⟨p, rfl⟩))
  | release p n user state owner count =>
    refine ⟨some n, .lifecycle n (fun _ => .default) user (.inl count.symm) (fun _ => rfl) nofun (State.winds_disown _ _), ?_⟩
    rintro m ⟨⟩
    exact .inr (.inr (.inr (.inl ⟨p, rfl⟩)))
  | submit p f w fields accepted =>
    exact plain (.submits p f.tag w accepted (.trans (State.winds_refreshDemand _) (State.winds_kick _)))
  | cancel p tag =>
    exact wind (.trans (.trans (s.winds_terminate _ _) (State.winds_refreshDemand _)) (State.winds_afterTerminations _ _))
  | fetch p b n =>
    refine wind (.trans (s.winds_modPort p (fun ps => ?_) fun ps => ?_) (State.winds_kick _))
    · unfold PortState.fetched PortState.rearm
      split <;> exact .refl _
    · unfold PortState.fetched PortState.rearm
      split <;> rfl
  | exciteVote | setCombine | setExciteTiming | clearLockout | linger | holdOff | dwell =>
    exact wind (s.winds_modOutput _ _)
  | engineStart =>
    exact wind (.trans (.trans (s.winds_modEngine _) (State.noticesOnly_postAll _ (.engine .starting)).winds)
      (.of_same (fun _ => rfl) (fun _ => rfl) rfl fun _ => ⟨rfl, rfl⟩))
  | haltNow => exact wind s.winds_enterDown
  | haltLater => exact wind (.trans (s.winds_modEngine _) (State.noticesOnly_postAll _ (.engine .halting)).winds)
  | setAffinity => exact wind (s.winds_modArbiter _)
  | setCalPolicy => exact wind (s.winds_modMonitor (.refl _))
  | forceRelease p n user state =>
    refine ⟨some n, .erases n user (.trans (.trans (.trans (State.winds_disown _ _) (State.noticesOnly_postOwner _ _ _).winds)
      (State.winds_refreshDemand _)) (State.winds_afterTerminations _ _)), ?_⟩
    rintro m ⟨⟩
    exact .inr (.inr (.inr (.inr ⟨p, rfl⟩)))
  | makeOffer p q =>
    exact wind (.trans (.trans (s.winds_withdrawOther p q) (State.noticesOnly_post _ q (.offer p)).winds)
      (State.winds_party _ _ (some { offering := p, target := q }) (.running offerTime)))
  | handOver p =>
    exact wind (.trans (s.winds_party p none .stopped) (State.noticesOnly_postAll _ (.supervisor p)).winds)
  | enterRunning =>
    have running := (s.winds_modEngine fun e => { e with state := .running, startTimer := .stopped }.settleBreak).trans
      (State.noticesOnly_postAll _ (.engine .running)).winds
    exact plain ((State.deals_placeSample (running.trans (State.winds_modMonitor _
      (f := fun m => { m with intervalTimer := .running m.intervalTime }) (.refl _))) (fun _ => rfl) rfl).trans_winds
      (State.winds_kick _))
  | interval =>
    exact plain ((State.deals_placeSample (s.winds_modMonitor
      (f := fun m => { m with intervalTimer := .running m.intervalTime }) (.refl _)) (fun _ => rfl) rfl).trans_winds
      (State.winds_kick _))
  | periodEnd raw overload => exact plain (s.deals_endPeriod raw overload)
  | warmUp o =>
    exact wind (.trans (.trans (s.winds_modOutput o _) (State.noticesOnly_postAll _ _).winds) (State.winds_kick _))
  | trip o =>
    exact wind (.trans (.trans (.trans (.trans (s.winds_modOutput o _) (State.winds_terminate _ _ _))
      (State.winds_refreshDemand _)) (State.winds_postTrip _ o)) (State.winds_afterTerminations _ _))
  | offerLapse o =>
    exact wind (.trans (s.winds_party s.supervisor none .stopped) (State.noticesOnly_post _ _ _).winds)

/-! ## References and retires (R7 to R9) -/

/-- Only the counts: each profile's reference count is the number of live requests that name it (R8). -/
def State.CountsMatch (s : State) : Prop := ∀ n, (s.profile n).refCount = s.named n

theorem State.CountsMatch.winds {s t : State} (h : s.CountsMatch) (w : s.Winds t) : t.CountsMatch := by
  intro n
  have := w.named_le n
  rw [w.refCount n, h n]
  omega

theorem State.referencesCount_iff (s : State) : s.ReferencesCount ↔ s.CountsMatch ∧
    (∀ n, (s.profile n).state = .free ∨ (s.profile n).state = .claimed → (s.profile n).refCount = 0) ∧
    (s.profile 0).state = .active := Iff.rfl

theorem State.ReferencesCount.winds {s t : State} (h : s.ReferencesCount) (w : s.Winds t) : t.ReferencesCount := by
  obtain ⟨counts, unreferenced, zero⟩ := h
  refine ⟨State.CountsMatch.winds counts w, fun n idle => ?_, ?_⟩
  · rcases w.state n with same | ⟨-, -, none⟩
    · rw [same] at idle
      rw [w.refCount n, unreferenced n idle, Nat.zero_sub]
    · exact none
  · rcases w.state 0 with same | ⟨retiring, -, -⟩
    · rw [same, zero]
    · rw [zero] at retiring; cases retiring

/-- One more request that names an ACTIVE or RETIRING profile. -/
theorem State.ReferencesCount.admits {s t : State} (h : s.ReferencesCount) (n : Fin 32)
    (held : (s.profile n).state = .active ∨ (s.profile n).state = .retiring)
    (named : ∀ m, t.named m = s.named m + if m = n then 1 else 0)
    (profile : ∀ m, t.profile m = { s.profile m with refCount := (s.profile m).refCount + if m = n then 1 else 0 }) :
    t.ReferencesCount := by
  obtain ⟨counts, unreferenced, zero⟩ := h
  refine ⟨fun m => ?_, fun m idle => ?_, ?_⟩
  · rw [profile m]
    exact (congrArg (· + if m = n then 1 else 0) (counts m)).trans (named m).symm
  · rw [profile m] at idle ⊢
    have other : m ≠ n := by
      rintro rfl
      rcases held with e | e <;> simp [e] at idle
    simpa [other] using unreferenced m idle
  · rw [profile 0]
    exact zero

theorem State.named_enqueue (s : State) (p : Port) (r : Request) (n : Fin 32) :
    (s.enqueue p r).named n = s.named n + if n = r.profile then 1 else 0 := by
  have one : ∀ l : List Request, (l ++ [r]).countP (fun r => decide (r.profile = n)) =
      l.countP (fun r => decide (r.profile = n)) + if n = r.profile then 1 else 0 := fun l => by
    simp [List.countP_append, List.countP_singleton, eq_comm]
  cases p <;>
    simp only [State.named, State.live, State.enqueue, State.modProfile_ports, State.modPort, PerPort.set, PerPort.get,
      State.modProfile_monitor, List.countP_append, one] <;> omega

theorem State.named_place (s : State) (n : Fin 32) (kind : Kind) (m : Fin 32) :
    (s.place n kind).named m = s.named m + if m = n then 1 else 0 := by
  have one : (monitorEntry n kind).profile = n := rfl
  simp only [State.named, State.live, State.place, State.modProfile_ports, State.modMonitor_ports,
    State.modProfile_monitor, State.modMonitor_monitor, List.countP_append, List.countP_singleton, one, decide_eq_true_eq,
    eq_comm (a := n)]
  omega

theorem State.ReferencesCount.ageProfile {s : State} (h : s.ReferencesCount) (n : Fin 32) : (s.ageProfile n).ReferencesCount := by
  obtain ⟨u, judged, e⟩ := s.ageProfile_parts n
  have kept : u.ReferencesCount := h.winds ((s.winds_modProfile n (f := (·.aged s.monitor)) fun _ => ⟨rfl, rfl⟩).trans judged.winds)
  rw [e]
  split
  next places =>
    have active : (u.profile n).state = .active := by
      have : (s.profile n).state = .active := by
        simp only [State.placesZero, State.qualifies, Bool.and_eq_true, decide_eq_true_eq] at places
        exact places.1.1.1.1.1.2
      rw [judged.profile, State.profile_modProfile_self]
      exact this
    exact kept.admits n (.inl active) (u.named_place n .zero) (u.profile_place n .zero)
  · exact kept

/-- A law that the pass at each profile keeps, the whole pass keeps. -/
theorem State.ageingPass_induct {P : State → Prop} {s : State} (h : P s) (each : ∀ (s : State) n, P s → P (s.ageProfile n)) :
    P s.ageingPass := by
  unfold State.ageingPass
  generalize profileNumbers = l
  induction l generalizing s with
  | nil => exact h
  | cons n rest ih => exact ih (each s n h)

theorem State.submitRefusal_active {s : State} {p : Port} {tag : Byte} {w : Submission}
    (accepted : s.submitRefusal p tag w = none) : (s.profile w.profile).state = .active := by
  unfold State.submitRefusal at accepted
  cases state : (s.profile w.profile).state <;> simp [state] at accepted ⊢

/-- What a forced release leaves of the references: those of the profile are gone, and it is FREE (R19). -/
theorem State.ReferencesCount.erase {s : State} (h : s.ReferencesCount) {n : Fin 32} (user : n ≠ 0) :
    ((s.erase n).terminate .revoked (Request.names n)).ReferencesCount := by
  obtain ⟨counts, unreferenced, zero⟩ := h
  have erased : ∀ m, ((s.erase n).profile m).refCount = (s.profile m).refCount := fun m => by
    by_cases same : m = n
    · subst same; simp [State.erase]
    · simp [State.erase, State.profile_modProfile_other _ same]
  have others : ∀ m, m ≠ n → (s.erase n).profile m = s.profile m := fun m other => by
    simp [State.erase, State.profile_modProfile_other _ other]
  have matching : (s.erase n).CountsMatch := fun m => (erased m).trans (counts m)
  have w := (s.erase n).winds_terminate .revoked (Request.names n)
  have matched := matching.winds w
  have gone : ((s.erase n).terminate .revoked (Request.names n)).named n = 0 := by
    rw [State.named, State.live_filter (Request.names n) (State.terminate_queue _ _ _) (by rw [State.terminate_monitor]),
      List.countP_eq_zero]
    intro r mem
    simpa [Request.names] using (List.mem_filter.1 mem).2
  refine ⟨matched, fun m idle => ?_, ?_⟩
  · by_cases same : m = n
    · subst same; rw [matched m, gone]
    · rcases w.state m with e | ⟨-, -, none⟩
      · rw [e, others m same] at idle
        rw [w.refCount m, erased m, unreferenced m idle, Nat.zero_sub]
      · exact none
  · rcases w.state 0 with e | ⟨retiring, -, -⟩
    · rw [e, others 0 user.symm, zero]
    · rw [others 0 user.symm, zero] at retiring; cases retiring

theorem State.ReferencesCount.deals {s t : State} {touched : Option (Fin 32)} (h : s.ReferencesCount) (d : s.Deals touched t) : t.ReferencesCount := by
  cases d with
  | winds w => exact h.winds w
  | lifecycle n f user count empty held w =>
    refine State.ReferencesCount.winds ?_ w
    obtain ⟨counts, unreferenced, zero⟩ := h
    have kept : (f (s.profile n)).refCount = (s.profile n).refCount := by
      rcases count with e | ⟨free, e⟩
      · exact e
      · rw [e, unreferenced n (.inl free)]
    refine ⟨fun m => ?_, fun m idle => ?_, ?_⟩
    · by_cases same : m = n
      · subst same; rw [State.profile_modProfile_self, kept]; exact counts m
      · rw [State.profile_modProfile_other _ same]; exact counts m
    · by_cases same : m = n
      · subst same; rw [State.profile_modProfile_self] at idle ⊢; exact empty idle
      · rw [State.profile_modProfile_other _ same] at idle ⊢; exact unreferenced m idle
    · rw [State.profile_modProfile_other _ user.symm]; exact zero
  | erases n user w => exact (h.erase user).winds w
  | submits p tag w accepted wind =>
    exact (h.admits w.profile (.inl (State.submitRefusal_active accepted)) (s.named_enqueue p _)
      (s.profile_enqueue p _)).winds wind
  | samples u before profiles queue none w =>
    have start := h.winds before
    exact (start.admits 0 (.inl start.2.2) (u.named_place 0 .measure) (u.profile_place 0 .measure)).winds w
  | passes u before profiles queue w =>
    exact (State.ageingPass_induct (h.winds before) fun _ n k => k.ageProfile n).winds w

theorem State.RetiringHeld.winds {s t : State} (h : s.RetiringHeld) (w : s.Winds t) : t.RetiringHeld := by
  intro n retiring
  rcases w.state n with same | ⟨-, claimed, -⟩
  · exact Nat.pos_of_ne_zero (w.held n (Nat.ne_of_gt (h n (same ▸ retiring))) retiring)
  · rw [claimed] at retiring; cases retiring

theorem State.RetiringHeld.deals {s t : State} {n : Option (Fin 32)} (h : s.RetiringHeld) (d : s.Deals n t) :
    t.RetiringHeld := by
  have raised : ∀ {u v : State}, u.RetiringHeld →
      (∀ m, (v.profile m).state = (u.profile m).state ∧ (u.profile m).refCount ≤ (v.profile m).refCount) →
      v.RetiringHeld := fun k more m retiring => (k m ((more m).1 ▸ retiring)).trans_le (more m).2
  cases d with
  | winds w => exact h.winds w
  | lifecycle n f user count empty held w =>
    refine State.RetiringHeld.winds (fun m retiring => ?_) w
    by_cases same : m = n
    · subst same; rw [State.profile_modProfile_self] at retiring ⊢; exact Nat.pos_of_ne_zero (held retiring)
    · rw [State.profile_modProfile_other _ same] at retiring ⊢; exact h m retiring
  | erases n user w =>
    refine State.RetiringHeld.winds (State.RetiringHeld.winds (fun m retiring => ?_) (State.winds_terminate _ _ _)) w
    by_cases same : m = n
    · subst same; rw [State.erase, State.profile_modProfile_self] at retiring; cases retiring
    · rw [State.erase, State.profile_modProfile_other _ same] at retiring ⊢; exact h m retiring
  | submits p tag w accepted wind =>
    exact (raised h fun m => by rw [s.profile_enqueue]; exact ⟨rfl, Nat.le_add_right _ _⟩).winds wind
  | samples u before profiles queue none w =>
    exact (raised (h.winds before) fun m => by rw [u.profile_place]; exact ⟨rfl, Nat.le_add_right _ _⟩).winds w
  | passes u before profiles queue w =>
    exact (raised (h.winds before) fun m => by rw [u.ageingPass_profile]; exact ⟨rfl, Nat.le_add_right _ _⟩).winds w

theorem State.SameCore.winds {s t : State} (h : s.SameCore t) : s.Winds t :=
  .of_same h.queue (h.read (·.used) fun _ _ _ => rfl) (by rw [h.monitor]) fun n => by rw [h.profile n]; exact ⟨rfl, rfl⟩

theorem State.profile_resetWith (straps : Straps) (n : Fin 32) :
    (State.resetWith straps).profile n = if n = 0 then .dieTemperature else .default := by
  simp only [State.profile, State.resetWith, Vector.getElem_set, Fin.ext_iff, Fin.val_zero, eq_comm (a := 0)]
  split <;> simp

theorem State.live_resetWith (straps : Straps) : (State.resetWith straps).live = [] := rfl

theorem State.ReferencesCount.resetWith (straps : Straps) : (State.resetWith straps).ReferencesCount := by
  have none : ∀ n, ((State.resetWith straps).profile n).refCount = 0 := fun n => by
    rw [State.profile_resetWith]
    split <;> rfl
  exact ⟨none, fun n _ => none n, by rw [State.profile_resetWith]; rfl⟩

theorem State.RetiringHeld.resetWith (straps : Straps) : (State.resetWith straps).RetiringHeld := by
  intro n retiring
  rw [State.profile_resetWith] at retiring
  split at retiring <;> cases retiring

end Sys2Proof.Machine
end

section
/-! SUPPORT. The frame of every act on the settings, the rings and the profile records: who moves each, and that all others
leave it. -/

namespace Sys2Proof.Machine

/-! ## Settings (R32, R49, R21, R65, R108, R135, R139, R130, R126, R93, R170) -/

/-- The settings stand, but for a resetting port's ring alert choice and votes. -/
structure State.SettingsStand (resetting : Option Port) (s t : State) : Prop where
  target : t.targetAddress = s.targetAddress
  port : ∀ q, (t.port q).weight = (s.port q).weight ∧ (t.port q).reserve = (s.port q).reserve ∧
    (t.port q).ceiling = (s.port q).ceiling ∧ (t.port q).allowance = (s.port q).allowance
  alert : ∀ q, resetting ≠ some q → (t.port q).ringAlert = (s.port q).ringAlert
  limit : t.arbiter.limit = s.arbiter.limit
  policy : t.monitor.sampleInterval = s.monitor.sampleInterval ∧ t.monitor.maxAge = s.monitor.maxAge ∧
    t.monitor.maxDelta = s.monitor.maxDelta
  temperature : t.monitor.temperature = s.monitor.temperature ∧ t.monitor.valid = s.monitor.valid
  times : ∀ o, (t.output o).warmUpTime = (s.output o).warmUpTime ∧ (t.output o).lingerTime = (s.output o).lingerTime
  rule : ∀ o, (t.output o).combine = (s.output o).combine ∧ (t.output o).designated = (s.output o).designated
  votes : ∀ o q, resetting ≠ some q → (t.output o).votes.get q = (s.output o).votes.get q

namespace State.SettingsStand

variable {s t u : State} {resetting : Option Port}

theorem trans (h : State.SettingsStand resetting s t) (k : State.SettingsStand resetting t u) :
    State.SettingsStand resetting s u where
  target := k.target.trans h.target
  port q := by
    obtain ⟨a, b, c, d⟩ := h.port q
    obtain ⟨a', b', c', d'⟩ := k.port q
    exact ⟨a'.trans a, b'.trans b, c'.trans c, d'.trans d⟩
  alert q other := (k.alert q other).trans (h.alert q other)
  limit := k.limit.trans h.limit
  policy := ⟨k.policy.1.trans h.policy.1, k.policy.2.1.trans h.policy.2.1, k.policy.2.2.trans h.policy.2.2⟩
  temperature := ⟨k.temperature.1.trans h.temperature.1, k.temperature.2.trans h.temperature.2⟩
  times o := ⟨(k.times o).1.trans (h.times o).1, (k.times o).2.trans (h.times o).2⟩
  rule o := ⟨(k.rule o).1.trans (h.rule o).1, (k.rule o).2.trans (h.rule o).2⟩
  votes o q other := (k.votes o q other).trans (h.votes o q other)

theorem of_quiet (h : s.Quiet t) : State.SettingsStand resetting s t where
  target := h.1.targetAddress
  port q := ⟨(h.1.ports q).weight, (h.1.ports q).reserve, (h.1.ports q).ceiling, (h.1.ports q).allowance⟩
  alert q _ := (h.1.ports q).ringAlert
  limit := h.1.limit
  policy := ⟨h.1.sampleInterval, h.1.maxAge, h.1.maxDelta⟩
  temperature := ⟨h.2.temperature, h.2.valid⟩
  times o := ⟨(h.1.outputs o).warmUpTime, (h.1.outputs o).lingerTime⟩
  rule o := ⟨(h.1.outputs o).combine, (h.1.outputs o).designated⟩
  votes o q _ := by rw [(h.1.outputs o).votes]

theorem modProfile (s : State) (n : Fin 32) (f : Profile → Profile) :
    State.SettingsStand resetting s (s.modProfile n f) :=
  ⟨rfl, fun _ => ⟨rfl, rfl, rfl, rfl⟩, fun _ _ => rfl, rfl, ⟨rfl, rfl, rfl⟩, ⟨rfl, rfl⟩, fun _ => ⟨rfl, rfl⟩,
    fun _ => ⟨rfl, rfl⟩, fun _ _ _ => rfl⟩

theorem modPort (s : State) (p : Port) {f : PortState → PortState}
    (port : ∀ ps, (f ps).weight = ps.weight ∧ (f ps).reserve = ps.reserve ∧ (f ps).ceiling = ps.ceiling ∧
      (f ps).allowance = ps.allowance)
    (alert : resetting ≠ some p → ∀ ps, (f ps).ringAlert = ps.ringAlert) :
    State.SettingsStand resetting s (s.modPort p f) where
  target := rfl
  port q := by
    rw [State.port_modPort]
    split
    · subst q; exact port _
    · exact ⟨rfl, rfl, rfl, rfl⟩
  alert q other := by
    rw [State.port_modPort]
    split
    · subst q; exact alert other _
    · rfl
  limit := rfl
  policy := ⟨rfl, rfl, rfl⟩
  temperature := ⟨rfl, rfl⟩
  times _ := ⟨rfl, rfl⟩
  rule _ := ⟨rfl, rfl⟩
  votes _ _ _ := rfl

theorem party (s : State) (supervisor : Port) (offer : Option Offer) (offerTimer : Timer) :
    State.SettingsStand resetting s { s with supervisor, offer, offerTimer } :=
  ⟨rfl, fun _ => ⟨rfl, rfl, rfl, rfl⟩, fun _ _ => rfl, rfl, ⟨rfl, rfl, rfl⟩, ⟨rfl, rfl⟩, fun _ => ⟨rfl, rfl⟩,
    fun _ => ⟨rfl, rfl⟩, fun _ _ _ => rfl⟩

end State.SettingsStand

/-- Each setting moves by its own command alone. -/
structure SettingsFrame (i : Instr) (s t : State) : Prop where
  target : t.targetAddress = s.targetAddress
  weight : ∀ q, (t.port q).weight ≠ (s.port q).weight → ∃ p w, i = .setWeight p q.code w
  quota : ∀ q, (t.port q).reserve ≠ (s.port q).reserve ∨ (t.port q).ceiling ≠ (s.port q).ceiling →
    ∃ p r c, i = .setQuota p q.code r c
  allowance : ∀ q, (t.port q).allowance ≠ (s.port q).allowance → ∃ p a, i = .setAllowance p q.code a
  alert : ∀ q, (t.port q).ringAlert ≠ (s.port q).ringAlert → (∃ c, i = .alertConfig q c) ∨ i = .portReset q
  limit : t.arbiter.limit ≠ s.arbiter.limit → ∃ p l, i = .setAffinity p l
  policy : t.monitor.sampleInterval ≠ s.monitor.sampleInterval ∨ t.monitor.maxAge ≠ s.monitor.maxAge ∨
    t.monitor.maxDelta ≠ s.monitor.maxDelta → ∃ p a b d, i = .setCalPolicy p a b d
  temperature : t.monitor.temperature ≠ s.monitor.temperature ∨ t.monitor.valid ≠ s.monitor.valid →
    ∃ raw overload, i = .outputPeriodEnd raw overload
  times : ∀ o, (t.output o).warmUpTime ≠ (s.output o).warmUpTime ∨ (t.output o).lingerTime ≠ (s.output o).lingerTime →
    ∃ p w l, i = .setExciteTiming p o.code w l
  rule : ∀ o, (t.output o).combine ≠ (s.output o).combine ∨ (t.output o).designated ≠ (s.output o).designated →
    ∃ p m d, i = .setCombine p o.code m d
  votes : ∀ o q, (t.output o).votes.get q ≠ (s.output o).votes.get q →
    (∃ v, i = .exciteVote q o.code v) ∨ i = .portReset q

namespace SettingsFrame

variable {s t : State} {i : Instr}

theorem of_stand {resetting : Option Port} (h : State.SettingsStand resetting s t)
    (reset : ∀ p, resetting = some p → i = .portReset p) : SettingsFrame i s t where
  target := h.target
  weight q moved := absurd (h.port q).1 moved
  quota q moved := by
    obtain ⟨-, reserve, ceiling, -⟩ := h.port q
    exact moved.elim (absurd reserve) (absurd ceiling)
  allowance q moved := absurd (h.port q).2.2.2 moved
  alert q moved := by
    by_cases e : resetting = some q
    · exact .inr (reset q e)
    · exact absurd (h.alert q e) moved
  limit moved := absurd h.limit moved
  policy moved := by
    obtain ⟨interval, age, delta⟩ := h.policy
    exact moved.elim (absurd interval) fun m => m.elim (absurd age) (absurd delta)
  temperature moved := moved.elim (absurd h.temperature.1) (absurd h.temperature.2)
  times o moved := moved.elim (absurd (h.times o).1) (absurd (h.times o).2)
  rule o moved := moved.elim (absurd (h.rule o).1) (absurd (h.rule o).2)
  votes o q moved := by
    by_cases e : resetting = some q
    · exact .inr (reset q e)
    · exact absurd (h.votes o q e) moved

theorem of_quiet (h : s.Quiet t) : SettingsFrame i s t := of_stand (resetting := none) (.of_quiet h) nofun

/-- A change of one port that moves no setting but those of the command. -/
theorem of_modPort (s : State) (p : Port) {f : PortState → PortState}
    (weight : (f (s.port p)).weight ≠ (s.port p).weight → ∃ q w, i = .setWeight q p.code w)
    (quota : (f (s.port p)).reserve ≠ (s.port p).reserve ∨ (f (s.port p)).ceiling ≠ (s.port p).ceiling →
      ∃ q r c, i = .setQuota q p.code r c)
    (allowance : (f (s.port p)).allowance ≠ (s.port p).allowance → ∃ q a, i = .setAllowance q p.code a)
    (alert : (f (s.port p)).ringAlert ≠ (s.port p).ringAlert → ∃ c, i = .alertConfig p c) :
    SettingsFrame i s (s.modPort p f) where
  target := rfl
  weight q moved := by
    rw [State.port_modPort] at moved
    split at moved
    · subst q; exact weight moved
    · exact absurd rfl moved
  quota q moved := by
    rw [State.port_modPort] at moved
    split at moved
    · subst q; exact quota moved
    · exact moved.elim (absurd rfl) (absurd rfl)
  allowance q moved := by
    rw [State.port_modPort] at moved
    split at moved
    · subst q; exact allowance moved
    · exact absurd rfl moved
  alert q moved := by
    rw [State.port_modPort] at moved
    split at moved
    · subst q; exact .inl (alert moved)
    · exact absurd rfl moved
  limit moved := absurd rfl moved
  policy moved := moved.elim (absurd rfl) fun m => m.elim (absurd rfl) (absurd rfl)
  temperature moved := moved.elim (absurd rfl) (absurd rfl)
  times o moved := moved.elim (absurd rfl) (absurd rfl)
  rule o moved := moved.elim (absurd rfl) (absurd rfl)
  votes o q moved := absurd rfl moved

/-- A change of one output that moves no setting but those of the command. -/
theorem of_modOutput (s : State) (o : OutputId) {f : OutputState → OutputState}
    (times : (f (s.output o)).warmUpTime ≠ (s.output o).warmUpTime ∨
      (f (s.output o)).lingerTime ≠ (s.output o).lingerTime → ∃ p w l, i = .setExciteTiming p o.code w l)
    (rule : (f (s.output o)).combine ≠ (s.output o).combine ∨ (f (s.output o)).designated ≠ (s.output o).designated →
      ∃ p m d, i = .setCombine p o.code m d)
    (votes : ∀ q, (f (s.output o)).votes.get q ≠ (s.output o).votes.get q → ∃ v, i = .exciteVote q o.code v) :
    SettingsFrame i s (s.modOutput o f) where
  target := rfl
  weight q moved := absurd rfl moved
  quota q moved := moved.elim (absurd rfl) (absurd rfl)
  allowance q moved := absurd rfl moved
  alert q moved := absurd rfl moved
  limit moved := absurd rfl moved
  policy moved := moved.elim (absurd rfl) fun m => m.elim (absurd rfl) (absurd rfl)
  temperature moved := moved.elim (absurd rfl) (absurd rfl)
  times x moved := by
    rw [State.output_modOutput] at moved
    split at moved
    · subst x; exact times moved
    · exact moved.elim (absurd rfl) (absurd rfl)
  rule x moved := by
    rw [State.output_modOutput] at moved
    split at moved
    · subst x; exact rule moved
    · exact moved.elim (absurd rfl) (absurd rfl)
  votes x q moved := by
    rw [State.output_modOutput] at moved
    split at moved
    · subst x; exact .inl (votes q moved)
    · exact absurd rfl moved

end SettingsFrame

/-! ## The quiet acts -/

theorem State.quiet_modOutput (s : State) (o : OutputId) {f : OutputState → OutputState}
    (same : ∀ out, OutputState.SameSettings out (f out)) : s.Quiet (s.modOutput o f) := by
  refine s.quiet_outputs fun x => ?_
  rw [PerOutput.get_set]
  split
  · subst x; exact same _
  · exact .refl _

theorem OutputState.sameSettings_warmIfDemanded (o : OutputState) (down : Bool) : o.SameSettings (o.warmIfDemanded down) := by
  unfold OutputState.warmIfDemanded
  split <;> exact ⟨rfl, rfl, rfl, rfl, rfl⟩

theorem State.quiet_restartInterval (s : State) : s.Quiet s.restartInterval :=
  s.quiet_monitor (m := { s.monitor with intervalTimer := .running s.monitor.intervalTime }) rfl rfl rfl rfl rfl

/-- The engine as it leaves DOWN, before the outputs warm up (R69). -/
def State.leavingDown (s : State) : State :=
  (s.modEngine fun e => { e with state := .starting, startTimer := .running startTime }).postAll (.engine .starting)

theorem State.startEngine_eq (s : State) : s.startEngine = { s.leavingDown with
    outputs := { exa := s.leavingDown.outputs.exa.warmIfDemanded false
                 exb := s.leavingDown.outputs.exb.warmIfDemanded false } } := rfl

theorem State.quiet_startEngine (s : State) : s.Quiet s.startEngine := by
  have leaving : s.Quiet s.leavingDown := (s.quiet_modEngine _).trans (State.quiet_postAll _ _)
  rw [s.startEngine_eq]
  refine leaving.trans (State.quiet_outputs _ fun o => ?_)
  cases o <;> exact OutputState.sameSettings_warmIfDemanded _ _

theorem State.quiet_markFinal (s : State) (n : Fin 32) : s.Quiet (s.markFinal n) := by
  unfold State.markFinal
  split
  · exact s.quiet_modFlight _
  · exact .refl s

theorem State.quiet_retireEnded (s : State) (n : Fin 32) : s.Quiet (s.retireEnded n) := by
  have marked : s.Quiet (s.retireMarked n) :=
    (s.quiet_modProfile n (f := fun profile => { profile with state := .retiring })
      (fun _ => ⟨rfl, rfl, rfl, rfl, rfl, rfl⟩) fun _ => rfl).trans (State.quiet_markFinal _ n)
  exact (marked.trans (State.quiet_terminate _ _ _)).trans (State.quiet_refreshDemand _)

theorem State.quiet_submitted (s : State) (p : Port) (tag : Byte) (w : Submission) : s.Quiet (s.submitted p tag w) := by
  refine .trans (.trans (s.quiet_modPort p ?_ ?_ ?_) (State.quiet_modProfile _ _ ?_ ?_)) (State.quiet_refreshDemand _)
  · exact fun _ => ⟨rfl, rfl, rfl, rfl, rfl, rfl, rfl, rfl⟩
  · exact fun _ => rfl
  · exact fun _ => rfl
  · exact fun _ => ⟨rfl, rfl, rfl, rfl, rfl, rfl⟩
  · exact fun _ => rfl

theorem State.quiet_postTrip (s : State) (o : OutputId) : s.Quiet (s.postTrip o) := by
  unfold State.postTrip
  dsimp only
  split
  · exact (s.quiet_postAll _).trans (State.quiet_postAll _ _)
  · exact s.quiet_postAll _

theorem State.quiet_tripEnded (s : State) (o : OutputId) : s.Quiet (s.tripEnded o) :=
  .trans (.trans (.trans (s.quiet_modOutput o OutputState.sameSettings_trip) (State.quiet_terminate _ _ _))
    (State.quiet_refreshDemand _)) (State.quiet_postTrip _ o)

/-- The engine as it enters RUNNING, before the interval timer (R73). -/
def State.enteringRunning (s : State) : State :=
  (s.modEngine fun e => { e with state := .running, startTimer := .stopped }.settleBreak).postAll (.engine .running)

theorem State.enterRunning_eq (s : State) : s.enterRunning = s.enteringRunning.restartInterval.placeSample.kick := rfl

theorem State.quiet_enteringRunning (s : State) : s.Quiet s.enteringRunning :=
  (s.quiet_modEngine _).trans (State.quiet_postAll _ _)

theorem State.quiet_placeAndKick (s : State) : s.Quiet s.restartInterval.placeSample.kick :=
  (s.quiet_restartInterval.trans (State.quiet_placeSample _)).trans (State.quiet_kick _)

theorem State.quiet_enterRunning (s : State) : s.Quiet s.enterRunning := by
  rw [s.enterRunning_eq]
  exact s.quiet_enteringRunning.trans (State.quiet_placeAndKick _)

/-- An output that has warmed up, and the notice of it (R136). -/
def State.warmedUp (s : State) (o : OutputId) : State := (s.modOutput o (·.becomeReady)).postAll (.excitation o .ready)

theorem State.quiet_warmedUp (s : State) (o : OutputId) : s.Quiet (s.warmedUp o) :=
  (s.quiet_modOutput o (f := (·.becomeReady)) fun _ => ⟨rfl, rfl, rfl, rfl, rfl⟩).trans (State.quiet_postAll _ _)

theorem State.quiet_trip (s : State) (o : OutputId) : s.Quiet (s.trip o) := by
  rw [s.trip_eq]
  exact (s.quiet_tripEnded o).trans (State.quiet_afterTerminations _ _)

theorem State.quiet_cancel (s : State) (p : Port) (tag : Byte) : s.Quiet (s.cancel p tag) :=
  ((s.quiet_terminate _ _).trans (State.quiet_refreshDemand _)).trans (State.quiet_afterTerminations _ _)

theorem State.quiet_submit (s : State) (p : Port) (tag : Byte) (w : Submission) : s.Quiet (s.submit p tag w) := by
  rw [s.submit_eq]
  exact (s.quiet_submitted p tag w).trans (State.quiet_kick _)

theorem State.quiet_retireBusy (s : State) (n : Fin 32) : s.Quiet (s.retireBusy n) := by
  rw [s.retireBusy_eq]
  exact (s.quiet_retireEnded n).trans (State.quiet_kick _)

theorem OutputState.sameSettings_cleared (o : OutputState) (down : Bool) : o.SameSettings (o.cleared down) := by
  have warmed := OutputState.sameSettings_warmIfDemanded { o with state := .off, tripCount := 0 } down
  exact ⟨warmed.1, warmed.2, warmed.3, warmed.4, warmed.5⟩

theorem OutputState.sameSettings_afterLinger (o : OutputState) (down : Bool) :
    o.SameSettings (o.switchOff.warmIfDemanded down) := by
  have warmed := OutputState.sameSettings_warmIfDemanded o.switchOff down
  exact ⟨warmed.1, warmed.2, warmed.3, warmed.4, warmed.5⟩

theorem OutputState.sameSettings_afterHoldOff (o : OutputState) (down : Bool) :
    o.SameSettings ({ o with state := .off, holdOffTimer := .stopped }.warmIfDemanded down) := by
  have warmed := OutputState.sameSettings_warmIfDemanded { o with state := .off, holdOffTimer := .stopped } down
  exact ⟨warmed.1, warmed.2, warmed.3, warmed.4, warmed.5⟩

/-! ## The settings through every act -/

/-- A port's votes and the demand judged with them are its own settings. -/
theorem State.SettingsStand.voted (s : State) (p : Port) :
    State.SettingsStand (some p) s (s.handOverDemand (·.vote p false)) := by
  have moved : ∀ (out : OutputState) (d down : Bool), ({ out.vote p false with requestDemand := d }).SameSettings
      (({ out.vote p false with requestDemand := d }).judgedFrom out down) :=
    fun out d down => OutputState.sameSettings_judgedFrom _ out down
  refine ⟨rfl, fun _ => ⟨rfl, rfl, rfl, rfl⟩, fun _ _ => rfl, rfl, ⟨rfl, rfl, rfl⟩, ⟨rfl, rfl⟩,
    fun o => ?_, fun o => ?_, fun o q other => ?_⟩
  · cases o <;> exact ⟨(moved _ _ _).warmUpTime, (moved _ _ _).lingerTime⟩
  · cases o <;> exact ⟨(moved _ _ _).combine, (moved _ _ _).designated⟩
  · have kept : ∀ votes : PerPort Bool, (votes.set p false).get q = votes.get q := fun votes => by
      rw [PerPort.get_set, if_neg fun e => other (congrArg some e.symm)]
    cases o
    · exact (congrArg (·.get q) (moved _ _ _).votes).trans (kept _)
    · exact (congrArg (·.get q) (moved _ _ _).votes).trans (kept _)

theorem State.SettingsStand.resetPort (s : State) (p : Port) : State.SettingsStand (some p) s (s.resetPort p) := by
  have ended : State.SettingsStand (some p) s (s.terminate .portReset (Request.isFrom p)) := .of_quiet (s.quiet_terminate _ _)
  have cleared := ended.trans (.modPort _ p (f := (·.cleared)) (fun _ => ⟨rfl, rfl, rfl, rfl⟩) fun h => absurd rfl h)
  have withdrawn : State.SettingsStand (some p) s
      (((s.terminate .portReset (Request.isFrom p)).modPort p (·.cleared)).withdrawFor p) := by
    refine cleared.trans ?_
    unfold State.withdrawFor
    split
    · exact .of_quiet (.refl _)
    · split
      · exact .of_quiet (.refl _)
      · exact (State.SettingsStand.party _ _ none .stopped).trans (.of_quiet (State.quiet_post _ _ _))
  have voted : State.SettingsStand (some p) s (s.resetEnded p) := withdrawn.trans (.voted _ p)
  have freed : State.SettingsStand (some p) s (s.resetFreed p) := by
    unfold State.resetFreed
    split
    · exact voted.trans (.of_quiet (State.quiet_freed _ _))
    · exact voted
  rw [s.resetPort_eq]
  exact freed.trans (.modPort _ p (f := (·.judgeAlert)) (fun _ => ⟨rfl, rfl, rfl, rfl⟩) fun _ _ => rfl)

theorem State.SettingsStand.forceRelease (s : State) (n : Fin 32) : State.SettingsStand none s (s.forceRelease n) := by
  have ended : State.SettingsStand none s ((s.erase n).terminate .revoked (Request.names n)) :=
    (State.SettingsStand.modProfile s n _).trans (.of_quiet (State.quiet_terminate _ _ _))
  have disowned : State.SettingsStand none s
      (((s.erase n).terminate .revoked (Request.names n)).disown (s.profile n).owner) := by
    refine ended.trans ?_
    unfold State.disown
    split
    · exact .modPort _ _ (fun _ => ⟨rfl, rfl, rfl, rfl⟩) fun _ _ => rfl
    · exact .of_quiet (.refl _)
  rw [s.forceRelease_eq]
  exact disowned.trans (.of_quiet (.trans (.trans (State.quiet_postOwner _ _ _) (State.quiet_refreshDemand _))
    (State.quiet_afterTerminations _ _)))

theorem Acts.settings {s t : State} {i : Instr} (act : Acts s i t) : SettingsFrame i s t := by
  cases act with
  | idle => exact .of_quiet (.refl s)
  | portReset p => exact .of_stand (.resetPort s p) fun q e => by cases e; rfl
  | alertConfig p b on =>
    exact .of_modPort s p (absurd rfl) (fun m => m.elim (absurd rfl) (absurd rfl)) (absurd rfl) fun _ => ⟨b, rfl⟩
  | claim p b n =>
    refine .of_stand (resetting := none) ((State.SettingsStand.modProfile s n _).trans (.modPort _ p ?_ ?_)) nofun
    · exact fun _ => ⟨rfl, rfl, rfl, rfl⟩
    · exact fun _ _ => rfl
  | write | share | retireNow => exact .of_stand (resetting := none) (.modProfile s _ _) nofun
  | retireBusy p n => exact .of_quiet (s.quiet_retireBusy n)
  | release p n =>
    refine .of_stand (resetting := none) ((State.SettingsStand.modProfile s n _).trans
      (.modPort _ p (f := fun ps => { ps with owned := ps.owned - 1 }) ?_ ?_)) nofun
    · exact fun _ => ⟨rfl, rfl, rfl, rfl⟩
    · exact fun _ _ => rfl
  | submit p f w => exact .of_quiet (s.quiet_submit p f.tag w)
  | cancel p tag => exact .of_quiet (s.quiet_cancel p tag)
  | fetch p b n =>
    have kept : ∀ ps : PortState, ps.SameSettings (ps.fetched n) := fun ps => by
      unfold PortState.fetched PortState.rearm
      split <;> exact ⟨rfl, rfl, rfl, rfl, rfl, rfl, rfl, rfl⟩
    refine .of_stand (resetting := none) (.trans (.modPort s p ?_ ?_) (.of_quiet (State.quiet_kick _))) nofun
    · exact fun ps => ⟨(kept ps).weight, (kept ps).reserve, (kept ps).ceiling, (kept ps).allowance⟩
    · exact fun _ ps => (kept ps).ringAlert
  | readNotices p b n =>
    exact .of_modPort s p (absurd rfl) (fun m => m.elim (absurd rfl) (absurd rfl)) (absurd rfl) (absurd rfl)
  | exciteVote p o b on =>
    have moved := OutputState.sameSettings_judgedFrom ((s.output o).vote p on) (s.output o) s.isDown
    refine .of_modOutput s o ?_ ?_ fun q changed => ?_
    · exact fun m => m.elim (absurd moved.warmUpTime) (absurd moved.lingerTime)
    · exact fun m => m.elim (absurd moved.combine) (absurd moved.designated)
    · by_cases same : q = p
      · exact ⟨b, by rw [same]⟩
      · refine absurd ((congrArg (·.get q) moved.votes).trans ?_) changed
        exact (PerPort.get_set ..).trans (if_neg same)
  | engineStart => exact .of_quiet s.quiet_startEngine
  | haltNow => exact .of_quiet s.quiet_enterDown
  | haltLater => exact .of_quiet (.trans (s.quiet_modEngine _) (State.quiet_postAll _ (.engine .halting)))
  | setQuota p q x y => exact .of_modPort s q (absurd rfl) (fun _ => ⟨p, x, y, rfl⟩) (absurd rfl) (absurd rfl)
  | setWeight p q x =>
    exact .of_modPort s q (fun _ => ⟨p, x, rfl⟩) (fun m => m.elim (absurd rfl) (absurd rfl)) (absurd rfl) (absurd rfl)
  | setAffinity p x =>
    exact ⟨rfl, fun _ => absurd rfl, fun _ m => m.elim (absurd rfl) (absurd rfl), fun _ => absurd rfl, fun _ => absurd rfl,
      fun _ => ⟨p, x, rfl⟩, fun m => m.elim (absurd rfl) fun m => m.elim (absurd rfl) (absurd rfl),
      fun m => m.elim (absurd rfl) (absurd rfl), fun _ m => m.elim (absurd rfl) (absurd rfl),
      fun _ m => m.elim (absurd rfl) (absurd rfl), fun _ _ => absurd rfl⟩
  | setAllowance p q x =>
    exact .of_modPort s q (absurd rfl) (fun m => m.elim (absurd rfl) (absurd rfl)) (fun _ => ⟨p, x, rfl⟩) (absurd rfl)
  | setCombine p q o x y combine =>
    have moved := OutputState.sameSettings_judgedFrom { s.output o with combine, designated := q } (s.output o) s.isDown
    refine .of_modOutput s o ?_ (fun _ => ⟨p, x, y, rfl⟩) fun q changed => ?_
    · exact fun m => m.elim (absurd moved.warmUpTime) (absurd moved.lingerTime)
    · exact absurd (congrArg (·.get q) moved.votes) changed
  | setExciteTiming p o x y =>
    exact .of_modOutput s o (fun _ => ⟨p, x, y, rfl⟩) (fun m => m.elim (absurd rfl) (absurd rfl)) fun _ => absurd rfl
  | clearLockout p o => exact .of_quiet (s.quiet_modOutput o fun out => out.sameSettings_cleared _)
  | setCalPolicy p x y d =>
    exact ⟨rfl, fun _ => absurd rfl, fun _ m => m.elim (absurd rfl) (absurd rfl), fun _ => absurd rfl, fun _ => absurd rfl,
      absurd rfl, fun _ => ⟨p, x, y, d, rfl⟩, fun m => m.elim (absurd rfl) (absurd rfl),
      fun _ m => m.elim (absurd rfl) (absurd rfl), fun _ m => m.elim (absurd rfl) (absurd rfl), fun _ _ => absurd rfl⟩
  | forceRelease p n => exact .of_stand (.forceRelease s n) nofun
  | makeOffer p q =>
    have withdrawn : s.Quiet (s.withdrawOther p q) := by
      unfold State.withdrawOther
      split
      · exact .refl s
      · split
        · exact s.quiet_post _ _
        · exact .refl s
    exact .of_stand (resetting := none) ((State.SettingsStand.of_quiet (withdrawn.trans
      (State.quiet_post _ q (.offer p)))).trans (.party _ _ _ _)) nofun
  | handOver p =>
    exact .of_stand (resetting := none) ((State.SettingsStand.party s p none .stopped).trans
      (.of_quiet (State.quiet_postAll _ (.supervisor p)))) nofun
  | enterRunning => exact .of_quiet s.quiet_enterRunning
  | interval => exact .of_quiet s.quiet_placeAndKick
  | periodEnd raw overload =>
    have kept := s.keeps_endPeriod raw overload
    exact ⟨kept.targetAddress, fun q => absurd (kept.ports q).weight,
      fun q m => m.elim (absurd (kept.ports q).reserve) (absurd (kept.ports q).ceiling),
      fun q => absurd (kept.ports q).allowance, fun q => absurd (kept.ports q).ringAlert, absurd kept.limit,
      fun m => m.elim (absurd kept.sampleInterval) fun m => m.elim (absurd kept.maxAge) (absurd kept.maxDelta),
      fun _ => ⟨raw, overload, rfl⟩,
      fun o m => m.elim (absurd (kept.outputs o).warmUpTime) (absurd (kept.outputs o).lingerTime),
      fun o m => m.elim (absurd (kept.outputs o).combine) (absurd (kept.outputs o).designated),
      fun o q => absurd (congrArg (·.get q) (kept.outputs o).votes)⟩
  | warmUp o => exact .of_quiet ((s.quiet_warmedUp o).trans (State.quiet_kick _))
  | linger o => exact .of_quiet (s.quiet_modOutput o fun out => out.sameSettings_afterLinger _)
  | holdOff o => exact .of_quiet (s.quiet_modOutput o fun out => out.sameSettings_afterHoldOff _)
  | dwell o => exact .of_quiet (s.quiet_modOutput o fun _ => ⟨rfl, rfl, rfl, rfl, rfl⟩)
  | trip o => exact .of_quiet (s.quiet_trip o)
  | offerLapse o =>
    exact .of_stand (resetting := none) ((State.SettingsStand.party s s.supervisor none .stopped).trans
      (.of_quiet (State.quiet_post _ _ _))) nofun

theorem State.SameCore.settingsStand {s t : State} (h : s.SameCore t) : State.SettingsStand none s t where
  target := h.targetAddress
  port q := by rw [h.ports q]; exact ⟨rfl, rfl, rfl, rfl⟩
  alert q _ := by rw [h.ports q]
  limit := by rw [h.arbiter]
  policy := by rw [h.monitor]; exact ⟨rfl, rfl, rfl⟩
  temperature := by rw [h.monitor]; exact ⟨rfl, rfl⟩
  times o := by rw [h.output]; exact ⟨rfl, rfl⟩
  rule o := by rw [h.output]; exact ⟨rfl, rfl⟩
  votes o q _ := by rw [h.output]

/-- A frame reads the parts that states with the same core share. -/
theorem SettingsFrame.congr {s s' t t' : State} {i : Instr} (h : SettingsFrame i s t) (first : State.SettingsStand none s' s)
    (last : State.SettingsStand none t t') : SettingsFrame i s' t' where
  target := (last.target.trans h.target).trans first.target
  weight q m := h.weight q fun e => m (((last.port q).1.trans e).trans (first.port q).1)
  quota q m := by
    obtain ⟨-, a, b, -⟩ := first.port q
    obtain ⟨-, c, d, -⟩ := last.port q
    rw [c, d, ← a, ← b] at m
    exact h.quota q m
  allowance q m := h.allowance q fun e => m (((last.port q).2.2.2.trans e).trans (first.port q).2.2.2)
  alert q m := h.alert q fun e => m (((last.alert q nofun).trans e).trans (first.alert q nofun))
  limit m := h.limit fun e => m ((last.limit.trans e).trans first.limit)
  policy m := by
    obtain ⟨a, b, c⟩ := first.policy
    obtain ⟨d, e, f⟩ := last.policy
    rw [d, e, f, ← a, ← b, ← c] at m
    exact h.policy m
  temperature m := by
    rw [last.temperature.1, last.temperature.2, ← first.temperature.1, ← first.temperature.2] at m
    exact h.temperature m
  times o m := by
    rw [(last.times o).1, (last.times o).2, ← (first.times o).1, ← (first.times o).2] at m
    exact h.times o m
  rule o m := by
    rw [(last.rule o).1, (last.rule o).2, ← (first.rule o).1, ← (first.rule o).2] at m
    exact h.rule o m
  votes o q m := h.votes o q fun e => m (((last.votes o q nofun).trans e).trans (first.votes o q nofun))

end Sys2Proof.Machine
end

section
/-! PROOF. The frame of the settings. -/

namespace Sys2Proof.Proofs
open Sys2Proof Sys2Proof.Machine

/-- Settles O15: behind the interfaces every command or event acts as the command it performs, and each act has its frame. -/
theorem settingsMoveByTheirOwnCommands : Obligations.SettingsMoveByTheirOwnCommands := by
  intro i s t run noReset
  obtain ⟨s', u, first, act, last⟩ := acts_of_exec noReset run
  obtain ⟨target, weight, quota, allowance, alert, limit, policy, temperature, times, rule, votes⟩ :=
    act.settings.congr first.settingsStand last.settingsStand
  exact ⟨target, weight, quota, allowance, alert, limit, policy, temperature, times, rule, votes⟩

end Sys2Proof.Proofs
end

section
/-! SUPPORT. The frame of every act on the rings, the profile records and the owned counts. -/

namespace Sys2Proof.Machine

/-- Rings, profile contents, owners, share sets, offset records and owned counts stand. -/
structure State.ContentsStand (s t : State) : Prop where
  ring : ∀ q, (t.port q).ring = (s.port q).ring ∧ (t.port q).nextSeq = (s.port q).nextSeq
  contents : ∀ n, (s.profile n).SameContents (t.profile n)
  record : ∀ n, (t.profile n).record = (s.profile n).record
  owned : ∀ q, (t.port q).owned = (s.port q).owned

theorem State.ContentsStand.of_quiet {s t : State} (h : s.Quiet t) : s.ContentsStand t :=
  ⟨fun q => ⟨h.2.ring q, h.2.nextSeq q⟩, h.1.profiles, h.2.record, fun q => (h.1.ports q).owned⟩

theorem State.ContentsStand.trans {s t u : State} (h : s.ContentsStand t) (k : t.ContentsStand u) : s.ContentsStand u where
  ring q := ⟨(k.ring q).1.trans (h.ring q).1, (k.ring q).2.trans (h.ring q).2⟩
  contents n := ⟨(k.contents n).1.trans (h.contents n).1, (k.contents n).2.trans (h.contents n).2,
    (k.contents n).3.trans (h.contents n).3, (k.contents n).4.trans (h.contents n).4,
    (k.contents n).5.trans (h.contents n).5, (k.contents n).6.trans (h.contents n).6⟩
  record n := (k.record n).trans (h.record n)
  owned q := (k.owned q).trans (h.owned q)

theorem State.ContentsStand.modPort (s : State) (p : Port) {f : PortState → PortState}
    (ring : ∀ ps, (f ps).ring = ps.ring ∧ (f ps).nextSeq = ps.nextSeq) (owned : ∀ ps, (f ps).owned = ps.owned) :
    s.ContentsStand (s.modPort p f) where
  ring q := by
    rw [State.port_modPort]
    split
    · subst q; exact ring _
    · exact ⟨rfl, rfl⟩
  contents n := .refl _
  record n := rfl
  owned q := by
    rw [State.port_modPort]
    split
    · subst q; exact owned _
    · rfl

/-- The ports and the profiles stand. -/
theorem State.ContentsStand.of_same {s t : State} (port : ∀ q, t.port q = s.port q) (profile : ∀ n, t.profile n = s.profile n) :
    s.ContentsStand t :=
  ⟨fun q => by rw [port q]; exact ⟨rfl, rfl⟩, fun n => by rw [profile n]; exact .refl _, fun n => by rw [profile n],
    fun q => by rw [port q]⟩

/-- The commands and events that handle rings, contents and owners. -/
def handlesRecords : Instr → Bool
  | .portReset _ | .profileClaim _ _ | .profileWrite _ _ | .profileShare _ _ _ | .profileRelease _ _ | .forceRelease _ _
  | .fetch _ _ | .outputPeriodEnd _ _ => true
  | _ => false

/-- Every other act leaves them. -/
theorem Acts.contentsStand {s t : State} {i : Instr} (act : Acts s i t) (other : handlesRecords i = false) :
    s.ContentsStand t := by
  cases act with
  | portReset | claim | write | share | release | forceRelease | fetch | periodEnd => cases other
  | idle => exact .of_quiet (.refl s)
  | alertConfig | readNotices | setQuota | setWeight | setAllowance => exact .modPort s _ (fun _ => ⟨rfl, rfl⟩) fun _ => rfl
  | retireNow p n => exact .of_quiet (s.quiet_modProfile n (fun _ => ⟨rfl, rfl, rfl, rfl, rfl, rfl⟩) fun _ => rfl)
  | retireBusy p n => exact .of_quiet (s.quiet_retireBusy n)
  | submit p f w => exact .of_quiet (s.quiet_submit p f.tag w)
  | cancel p tag => exact .of_quiet (s.quiet_cancel p tag)
  | exciteVote | setAffinity | setCombine | setExciteTiming | clearLockout | setCalPolicy | linger | holdOff | dwell =>
    exact .of_same (fun _ => rfl) fun _ => rfl
  | engineStart => exact .of_quiet s.quiet_startEngine
  | haltNow => exact .of_quiet s.quiet_enterDown
  | haltLater => exact .of_quiet (.trans (s.quiet_modEngine _) (State.quiet_postAll _ (.engine .halting)))
  | makeOffer p q =>
    have withdrawn : s.Quiet (s.withdrawOther p q) := by
      unfold State.withdrawOther
      split
      · exact .refl s
      · split
        · exact s.quiet_post _ _
        · exact .refl s
    exact .trans (.of_quiet (withdrawn.trans (State.quiet_post _ q (.offer p)))) (.of_same (fun _ => rfl) fun _ => rfl)
  | handOver p =>
    exact .trans (t := { s with supervisor := p, offer := none, offerTimer := .stopped })
      (.of_same (fun _ => rfl) fun _ => rfl) (.of_quiet (State.quiet_postAll _ _))
  | enterRunning => exact .of_quiet s.quiet_enterRunning
  | interval => exact .of_quiet s.quiet_placeAndKick
  | warmUp o => exact .of_quiet ((s.quiet_warmedUp o).trans (State.quiet_kick _))
  | trip o => exact .of_quiet (s.quiet_trip o)
  | offerLapse o =>
    exact .trans (t := { s with offer := none, offerTimer := .stopped })
      (.of_same (fun _ => rfl) fun _ => rfl) (.of_quiet (State.quiet_post _ _ _))

/-! ## The acts that handle them -/

/-- A port reset clears its own ring alone. -/
theorem State.resetPort_stands (s : State) (p : Port) :
    (∀ q, q ≠ p → ((s.resetPort p).port q).ring = (s.port q).ring ∧ ((s.resetPort p).port q).nextSeq = (s.port q).nextSeq) ∧
    (∀ n, (s.profile n).SameContents ((s.resetPort p).profile n) ∧ ((s.resetPort p).profile n).record = (s.profile n).record) ∧
    ∀ q, ((s.resetPort p).port q).owned = (s.port q).owned := by
  have ended : s.ContentsStand (s.terminate .portReset (Request.isFrom p)) := .of_quiet (s.quiet_terminate _ _)
  have rest : ((s.terminate .portReset (Request.isFrom p)).modPort p (·.cleared)).ContentsStand (s.resetPort p) := by
    have voted : ((s.terminate .portReset (Request.isFrom p)).modPort p (·.cleared)).ContentsStand (s.resetEnded p) := by
      have withdrawn : ((s.terminate .portReset (Request.isFrom p)).modPort p (·.cleared)).ContentsStand
          (((s.terminate .portReset (Request.isFrom p)).modPort p (·.cleared)).withdrawFor p) := by
        unfold State.withdrawFor
        split
        · exact .of_quiet (.refl _)
        · split
          · exact .of_quiet (.refl _)
          · refine .trans (t := { (s.terminate .portReset (Request.isFrom p)).modPort p (·.cleared) with
              offer := none, offerTimer := .stopped }) (.of_same (fun _ => rfl) fun _ => rfl)
              (.of_quiet (State.quiet_post _ _ _))
      exact withdrawn.trans (.of_same (fun _ => rfl) fun _ => rfl)
    have freed : ((s.terminate .portReset (Request.isFrom p)).modPort p (·.cleared)).ContentsStand (s.resetFreed p) := by
      unfold State.resetFreed
      split
      · exact voted.trans (.of_quiet (State.quiet_freed _ _))
      · exact voted
    rw [s.resetPort_eq]
    exact freed.trans (.modPort _ p (f := (·.judgeAlert)) (fun _ => ⟨rfl, rfl⟩) fun _ => rfl)
  refine ⟨fun q other => ?_, fun n => ?_, fun q => ?_⟩
  · have a := rest.ring q
    rw [State.port_modPort_other _ other] at a
    exact ⟨a.1.trans (ended.ring q).1, a.2.trans (ended.ring q).2⟩
  · have a := rest.contents n
    exact ⟨⟨a.1.trans (ended.contents n).1, a.2.trans (ended.contents n).2, a.3.trans (ended.contents n).3,
      a.4.trans (ended.contents n).4, a.5.trans (ended.contents n).5, a.6.trans (ended.contents n).6⟩,
      (rest.record n).trans (ended.record n)⟩
  · rw [rest.owned q, State.port_modPort]
    split
    · subst q; exact ended.owned _
    · exact ended.owned q

/-- A forced release moves no ring, and no profile but its own. -/
theorem State.forceRelease_stands (s : State) (n : Fin 32) :
    (∀ q, ((s.forceRelease n).port q).ring = (s.port q).ring ∧ ((s.forceRelease n).port q).nextSeq = (s.port q).nextSeq) ∧
    (∀ m, m ≠ n → (s.profile m).SameContents ((s.forceRelease n).profile m) ∧
      ((s.forceRelease n).profile m).record = (s.profile m).record) ∧
    ((s.forceRelease n).profile n).state = .free := by
  have ended : (s.erase n).Quiet ((s.erase n).terminate .revoked (Request.names n)) := State.quiet_terminate _ _ _
  have disowned : ∀ q, ((((s.erase n).terminate .revoked (Request.names n)).disown (s.profile n).owner).port q).ring =
      (s.port q).ring ∧
      ((((s.erase n).terminate .revoked (Request.names n)).disown (s.profile n).owner).port q).nextSeq =
        (s.port q).nextSeq := by
    intro q
    have kept := State.ContentsStand.of_quiet ended
    unfold State.disown
    split
    · rw [State.port_modPort]
      split
      · subst q; exact kept.ring _
      · exact kept.ring q
    · exact kept.ring q
  have profile : ∀ m, (((s.erase n).terminate .revoked (Request.names n)).disown (s.profile n).owner).profile m =
      ((s.erase n).terminate .revoked (Request.names n)).profile m := fun m => by
    unfold State.disown
    split <;> rfl
  have rest : (((s.erase n).terminate .revoked (Request.names n)).disown (s.profile n).owner).ContentsStand
      (s.forceRelease n) :=
    .of_quiet (.trans (.trans (State.quiet_postOwner _ _ _) (State.quiet_refreshDemand _)) (State.quiet_afterTerminations _ _))
  refine ⟨fun q => ?_, fun m other => ?_, ?_⟩
  · exact ⟨(rest.ring q).1.trans (disowned q).1, (rest.ring q).2.trans (disowned q).2⟩
  · have a := rest.contents m
    have b := rest.record m
    have c := ended.1.profiles m
    have d := ended.2.record m
    rw [profile m] at a b
    rw [State.erase, State.profile_modProfile_other _ other] at c d
    exact ⟨⟨a.1.trans c.1, a.2.trans c.2, a.3.trans c.3, a.4.trans c.4, a.5.trans c.5, a.6.trans c.6⟩, b.trans d⟩
  · have w : (s.erase n).Winds (s.forceRelease n) :=
      .trans (.trans (.trans (.trans (State.winds_terminate _ _ _) (State.winds_disown _ _))
        (State.noticesOnly_postOwner _ _ _).winds) (State.winds_refreshDemand _)) (State.winds_afterTerminations _ _)
    rcases w.state n with e | ⟨e, -, -⟩
    · rw [e, State.erase, State.profile_modProfile_self]; rfl
    · rw [State.erase, State.profile_modProfile_self] at e; cases e

/-! ## The frame -/

/-- Each ring, record item and count moves by its own commands and results. -/
structure RecordsFrame (i : Instr) (s t : State) : Prop where
  ring : ∀ q, (t.port q).ring ≠ (s.port q).ring ∨ (t.port q).nextSeq ≠ (s.port q).nextSeq →
    (∃ raw overload, i = .outputPeriodEnd raw overload) ∨ (∃ n, i = .fetch q n) ∨ i = .portReset q
  contents : ∀ n : Fin 32, (t.profile n).setup ≠ (s.profile n).setup ∨ (t.profile n).method ≠ (s.profile n).method ∨
    (t.profile n).need ≠ (s.profile n).need ∨ (t.profile n).autoRecal ≠ (s.profile n).autoRecal →
    (∃ p b, i = .profileClaim p b) ∨ (∃ p f, i = .profileWrite p f ∧ f.number = unsigned8 n.val) ∨
      (∃ p, i = .profileRelease p (unsigned8 n.val)) ∨ ∃ p, i = .forceRelease p (unsigned8 n.val)
  state : ∀ n : Fin 32, (t.profile n).state ≠ (s.profile n).state →
    (∃ p b, i = .profileClaim p b ∧ (s.profile n).state = .free ∧ (t.profile n).state = .claimed) ∨
      (∃ p f, i = .profileWrite p f ∧ f.number = unsigned8 n.val ∧ (t.profile n).state = .active) ∨
      (∃ p, i = .profileRetire p (unsigned8 n.val) ∧ (s.profile n).state = .active ∧
        ((t.profile n).state = .claimed ∨ (t.profile n).state = .retiring)) ∨
      (∃ p, i = .profileRelease p (unsigned8 n.val) ∧ (t.profile n).state = .free) ∨
      (∃ p, i = .forceRelease p (unsigned8 n.val) ∧ (t.profile n).state = .free) ∨
      (s.profile n).state = .retiring ∧ (t.profile n).state = .claimed ∧ (t.profile n).refCount = 0
  owner : ∀ n : Fin 32, (t.profile n).owner ≠ (s.profile n).owner →
    (∃ p b, i = .profileClaim p b) ∨ (∃ p, i = .profileRelease p (unsigned8 n.val)) ∨
      ∃ p, i = .forceRelease p (unsigned8 n.val)
  share : ∀ n : Fin 32, (t.profile n).share ≠ (s.profile n).share →
    (∃ p b, i = .profileClaim p b) ∨ (∃ p set, i = .profileShare p (unsigned8 n.val) set) ∨
      (∃ p, i = .profileRelease p (unsigned8 n.val)) ∨ ∃ p, i = .forceRelease p (unsigned8 n.val)
  record : ∀ n : Fin 32, (t.profile n).record ≠ (s.profile n).record →
    (∃ raw overload, i = .outputPeriodEnd raw overload) ∨ (∃ p b, i = .profileClaim p b) ∨
      (∃ p f, i = .profileWrite p f ∧ f.number = unsigned8 n.val) ∨
      (∃ p, i = .profileRelease p (unsigned8 n.val)) ∨ ∃ p, i = .forceRelease p (unsigned8 n.val)
  owned : ∀ q, (t.port q).owned ≠ (s.port q).owned →
    (∃ b, i = .profileClaim q b) ∨ (∃ b, i = .profileRelease q b) ∨ ∃ p b, i = .forceRelease p b

section

variable {s t : State} {i : Instr} (act : Acts s i t)
include act

theorem Acts.ring_frame (q : Port) (moved : (t.port q).ring ≠ (s.port q).ring ∨ (t.port q).nextSeq ≠ (s.port q).nextSeq) :
    (∃ raw overload, i = .outputPeriodEnd raw overload) ∨ (∃ n, i = .fetch q n) ∨ i = .portReset q := by
  have stands : ∀ {u : State}, ((u.port q).ring = (s.port q).ring ∧ (u.port q).nextSeq = (s.port q).nextSeq) →
      ¬ ((u.port q).ring ≠ (s.port q).ring ∨ (u.port q).nextSeq ≠ (s.port q).nextSeq) := by
    rintro u ⟨a, b⟩ (c | c)
    · exact c a
    · exact c b
  by_cases handles : handlesRecords i = false
  · exact absurd moved (stands ((act.contentsStand handles).ring q))
  cases act with
  | idle => exact absurd moved (stands ⟨rfl, rfl⟩)
  | portReset p =>
    by_cases same : q = p
    · exact .inr (.inr (by rw [same]))
    · exact absurd moved (stands ((s.resetPort_stands p).1 q same))
  | claim p b n =>
    refine absurd moved (stands ?_)
    rw [State.claim, State.port_modPort]
    split
    · subst q; exact ⟨rfl, rfl⟩
    · exact ⟨rfl, rfl⟩
  | write | share => exact absurd moved (stands ⟨rfl, rfl⟩)
  | release p n =>
    refine absurd moved (stands ?_)
    rw [State.disown, State.port_modPort]
    split
    · subst q; exact ⟨rfl, rfl⟩
    · exact ⟨rfl, rfl⟩
  | forceRelease p n => exact absurd moved (stands ((s.forceRelease_stands n).1 q))
  | fetch p b n =>
    by_cases same : q = p
    · exact .inr (.inl ⟨b, by rw [same]⟩)
    · refine absurd moved (stands ?_)
      have kicked := State.ContentsStand.of_quiet (State.quiet_kick (s.modPort p (·.fetched n)))
      have := kicked.ring q
      rwa [State.port_modPort_other _ same] at this
  | periodEnd raw overload => exact .inl ⟨raw, overload, rfl⟩
  | _ => exact absurd rfl handles

/-- A profile that is not claimed, released or erased: its owner stands, and its other contents but for its PROFILE_WRITE and
PROFILE_SHARE. -/
theorem Acts.profile_frame (n : Fin 32) (claim : ¬ ∃ p b, i = .profileClaim p b)
    (release : ¬ ∃ p, i = .profileRelease p (unsigned8 n.val)) (force : ¬ ∃ p, i = .forceRelease p (unsigned8 n.val)) :
    (t.profile n).owner = (s.profile n).owner ∧
      ((t.profile n).share = (s.profile n).share ∨ ∃ p b, i = .profileShare p (unsigned8 n.val) b) ∧
      ((s.profile n).SameContents { t.profile n with share := (s.profile n).share } ∧
        ((t.profile n).record = (s.profile n).record ∨ ∃ raw overload, i = .outputPeriodEnd raw overload) ∨
        ∃ p f, i = .profileWrite p f ∧ f.number = unsigned8 n.val) := by
  have standing : ∀ {u : State}, (s.profile n).SameContents (u.profile n) →
      ((u.profile n).record = (s.profile n).record ∨ ∃ raw overload, i = .outputPeriodEnd raw overload) →
      (u.profile n).owner = (s.profile n).owner ∧
        ((u.profile n).share = (s.profile n).share ∨ ∃ p b, i = .profileShare p (unsigned8 n.val) b) ∧
        ((s.profile n).SameContents { u.profile n with share := (s.profile n).share } ∧
          ((u.profile n).record = (s.profile n).record ∨ ∃ raw overload, i = .outputPeriodEnd raw overload) ∨
          ∃ p f, i = .profileWrite p f ∧ f.number = unsigned8 n.val) := fun same record =>
    ⟨same.owner, .inl same.share, .inl ⟨⟨same.setup, same.method, same.need, same.autoRecal, same.owner, rfl⟩, record⟩⟩
  by_cases handles : handlesRecords i = false
  · exact standing ((act.contentsStand handles).contents n) (.inl ((act.contentsStand handles).record n))
  have elsewhere : ∀ {m : Fin 32} (f : Profile → Profile), n ≠ m →
      (s.profile n).SameContents ((s.modProfile m f).profile n) ∧
        ((s.modProfile m f).profile n).record = (s.profile n).record := fun f other => by
    rw [State.profile_modProfile_other _ other]
    exact ⟨.refl _, rfl⟩
  cases act with
  | idle => exact standing (.refl _) (.inl rfl)
  | portReset p =>
    obtain ⟨contents, record⟩ := (s.resetPort_stands p).2.1 n
    exact standing contents (.inl record)
  | claim p b => exact absurd ⟨p, b, rfl⟩ claim
  | write p f m w user code =>
    by_cases same : n = m
    · subst same
      rw [State.profile_modProfile_self]
      exact ⟨rfl, .inl rfl, .inr ⟨p, f, rfl, code⟩⟩
    · exact standing (elsewhere (·.written w) same).1 (.inl (elsewhere (·.written w) same).2)
  | share p set b m =>
    by_cases same : n = m
    · subst same
      rw [State.profile_modProfile_self]
      exact ⟨rfl, .inr ⟨p, b, rfl⟩, .inl ⟨⟨rfl, rfl, rfl, rfl, rfl, rfl⟩, .inl rfl⟩⟩
    · obtain ⟨contents, record⟩ := elsewhere (fun profile => { profile with share := storedShare p set }) same
      exact standing contents (.inl record)
  | release p m =>
    have other : n ≠ m := by rintro rfl; exact release ⟨p, rfl⟩
    obtain ⟨contents, record⟩ := elsewhere (fun _ => .default) other
    exact standing contents (.inl record)
  | forceRelease p m =>
    have other : n ≠ m := by rintro rfl; exact force ⟨p, rfl⟩
    obtain ⟨contents, record⟩ := (s.forceRelease_stands m).2.1 n other
    exact standing contents (.inl record)
  | fetch p b k =>
    have kicked := State.quiet_kick (s.modPort p (·.fetched k))
    exact standing (kicked.1.profiles n) (.inl (kicked.2.record n))
  | periodEnd raw overload =>
    exact standing ((s.keeps_endPeriod raw overload).profiles n) (.inr ⟨raw, overload, rfl⟩)
  | _ => exact absurd rfl handles

theorem Acts.owned_frame (q : Port) (moved : (t.port q).owned ≠ (s.port q).owned) :
    (∃ b, i = .profileClaim q b) ∨ (∃ b, i = .profileRelease q b) ∨ ∃ p b, i = .forceRelease p b := by
  by_cases handles : handlesRecords i = false
  · exact absurd ((act.contentsStand handles).owned q) moved
  cases act with
  | idle => exact absurd rfl moved
  | portReset p => exact absurd ((s.resetPort_stands p).2.2 q) moved
  | claim p b n =>
    by_cases same : q = p
    · exact .inl ⟨b, by rw [same]⟩
    · exact absurd (congrArg (·.owned) (State.port_modPort_other _ same _)) moved
  | write | share => exact absurd rfl moved
  | release p n =>
    by_cases same : q = p
    · exact .inr (.inl ⟨_, by rw [same]⟩)
    · exact absurd (congrArg (·.owned) (State.port_modPort_other _ same _)) moved
  | forceRelease p n => exact .inr (.inr ⟨p, _, rfl⟩)
  | fetch p b n =>
    have kicked := ((State.quiet_kick (s.modPort p (·.fetched n))).1.ports q).owned
    refine absurd (kicked.trans ?_) moved
    rw [State.port_modPort]
    split
    · subst q
      unfold PortState.fetched PortState.rearm
      split <;> rfl
    · rfl
  | periodEnd raw overload => exact absurd ((s.keeps_endPeriod raw overload).ports q).owned moved
  | _ => exact absurd rfl handles

theorem Acts.state_frame (n : Fin 32) (moved : (t.profile n).state ≠ (s.profile n).state) :
    (∃ p b, i = .profileClaim p b ∧ (s.profile n).state = .free ∧ (t.profile n).state = .claimed) ∨
      (∃ p f, i = .profileWrite p f ∧ f.number = unsigned8 n.val ∧ (t.profile n).state = .active) ∨
      (∃ p, i = .profileRetire p (unsigned8 n.val) ∧ (s.profile n).state = .active ∧
        ((t.profile n).state = .claimed ∨ (t.profile n).state = .retiring)) ∨
      (∃ p, i = .profileRelease p (unsigned8 n.val) ∧ (t.profile n).state = .free) ∨
      (∃ p, i = .forceRelease p (unsigned8 n.val) ∧ (t.profile n).state = .free) ∨
      (s.profile n).state = .retiring ∧ (t.profile n).state = .claimed ∧ (t.profile n).refCount = 0 := by
  obtain ⟨touched, deals, which⟩ := act.deals
  by_cases untouched : touched ≠ some n
  · exact .inr (.inr (.inr (.inr (.inr ((deals.state untouched).resolve_left moved)))))
  have touches := which n (not_not.1 untouched)
  cases act with
  | idle => exact absurd rfl moved
  | claim p b m user free =>
    by_cases same : n = m
    · subst same
      refine .inl ⟨p, b, rfl, free, ?_⟩
      rw [State.claim, State.modPort_profile, State.profile_modProfile_self]
      rfl
    · refine absurd ?_ moved
      rw [State.claim, State.modPort_profile, State.profile_modProfile_other _ same]
  | write p f m w user code =>
    by_cases same : n = m
    · subst same
      exact .inr (.inl ⟨p, f, rfl, code, by rw [State.profile_modProfile_self]; rfl⟩)
    · exact absurd (by rw [State.profile_modProfile_other _ same]) moved
  | retireNow p m user active =>
    by_cases same : n = m
    · subst same
      exact .inr (.inr (.inl ⟨p, rfl, active, .inl (by rw [State.profile_modProfile_self])⟩))
    · exact absurd (by rw [State.profile_modProfile_other _ same]) moved
  | retireBusy p m user active =>
    have w : (s.modProfile m fun profile => { profile with state := .retiring }).Winds (s.retireBusy m) :=
      .trans (.trans (.trans (State.winds_markFinal _ m) (State.winds_terminate _ _ _)) (State.winds_refreshDemand _))
        (State.winds_kick _)
    by_cases same : n = m
    · subst same
      refine .inr (.inr (.inl ⟨p, rfl, active, ?_⟩))
      rcases w.state n with e | ⟨-, e, -⟩
      · exact .inr (by rw [e, State.profile_modProfile_self])
      · exact .inl e
    · have := w.state n
      rw [State.profile_modProfile_other _ same] at this
      exact .inr (.inr (.inr (.inr (.inr (this.resolve_left moved)))))
  | release p m =>
    by_cases same : n = m
    · subst same
      exact .inr (.inr (.inr (.inl ⟨p, rfl, by
        rw [State.disown, State.modPort_profile, State.profile_modProfile_self]; rfl⟩)))
    · refine absurd ?_ moved
      rw [State.disown, State.modPort_profile, State.profile_modProfile_other _ same]
  | forceRelease p m =>
    have same : unsigned8 m.val = unsigned8 n.val := by
      rcases touches with ⟨_, _, e⟩ | ⟨_, _, e, -⟩ | ⟨_, e⟩ | ⟨_, e⟩ | ⟨_, e⟩ <;> injection e
    have number : m = n := Fin.ext (by simpa using congrArg BitVec.toNat same)
    subst number
    exact .inr (.inr (.inr (.inr (.inl ⟨p, rfl, (s.forceRelease_stands m).2.2⟩))))
  | _ => rcases touches with ⟨_, _, e⟩ | ⟨_, _, e, -⟩ | ⟨_, e⟩ | ⟨_, e⟩ | ⟨_, e⟩ <;> cases e

end

theorem Acts.records {s t : State} {i : Instr} (act : Acts s i t) : RecordsFrame i s t where
  ring q moved := act.ring_frame q moved
  state n moved := act.state_frame n moved
  owned q moved := act.owned_frame q moved
  contents n moved := by
    by_contra none
    simp only [not_or] at none
    obtain ⟨claim, write, release, force⟩ := none
    obtain ⟨stand, -⟩ := (act.profile_frame n claim release force).2.2.resolve_right write
    rcases moved with m | m | m | m
    exacts [m stand.setup, m stand.method, m stand.need, m stand.autoRecal]
  owner n moved := by
    by_contra none
    simp only [not_or] at none
    exact moved (act.profile_frame n none.1 none.2.1 none.2.2).1
  share n moved := by
    by_contra none
    simp only [not_or] at none
    obtain ⟨claim, share, release, force⟩ := none
    exact (act.profile_frame n claim release force).2.1.elim moved share
  record n moved := by
    by_contra none
    simp only [not_or] at none
    obtain ⟨period, claim, write, release, force⟩ := none
    exact ((act.profile_frame n claim release force).2.2.resolve_right write).2.elim moved period

/-- The frame reads nothing of the interfaces. -/
theorem RecordsFrame.congr {s s' t t' : State} {i : Instr} (h : RecordsFrame i s t) (first : s'.SameCore s)
    (last : t.SameCore t') : RecordsFrame i s' t' where
  ring q moved := by
    have ring := fun {a b : State} (k : a.SameCore b) => k.read (·.ring) (fun _ _ _ => rfl) q
    have next := fun {a b : State} (k : a.SameCore b) => k.read (·.nextSeq) (fun _ _ _ => rfl) q
    rw [ring last, next last, ← ring first, ← next first] at moved
    exact h.ring q moved
  contents n moved := h.contents n (by rwa [last.profile, ← first.profile] at moved)
  state n moved := by
    rw [last.profile, ← first.profile] at moved ⊢
    exact h.state n moved
  owner n moved := h.owner n (by rwa [last.profile, ← first.profile] at moved)
  share n moved := h.share n (by rwa [last.profile, ← first.profile] at moved)
  record n moved := h.record n (by rwa [last.profile, ← first.profile] at moved)
  owned q moved := by
    have owned := fun {a b : State} (k : a.SameCore b) => k.read (·.owned) (fun _ _ _ => rfl) q
    rw [owned last, ← owned first] at moved
    exact h.owned q moved

end Sys2Proof.Machine
end

section
/-! PROOF. The frame of rings and profiles. -/

namespace Sys2Proof.Proofs
open Sys2Proof Sys2Proof.Machine

/-- Settles O16, as the frame of the settings: each act has its frame, and the interfaces are no part of it. -/
theorem ringsAndProfilesMoveByTheirOwnCommands : Obligations.RingsAndProfilesMoveByTheirOwnCommands := by
  intro i s t run noReset
  obtain ⟨s', u, first, act, last⟩ := acts_of_exec noReset run
  obtain ⟨ring, contents, state, owner, share, record, owned⟩ := act.records.congr first last
  exact ⟨ring, contents, state, owner, share, record, owned⟩

end Sys2Proof.Proofs
end

section
/-! SUPPORT. The slot pool and the monitor queue through every act (R31 to R34, R37). -/

namespace Sys2Proof.Machine

/-! ## Queues that lose requests -/

theorem mem_of_asks {l m : List Request} (asks : (l.map Request.ask).Subperm (m.map Request.ask)) {r : Request}
    (mem : r ∈ l) : ∃ x ∈ m, x.ask = r.ask := by
  simpa using asks.subset (List.mem_map_of_mem mem)

theorem countP_le_of_asks {l m : List Request} (asks : (l.map Request.ask).Subperm (m.map Request.ask))
    (f : Request → Bool) (unmarked : ∀ r : Request, f r.ask = f r) : l.countP f ≤ m.countP f := by
  have := asks.countP_le f
  rwa [countP_ask _ _ unmarked, countP_ask _ _ unmarked] at this

theorem nodup_of_asks {α : Type} {l m : List Request} (asks : (l.map Request.ask).Subperm (m.map Request.ask))
    (f : Request → α) (unmarked : ∀ r : Request, f r.ask = f r) (nodup : (m.map f).Nodup) : (l.map f).Nodup := by
  have through : ∀ x : List Request, x.map f = (x.map Request.ask).map f := fun x => by
    rw [List.map_map]
    exact List.map_congr_left fun r _ => (unmarked r).symm
  rw [through] at nodup ⊢
  obtain ⟨x, perm, sub⟩ := asks
  exact (perm.map f).nodup_iff.1 ((sub.map f).nodup nodup)

theorem filter_asks {l m : List Request} (asks : (l.map Request.ask).Subperm (m.map Request.ask)) (f : Request → Bool)
    (unmarked : ∀ r : Request, f r.ask = f r) : ((l.filter f).map Request.ask).Subperm ((m.filter f).map Request.ask) := by
  have through : ∀ x : List Request, (x.filter f).map Request.ask = (x.map Request.ask).filter f := fun x => by
    rw [List.filter_map]
    exact congrArg _ (List.filter_congr fun r _ => (unmarked r).symm)
  rw [through, through]
  exact asks.filter f

/-! ## The slot pool -/

/-- The ports' queues lose requests and their slots alone. -/
def State.QueuesWind (s t : State) : Prop :=
  ∀ q, ((t.port q).queue.map Request.ask).Subperm ((s.port q).queue.map Request.ask) ∧
    (t.port q).used = (s.port q).used - ((s.port q).queue.length - (t.port q).queue.length)

theorem State.Winds.queuesWind {s t : State} (w : s.Winds t) : s.QueuesWind t := fun q => ⟨w.queue q, w.used q⟩

theorem State.QueuesWind.of_port {s s' t : State} (w : s'.QueuesWind t)
    (same : ∀ q, (s'.port q).queue = (s.port q).queue ∧ (s'.port q).used = (s.port q).used) : s.QueuesWind t := by
  intro q
  have := w q
  rwa [(same q).1, (same q).2] at this

theorem State.QueuesWind.trans_winds {s t u : State} (h : s.QueuesWind t) (k : t.Winds u) : s.QueuesWind u := by
  intro q
  obtain ⟨asks, used⟩ := h q
  have shorter : (t.port q).queue.length ≤ (s.port q).queue.length := by simpa using asks.length_le
  have := k.length_le q
  refine ⟨(k.queue q).trans asks, ?_⟩
  rw [k.used q, used]
  omega

/-- An act takes requests off the queues, or accepts one. -/
theorem State.Deals.queues {s t : State} {touched : Option (Fin 32)} (d : s.Deals touched t) :
    s.QueuesWind t ∨ ∃ p tag w, s.submitRefusal p tag w = none ∧ (s.enqueue p (newRequest p tag w)).QueuesWind t := by
  cases d with
  | winds w => exact .inl w.queuesWind
  | lifecycle n f user count empty held w => exact .inl (w.queuesWind.of_port fun _ => ⟨rfl, rfl⟩)
  | erases n user w =>
    exact .inl (((State.winds_terminate _ _ _).trans w).queuesWind.of_port fun _ => ⟨rfl, rfl⟩)
  | submits p tag w accepted wind => exact .inr ⟨p, tag, w, accepted, wind.queuesWind⟩
  | samples u before profiles queue none w =>
    refine .inl (State.QueuesWind.trans_winds (t := u.place 0 .measure) (fun q => ?_) w)
    exact ⟨before.queue q, before.used q⟩
  | passes u before profiles queue w =>
    refine .inl (State.QueuesWind.trans_winds (t := u.ageingPass) (fun q => ?_) w)
    rw [u.ageingPass_port (·.queue) (fun _ _ _ _ => rfl) q, u.ageingPass_port (·.used) (fun _ _ _ _ => rfl) q]
    exact ⟨before.queue q, before.used q⟩

theorem State.SlotsLawful.queuesWind {s t : State} (h : s.SlotsLawful) (w : s.QueuesWind t)
    (settings : ∀ q, (t.port q).reserve = (s.port q).reserve ∧ (t.port q).ceiling = (s.port q).ceiling) : t.SlotsLawful := by
  obtain ⟨ports, sum⟩ := h
  have less : ∀ q, (t.port q).queue.length = (t.port q).used ∧ (t.port q).used ≤ (s.port q).used := fun q => by
    obtain ⟨asks, used⟩ := w q
    have shorter : (t.port q).queue.length ≤ (s.port q).queue.length := by simpa using asks.length_le
    have := (ports q).1
    omega
  refine ⟨fun q => ?_, ?_⟩
  · obtain ⟨-, within, reserve, ceiling, sources, tags⟩ := ports q
    obtain ⟨asks, -⟩ := w q
    obtain ⟨length, fewer⟩ := less q
    rw [(settings q).1, (settings q).2]
    refine ⟨length, fewer.trans within, reserve, ceiling, fun r mem => ?_, nodup_of_asks asks (·.tag) (fun _ => rfl) tags⟩
    obtain ⟨x, from', same⟩ := mem_of_asks asks mem
    exact (congrArg Request.source same).symm.trans (sources x from')
  · have a := (less .a).2
    have b := (less .b).2
    have c := (less .c).2
    rw [(settings .a).1, (settings .b).1, (settings .c).1]
    omega

theorem State.SlotsLawful.enqueue {s : State} (h : s.SlotsLawful) {p : Port} {tag : Byte} {w : Submission}
    (accepted : s.submitRefusal p tag w = none) : (s.enqueue p (newRequest p tag w)).SlotsLawful := by
  have fresh : (s.port p).tagged tag = none ∧ s.quotaPasses p = true := by
    unfold State.submitRefusal at accepted
    repeat' split at accepted
    all_goals cases accepted
    next untagged quota => exact ⟨by simpa using untagged, by simpa using quota⟩
  obtain ⟨untagged, quota⟩ := fresh
  have room : (s.port p).used < (s.port p).ceiling ∧ ((s.port p).used < (s.port p).reserve ∨
      max (s.port .a).used (s.port .a).reserve + max (s.port .b).used (s.port .b).reserve +
        max (s.port .c).used (s.port .c).reserve < 24) := by
    simp only [State.quotaPasses, Bool.and_eq_true, Bool.or_eq_true, decide_eq_true_eq] at quota
    exact quota
  obtain ⟨ports, sum⟩ := h
  have port : ∀ q, (s.enqueue p (newRequest p tag w)).port q =
      if q = p then { s.port p with used := (s.port p).used + 1, queue := (s.port p).queue ++ [newRequest p tag w] }
      else s.port q := fun q => by rw [State.enqueue, State.modProfile_port, State.port_modPort]
  refine ⟨fun q => ?_, ?_⟩
  · rw [port q]
    split
    next same =>
      subst same
      obtain ⟨length, within, reserve, ceiling, sources, tags⟩ := ports q
      refine ⟨by simp [length], room.1, reserve, ceiling, fun r mem => ?_, ?_⟩
      · rcases List.mem_append.1 mem with old | new
        · exact sources r old
        · rw [List.mem_singleton.1 new]; rfl
      · rw [List.map_append, List.nodup_append]
        refine ⟨tags, by simp, fun x old y new => ?_⟩
        obtain ⟨r, mem, rfl⟩ := List.mem_map.1 old
        have : y = some tag := by simpa [newRequest] using new
        rw [this]
        simpa using List.find?_eq_none.1 untagged r mem
    · exact ports q
  · rw [port .a, port .b, port .c]
    have := room.2
    cases p <;> simp only [reduceCtorEq, if_true, if_false] <;> omega

theorem State.SlotsLawful.acts {s t : State} {i : Instr} (h : s.SlotsLawful) (act : Acts s i t) : t.SlotsLawful := by
  by_cases quota : ∃ p q x y, i = .setQuota p q x y
  · obtain ⟨p, q, x, y, rfl⟩ := quota
    cases act with
    | idle => exact h
    | setQuota p q x y order most used sum =>
      obtain ⟨ports, -⟩ := h
      refine ⟨fun o => ?_, sum⟩
      rw [State.withQuota, State.port_modPort]
      split
      next same =>
        subst same
        obtain ⟨length, -, -, -, sources, tags⟩ := ports o
        exact ⟨length, used, order, most, sources, tags⟩
      · exact ports o
  · have settings : ∀ q, (t.port q).reserve = (s.port q).reserve ∧ (t.port q).ceiling = (s.port q).ceiling := by
      intro q
      by_contra moved
      rw [not_and_or] at moved
      obtain ⟨p, x, y, e⟩ := act.settings.quota q moved
      exact quota ⟨p, _, x, y, e⟩
    obtain ⟨touched, deals, -⟩ := act.deals
    rcases deals.queues with w | ⟨p, tag, w, accepted, wind⟩
    · exact h.queuesWind w settings
    · refine (h.enqueue accepted).queuesWind wind fun q => ?_
      rw [State.enqueue, State.modProfile_port, State.port_modPort]
      split
      · subst q; exact settings p
      · exact settings q

theorem State.SlotsLawful.sameCore {s t : State} (same : s.SameCore t) (h : s.SlotsLawful) : t.SlotsLawful :=
  h.queuesWind same.winds.queuesWind fun q => ⟨same.read (·.reserve) (fun _ _ _ => rfl) q,
    same.read (·.ceiling) (fun _ _ _ => rfl) q⟩

theorem State.port_resetWith (straps : Straps) (q : Port) : (State.resetWith straps).port q = .reset := by
  cases q <;> rfl

theorem State.mem_resetWith {straps : Straps} {r : Request} :
    r ∉ (State.resetWith straps).monitor.queue ∧ ∀ q, r ∉ ((State.resetWith straps).port q).queue := by
  have empty : (State.resetWith straps).monitor.queue = [] := rfl
  refine ⟨by rw [empty]; exact List.not_mem_nil, fun q => ?_⟩
  have none : PortState.reset.queue = [] := rfl
  rw [State.port_resetWith, none]
  exact List.not_mem_nil

theorem State.SlotsLawful.resetWith (straps : Straps) : (State.resetWith straps).SlotsLawful := by
  have fresh := State.port_resetWith straps
  refine ⟨fun q => ?_, by rw [fresh, fresh, fresh]; decide⟩
  refine ⟨?_, ?_, ?_, ?_, fun r mem => absurd mem (State.mem_resetWith.2 q), ?_⟩ <;> rw [fresh]
  · rfl
  · decide
  · decide
  · decide
  · exact List.nodup_nil

/-! ## The monitor queue -/

theorem State.MonitorQueueLawful.of_asks {s t : State} (h : s.MonitorQueueLawful)
    (asks : (t.monitor.queue.map Request.ask).Subperm (s.monitor.queue.map Request.ask)) : t.MonitorQueueLawful := by
  obtain ⟨samples, zeros, distinct, entries⟩ := h
  refine ⟨(countP_le_of_asks asks _ fun _ => rfl).trans samples, (countP_le_of_asks asks _ fun _ => rfl).trans zeros, ?_, ?_⟩
  · exact nodup_of_asks (filter_asks asks _ fun _ => rfl) (·.profile) (fun _ => rfl) distinct
  · intro r mem
    obtain ⟨x, from', same⟩ := mem_of_asks asks mem
    simp only [Request.ask, Request.mk.injEq] at same
    obtain ⟨source, tag, profile, kind, count, run, window, -⟩ := same
    have := entries x from'
    rwa [source, tag, profile, kind, count, run, window] at this

theorem State.MonitorQueueLawful.place {s : State} (h : s.MonitorQueueLawful) {n : Fin 32} {kind : Kind}
    (sample : kind = .measure → n = 0 ∧ s.monitor.queue.any (·.kind = .measure) = false)
    (zero : kind = .zero → n ≠ 0 ∧ s.monitor.queue.countP (fun r => decide (r.kind = .zero)) < 2 ∧
      (s.monitor.queue.any fun r => decide (r.kind = .zero ∧ r.profile = n)) = false) : (s.place n kind).MonitorQueueLawful := by
  obtain ⟨samples, zeros, distinct, entries⟩ := h
  have queue : (s.place n kind).monitor.queue = s.monitor.queue ++ [monitorEntry n kind] := rfl
  unfold State.MonitorQueueLawful
  rw [queue]
  have own : ∀ r ∈ s.monitor.queue ++ [monitorEntry n kind], r ∈ s.monitor.queue ∨ r = monitorEntry n kind := fun r mem => by
    simpa using mem
  cases kind with
  | measure =>
    obtain ⟨rfl, none⟩ := sample rfl
    have clear : s.monitor.queue.countP (fun r => decide (r.kind = .measure)) = 0 := by
      rw [List.countP_eq_zero]
      simpa [List.any_eq_false] using none
    refine ⟨?_, ?_, ?_, fun r mem => ?_⟩
    · simp [List.countP_append, clear, monitorEntry]
    · simpa [List.countP_append, List.countP_singleton, monitorEntry] using zeros
    · simpa [List.filter_append, monitorEntry] using distinct
    · rcases own r mem with old | rfl
      · exact entries r old
      · exact ⟨rfl, rfl, rfl, rfl, rfl, fun _ => rfl, nofun⟩
  | zero =>
    obtain ⟨user, room, fresh⟩ := zero rfl
    refine ⟨?_, ?_, ?_, fun r mem => ?_⟩
    · simpa [List.countP_append, List.countP_singleton, monitorEntry] using samples
    · simp only [List.countP_append, List.countP_singleton, monitorEntry, decide_true, if_true]
      omega
    · have one : [monitorEntry n .zero].filter (fun r => decide (r.kind = .zero)) = [monitorEntry n .zero] := rfl
      rw [List.filter_append, one, List.map_append, List.nodup_append]
      refine ⟨distinct, by simp, fun x old y new => ?_⟩
      obtain ⟨r, mem, rfl⟩ := List.mem_map.1 old
      obtain ⟨stands, kind⟩ := List.mem_filter.1 mem
      have : y = n := by simpa [monitorEntry] using new
      rintro rfl
      simp only [List.any_eq_false, decide_eq_true_eq, not_and] at fresh
      exact fresh r stands (by simpa using kind) this
    · rcases own r mem with old | rfl
      · exact entries r old
      · exact ⟨rfl, rfl, rfl, rfl, rfl, nofun, fun _ => user⟩

theorem State.placesZero_spec {s : State} {n : Fin 32} (places : s.placesZero n = true) :
    (s.profile n).autoRecal = true ∧ (s.profile n).state = .active ∧
      s.monitor.queue.countP (fun r => decide (r.kind = .zero)) < 2 ∧
      (s.monitor.queue.any fun r => decide (r.kind = .zero ∧ r.profile = n)) = false := by
  simp only [State.placesZero, State.qualifies, State.zeroRoom, Bool.and_eq_true, decide_eq_true_eq, Bool.not_eq_true'] at places
  obtain ⟨⟨⟨⟨⟨⟨-, active⟩, recal⟩, fresh⟩, -⟩, -⟩, room⟩ := places
  exact ⟨recal, active, room, fresh⟩

theorem State.MonitorQueueLawful.ageingPass {s : State} (h : s.MonitorQueueLawful)
    (fixed : (s.profile 0).autoRecal = false) : s.ageingPass.MonitorQueueLawful := by
  have both : s.ageingPass.MonitorQueueLawful ∧ (s.ageingPass.profile 0).autoRecal = false := by
    refine State.ageingPass_induct (P := fun u => u.MonitorQueueLawful ∧ (u.profile 0).autoRecal = false) ⟨h, fixed⟩ ?_
    rintro u n ⟨lawful, fixed⟩
    refine ⟨?_, ((u.keeps_ageProfile n).profiles 0).autoRecal.trans fixed⟩
    obtain ⟨v, judged, e⟩ := u.ageProfile_parts n
    have kept : v.MonitorQueueLawful := lawful.of_asks (by rw [judged.monitor]; exact .refl _)
    rw [e]
    split
    next places =>
      obtain ⟨recal, -, room, fresh⟩ := State.placesZero_spec places
      have user : n ≠ 0 := by
        rintro rfl
        rw [fixed] at recal
        cases recal
      refine kept.place nofun fun _ => ?_
      rw [judged.monitor]
      exact ⟨user, room, fresh⟩
    · exact kept
  exact both.1

theorem State.ProfilesSound.fixed {s : State} (h : s.ProfilesSound) : (s.profile 0).autoRecal = false :=
  congrArg Profile.autoRecal h.2

theorem State.MonitorQueueLawful.deals {s t : State} {touched : Option (Fin 32)} (fixed : (s.profile 0).autoRecal = false)
    (h : s.MonitorQueueLawful) (d : s.Deals touched t) : t.MonitorQueueLawful := by
  cases d with
  | winds w => exact h.of_asks w.monitor
  | lifecycle n f user count empty held w => exact h.of_asks w.monitor
  | erases n user w => exact h.of_asks ((State.winds_terminate _ _ _).trans w).monitor
  | submits p tag w accepted wind => exact h.of_asks wind.monitor
  | samples u before profiles queue none w =>
    have placed := (h.of_asks before.monitor).place (n := 0) (kind := .measure) (fun _ => ⟨rfl, none⟩) nofun
    exact placed.of_asks w.monitor
  | passes u before profiles queue w =>
    exact ((h.of_asks before.monitor).ageingPass (by rw [profiles, fixed])).of_asks w.monitor

theorem State.MonitorQueueLawful.resetWith (straps : Straps) : (State.resetWith straps).MonitorQueueLawful :=
  ⟨Nat.zero_le _, Nat.zero_le _, List.nodup_nil, fun _ mem => absurd mem State.mem_resetWith.1⟩

end Sys2Proof.Machine
end

section
/-! PROOF. The slot pool. -/

namespace Sys2Proof.Proofs
open Sys2Proof Sys2Proof.Machine

/-- Settles O56: requests leave the queues with their slots, a SUBMIT joins one within the quota, and SET_QUOTA checks the
law itself. -/
theorem slotPoolLawIsKept : Obligations.SlotPoolLawIsKept := fun _ _ =>
  step_keeps (fun _ _ => State.SlotsLawful.sameCore) State.SlotsLawful.resetWith fun _ _ _ => State.SlotsLawful.acts

end Sys2Proof.Proofs
end

section
/-! SUPPORT. The profile table through every act: contents, owners and owned counts (R2, R5, R7, R21). -/

namespace Sys2Proof.Machine

/-! ## What an act makes of a profile -/

theorem unsigned8_profile_injective {m n : Fin 32} (same : unsigned8 m.val = unsigned8 n.val) : m = n :=
  Fin.ext (by simpa using congrArg BitVec.toNat same)

/-- A profile is FREE after an act where it was before, but for its own claim, write, release and forced release. -/
theorem Acts.free_iff {s t : State} {i : Instr} (act : Acts s i t) (n : Fin 32)
    (own : ¬ ((∃ p b, i = .profileClaim p b) ∨ (∃ p f, i = .profileWrite p f ∧ f.number = unsigned8 n.val) ∨
      (∃ p, i = .profileRelease p (unsigned8 n.val)) ∨ ∃ p, i = .forceRelease p (unsigned8 n.val))) :
    (t.profile n).state = .free ↔ (s.profile n).state = .free := by
  by_cases same : (t.profile n).state = (s.profile n).state
  · rw [same]
  · rcases act.state_frame n same with ⟨p, b, e, -⟩ | ⟨p, f, e, code, -⟩ | ⟨p, -, active, after⟩ | ⟨p, e, -⟩ | ⟨p, e, -⟩ |
      ⟨retiring, claimed, -⟩
    · exact absurd (.inl ⟨p, b, e⟩) own
    · exact absurd (.inr (.inl ⟨p, f, e, code⟩)) own
    · rcases after with e | e <;> simp [e, active]
    · exact absurd (.inr (.inr (.inl ⟨p, e⟩))) own
    · exact absurd (.inr (.inr (.inr ⟨p, e⟩))) own
    · simp [retiring, claimed]

/-- An act leaves a profile's contents and owner, or it is the act of that user profile: a claim, a write, a share, a
release or a forced release. -/
theorem Acts.profile_cases {s t : State} {i : Instr} (act : Acts s i t) (n : Fin 32) :
    (s.profile n).SameContents (t.profile n) ∧
        ((t.profile n).record = (s.profile n).record ∨
          ∃ raw overload, i = .outputPeriodEnd raw overload ∧ t = s.endPeriod raw overload) ∧
        ((t.profile n).state = .free ↔ (s.profile n).state = .free) ∨
      n ≠ 0 ∧ ((∃ p, (s.profile n).state = .free ∧ t.profile n = .claimedBy p) ∨
        (∃ w, w.consistent = true ∧ (s.profile n).state ≠ .free ∧ (s.profile n).refCount = 0 ∧
          t.profile n = (s.profile n).written w) ∨
        (∃ p set, (s.profile n).owner = some (.port p) ∧ (s.profile n).state ≠ .free ∧
          t.profile n = { s.profile n with share := storedShare p set }) ∨
        t.profile n = { Profile.default with refCount := (t.profile n).refCount }) := by
  have elsewhere : ∀ {m : Fin 32} {f : Profile → Profile}, n ≠ m →
      (s.profile n).SameContents ((s.modProfile m f).profile n) ∧
        ((s.modProfile m f).profile n).record = (s.profile n).record ∧
        (((s.modProfile m f).profile n).state = .free ↔ (s.profile n).state = .free) := fun other => by
    rw [State.profile_modProfile_other _ other]
    exact ⟨.refl _, rfl, .rfl⟩
  by_cases handles : handlesRecords i = false
  · refine .inl ⟨(act.contentsStand handles).contents n, .inl ((act.contentsStand handles).record n), act.free_iff n ?_⟩
    rintro (⟨p, b, rfl⟩ | ⟨p, f, rfl, -⟩ | ⟨p, rfl⟩ | ⟨p, rfl⟩) <;> cases handles
  have stays := act.free_iff n
  cases act with
  | idle => exact .inl ⟨.refl _, .inl rfl, .rfl⟩
  | portReset p =>
    obtain ⟨contents, record⟩ := (s.resetPort_stands p).2.1 n
    exact .inl ⟨contents, .inl record, stays (by simp)⟩
  | claim p b m user free =>
    by_cases same : n = m
    · subst same
      exact .inr ⟨user, .inl ⟨p, free, by rw [State.claim, State.modPort_profile, State.profile_modProfile_self]⟩⟩
    · obtain ⟨contents, record, idle⟩ := elsewhere (f := fun _ => .claimedBy p) same
      exact .inl ⟨contents, .inl record, idle⟩
  | write p f m w user code fields consistent state owner count =>
    by_cases same : n = m
    · subst same
      refine .inr ⟨user, .inr (.inl ⟨w, consistent, ?_, count, State.profile_modProfile_self _ _ _⟩)⟩
      rcases state with e | e <;> simp [e]
    · obtain ⟨contents, record, idle⟩ := elsewhere (f := (·.written w)) same
      exact .inl ⟨contents, .inl record, idle⟩
  | share p set b m user state owner =>
    by_cases same : n = m
    · subst same
      exact .inr ⟨user, .inr (.inr (.inl ⟨p, set, owner, state, State.profile_modProfile_self _ _ _⟩))⟩
    · obtain ⟨contents, record, idle⟩ := elsewhere (f := fun profile => { profile with share := storedShare p set }) same
      exact .inl ⟨contents, .inl record, idle⟩
  | release p m user =>
    by_cases same : n = m
    · subst same
      refine .inr ⟨user, .inr (.inr (.inr ?_))⟩
      rw [State.disown, State.modPort_profile, State.profile_modProfile_self]
    · obtain ⟨contents, record, idle⟩ := elsewhere (f := fun _ => .default) same
      exact .inl ⟨contents, .inl record, idle⟩
  | forceRelease p m user =>
    by_cases same : n = m
    · subst same
      have erased : (s.erase n).Quiet (((s.erase n).terminate .revoked (Request.names n))) := State.quiet_terminate _ _ _
      have rest : (((s.erase n).terminate .revoked (Request.names n)).disown (s.profile n).owner).Quiet (s.forceRelease n) :=
        .trans (.trans (State.quiet_postOwner _ _ _) (State.quiet_refreshDemand _)) (State.quiet_afterTerminations _ _)
      have between : (((s.erase n).terminate .revoked (Request.names n)).disown (s.profile n).owner).profile n =
          ((s.erase n).terminate .revoked (Request.names n)).profile n := by unfold State.disown; split <;> rfl
      have base : (s.erase n).profile n = { Profile.default with refCount := (s.profile n).refCount } :=
        State.profile_modProfile_self _ _ _
      have a := erased.1.profiles n
      have b := rest.1.profiles n
      have record := (rest.2.record n).trans ((congrArg Profile.record between).trans (erased.2.record n))
      rw [between] at b
      rw [base] at a record
      refine .inr ⟨user, .inr (.inr (.inr ?_))⟩
      have state := (s.forceRelease_stands n).2.2
      generalize (s.forceRelease n).profile n = after at *
      cases after
      simp only [Profile.mk.injEq]
      exact ⟨state, b.owner.trans a.owner, b.share.trans a.share, b.setup.trans a.setup, b.method.trans a.method,
        b.need.trans a.need, b.autoRecal.trans a.autoRecal, record, trivial⟩
    · obtain ⟨contents, record⟩ := (s.forceRelease_stands m).2.1 n same
      refine .inl ⟨contents, .inl record, stays ?_⟩
      rintro (⟨p, b, e⟩ | ⟨p, f, e, -⟩ | ⟨p, e⟩ | ⟨p, e⟩)
      · cases e
      · cases e
      · cases e
      · injection e with _ code
        exact same (unsigned8_profile_injective code).symm
  | fetch p b k =>
    have kicked := State.quiet_kick (s.modPort p (·.fetched k))
    exact .inl ⟨kicked.1.profiles n, .inl (kicked.2.record n), stays (by simp)⟩
  | periodEnd raw overload =>
    exact .inl ⟨(s.keeps_endPeriod raw overload).profiles n, .inr ⟨raw, overload, rfl, rfl⟩, stays (by simp)⟩
  | _ => exact absurd rfl handles

theorem State.Deals.user {s t : State} {touched : Option (Fin 32)} (d : s.Deals touched t) : touched ≠ some 0 := by
  cases d with
  | winds | submits | samples | passes => nofun
  | lifecycle n f user => exact fun e => user (Option.some.inj e)
  | erases n user => exact fun e => user (Option.some.inj e)

/-! ## The conditions of R2 and the fixed profile (R5) -/

theorem Profile.consistent_of_same {a b : Profile} (h : a.SameContents b) (consistent : a.consistent) : b.consistent := by
  obtain ⟨pins, ratioA, ratioB, recal⟩ := consistent
  unfold Profile.consistent
  rw [h.setup, h.need, h.autoRecal, h.method]
  exact ⟨pins, ratioA, ratioB, recal⟩

theorem Profile.consistent_default : Profile.default.consistent := by
  refine ⟨?_, ?_, ?_, ?_⟩ <;> simp [Profile.default, AnalogSetup.default]

theorem Profile.consistent_written {w : Writing} (profile : Profile) (consistent : w.consistent = true) :
    (profile.written w).consistent := by
  simp only [Writing.consistent, Bool.and_eq_true, Bool.or_eq_true, decide_eq_true_eq, Bool.not_eq_true'] at consistent
  obtain ⟨⟨⟨pins, ratioA⟩, ratioB⟩, recal⟩ := consistent
  refine ⟨pins, fun e => ratioA.resolve_left fun h => h e, fun e => ratioB.resolve_left fun h => h e, fun e => ?_⟩
  refine recal.resolve_left fun h => ?_
  have on : w.autoRecal = true := e
  rw [on] at h
  cases h

theorem State.ProfilesSound.acts {s t : State} {i : Instr} (h : s.ProfilesSound) (act : Acts s i t) : t.ProfilesSound := by
  obtain ⟨consistent, fixed⟩ := h
  refine ⟨fun n user => ?_, ?_⟩
  · rcases act.profile_cases n with ⟨same, -⟩ | ⟨-, ⟨p, -, e⟩ | ⟨w, sound, -, -, e⟩ | ⟨p, set, -, -, e⟩ | e⟩
    · exact Profile.consistent_of_same same (consistent n user)
    · rw [e]; exact Profile.consistent_default
    · rw [e]; exact Profile.consistent_written _ sound
    · rw [e]; exact consistent n user
    · rw [e]; exact Profile.consistent_default
  · obtain ⟨touched, deals, -⟩ := act.deals
    have active : (s.profile 0).state = .active := congrArg Profile.state fixed
    have state : (t.profile 0).state = (s.profile 0).state :=
      (deals.state deals.user).resolve_right fun ⟨retiring, _⟩ => by rw [active] at retiring; cases retiring
    obtain ⟨same, -⟩ := (act.profile_cases 0).resolve_right fun ⟨user, _⟩ => user rfl
    rw [← fixed]
    exact Profile.mk.injEq .. ▸ ⟨state, same.owner, same.share, same.setup, same.method, same.need, same.autoRecal, rfl, rfl⟩

theorem State.ProfilesSound.sameCore {s t : State} (same : s.SameCore t) (h : s.ProfilesSound) : t.ProfilesSound := by
  unfold State.ProfilesSound
  simp only [same.profile]
  exact h

theorem State.ProfilesSound.resetWith (straps : Straps) : (State.resetWith straps).ProfilesSound := by
  refine ⟨fun n user => ?_, ?_⟩ <;> rw [State.profile_resetWith]
  · rw [if_neg user]; exact Profile.consistent_default
  · rfl

/-! ## Owners and owned counts -/

/-- The user profiles that a port owns (R21). -/
def State.ownedBy (s : State) (p : Port) : Nat :=
  (List.finRange 32).countP fun n => decide (n ≠ 0) && decide ((s.profile n).owner = some (.port p))

/-- Two counts over the profile numbers that differ at one number alone. -/
theorem countP_finRange_differ (n : Fin 32) (f g : Fin 32 → Bool) (same : ∀ m, m ≠ n → g m = f m) :
    (List.finRange 32).countP g + (if f n then 1 else 0) = (List.finRange 32).countP f + if g n then 1 else 0 := by
  have walk : ∀ l : List (Fin 32), l.Nodup →
      l.countP g + (if n ∈ l ∧ f n = true then 1 else 0) = l.countP f + if n ∈ l ∧ g n = true then 1 else 0 := by
    intro l
    induction l with
    | nil => simp
    | cons m rest ih =>
      intro nodup
      obtain ⟨absent, nodup⟩ := List.nodup_cons.1 nodup
      have := ih nodup
      rw [List.countP_cons, List.countP_cons]
      by_cases here : m = n
      · subst here
        simp only [absent, false_and, if_false, List.mem_cons, true_or, true_and] at this ⊢
        omega
      · simp only [same m here, List.mem_cons, Ne.symm here, false_or]
        omega
  simpa [List.mem_finRange] using walk _ (List.nodup_finRange 32)

theorem State.ownedBy_congr {s t : State} (same : ∀ n, (t.profile n).owner = (s.profile n).owner) (p : Port) :
    t.ownedBy p = s.ownedBy p := by
  unfold State.ownedBy
  simp only [same]

theorem State.ownedBy_differ {s t : State} {n : Fin 32} (user : n ≠ 0)
    (same : ∀ m, m ≠ n → (t.profile m).owner = (s.profile m).owner) (p : Port) :
    t.ownedBy p + (if (s.profile n).owner = some (.port p) then 1 else 0) =
      s.ownedBy p + if (t.profile n).owner = some (.port p) then 1 else 0 := by
  have := countP_finRange_differ n (fun m => decide (m ≠ 0) && decide ((s.profile m).owner = some (.port p)))
    (fun m => decide (m ≠ 0) && decide ((t.profile m).owner = some (.port p))) fun m other => by simp only [same m other]
  simpa only [State.ownedBy, ne_eq, user, not_false_eq_true, decide_true, Bool.true_and, decide_eq_true_eq] using this

theorem State.owned_claim (s : State) (p q : Port) (n : Fin 32) :
    ((s.claim p n).port q).owned = (s.port q).owned + if q = p then 1 else 0 := by
  rw [State.claim, State.port_modPort]
  split
  · subst q; rfl
  · rfl

theorem State.owned_disown (s : State) (owner : Option Source) (q : Port) :
    ((s.disown owner).port q).owned = (s.port q).owned - if owner = some (.port q) then 1 else 0 := by
  unfold State.disown
  split
  next p =>
    rw [State.port_modPort]
    by_cases same : q = p
    · subst same; simp
    · simp [same, Ne.symm same]
  next none =>
    rw [if_neg fun e => none q e]
    rfl

/-- The acts that move no owner move no owned count. -/
theorem State.owned_forceRelease (s : State) (n : Fin 32) (q : Port) :
    ((s.forceRelease n).port q).owned = (s.port q).owned - if (s.profile n).owner = some (.port q) then 1 else 0 := by
  have erased : (((s.erase n).terminate .revoked (Request.names n)).port q).owned = (s.port q).owned :=
    ((State.quiet_terminate (s.erase n) _ _).1.ports q).owned
  have rest : (((s.erase n).terminate .revoked (Request.names n)).disown (s.profile n).owner).Quiet (s.forceRelease n) :=
    .trans (.trans (State.quiet_postOwner _ _ _) (State.quiet_refreshDemand _)) (State.quiet_afterTerminations _ _)
  rw [(rest.1.ports q).owned, State.owned_disown, erased]

theorem State.owner_forceRelease (s : State) (n : Fin 32) : ((s.forceRelease n).profile n).owner = none := by
  have ended : (s.erase n).Quiet ((s.erase n).terminate .revoked (Request.names n)) := State.quiet_terminate _ _ _
  have last : (((s.erase n).terminate .revoked (Request.names n)).disown (s.profile n).owner).Quiet (s.forceRelease n) :=
    .trans (.trans (State.quiet_postOwner _ _ _) (State.quiet_refreshDemand _)) (State.quiet_afterTerminations _ _)
  have between : (((s.erase n).terminate .revoked (Request.names n)).disown (s.profile n).owner).profile n =
      ((s.erase n).terminate .revoked (Request.names n)).profile n := by unfold State.disown; split <;> rfl
  rw [(last.1.profiles n).owner, between, (ended.1.profiles n).owner, State.erase, State.profile_modProfile_self]
  rfl

theorem Acts.owned {s t : State} {i : Instr} (act : Acts s i t) (counts : ∀ p, (s.port p).owned = s.ownedBy p)
    (owners : ∀ n : Fin 32, n ≠ 0 → ((s.profile n).state = .free ↔ (s.profile n).owner = none)) (q : Port) :
    (t.port q).owned = t.ownedBy q := by
  by_cases moves : (∃ p b, i = .profileClaim p b) ∨ (∃ p b, i = .profileRelease p b) ∨ ∃ p b, i = .forceRelease p b
  · have nobody : ¬ (none : Option Source) = some (.port q) := nofun
    cases act with
    | idle => exact counts q
    | claim p b n user free =>
      have same : ∀ m, m ≠ n → ((s.claim p n).profile m).owner = (s.profile m).owner := fun m other => by
        rw [State.claim, State.modPort_profile, State.profile_modProfile_other _ other]
      have own : ((s.claim p n).profile n).owner = some (.port p) := by
        rw [State.claim, State.modPort_profile, State.profile_modProfile_self]; rfl
      have := State.ownedBy_differ user same q
      rw [own, (owners n user).1 free, if_neg nobody] at this
      rw [State.owned_claim, counts q]
      simpa [eq_comm] using this.symm
    | release p n user state owner =>
      have same : ∀ m, m ≠ n → (((s.modProfile n fun _ => .default).disown (some (.port p))).profile m).owner =
          (s.profile m).owner := fun m other => by
        rw [State.disown, State.modPort_profile, State.profile_modProfile_other _ other]
      have own : (((s.modProfile n fun _ => .default).disown (some (.port p))).profile n).owner = none := by
        rw [State.disown, State.modPort_profile, State.profile_modProfile_self]; rfl
      have := State.ownedBy_differ user same q
      rw [own, owner, if_neg nobody] at this
      rw [State.owned_disown, State.modProfile_port, counts q]
      omega
    | forceRelease p n user state =>
      have same : ∀ m, m ≠ n → ((s.forceRelease n).profile m).owner = (s.profile m).owner := fun m other =>
        ((s.forceRelease_stands n).2.1 m other).1.owner
      have := State.ownedBy_differ user same q
      rw [s.owner_forceRelease, if_neg nobody] at this
      rw [State.owned_forceRelease, counts q]
      omega
    | _ => rcases moves with ⟨_, _, e⟩ | ⟨_, _, e⟩ | ⟨_, _, e⟩ <;> cases e
  · simp only [not_or] at moves
    obtain ⟨claim, release, force⟩ := moves
    have owned : (t.port q).owned = (s.port q).owned := by
      by_contra moved
      rcases act.owned_frame q moved with ⟨b, e⟩ | ⟨b, e⟩ | ⟨p, b, e⟩
      exacts [claim ⟨q, b, e⟩, release ⟨q, b, e⟩, force ⟨p, b, e⟩]
    have owner : ∀ n, (t.profile n).owner = (s.profile n).owner := fun n =>
      (act.profile_frame n claim (fun ⟨p, e⟩ => release ⟨p, _, e⟩) fun ⟨p, e⟩ => force ⟨p, _, e⟩).1
    rw [owned, counts q, State.ownedBy_congr owner]

/-! ## Owners (R1, R7) -/

/-- The end of an output period writes no record into a profile that no live request names and that has none. -/
theorem State.writeRecord_profile (s : State) (r : Request) (value : Int) (n : Fin 32) :
    (s.writeRecord r value).profile n =
      if n = r.profile then { s.profile n with record := some (s.monitor.freshRecord value) } else s.profile n := by
  have posted : (s.writeRecord r value).profile n =
      (s.modProfile r.profile fun profile => { profile with record := some (s.monitor.freshRecord value) }).profile n := by
    unfold State.writeRecord
    exact (State.noticesOnly_postOwner _ _ _).profile n
  rw [posted, State.profile_modProfile]
  split
  · subst n; rfl
  · rfl

theorem State.record_useOutput (s : State) (r : Request) (step : OpStep) (l : LoadedSetup) (raw : Int) (overload : Bool)
    (n : Fin 32) (other : step = .zeroAveraging → n ≠ r.profile) (none : (s.profile n).record = none) :
    ((s.useOutput r step l raw overload).profile n).record = .none := by
  have delivered : ∀ formed, ((s.deliver r formed).profile n).record = .none := fun formed => by
    have written : ∀ record, ((s.writeToRing r record).profile n).record = .none := fun record => by
      rw [State.writeToRing, State.modSource]
      split <;> exact none
    exact ((((State.quiet_postWindow _ r _).trans (State.quiet_endTurn _ r _)).2.record n).trans (written _) :)
  cases step with
  | settling | chopPlusSettling | chopMinusSettling | zeroSettling | chopPlusOutput => exact none
  | output =>
    simp only [State.useOutput, State.useResult]
    split
    · rw [State.completeSample, ((State.quiet_finish _).2.record n), State.ageingPass_profile]
      simp [none]
    · exact delivered _
  | chopMinusOutput =>
    simp only [State.useOutput, State.chopOutput]
    split
    · exact delivered _
    · exact none
  | zeroAveraging =>
    simp only [State.useOutput, State.averageOutput]
    split
    · exact none
    · rw [State.completeZero, ((State.quiet_finish _).2.record n), State.writeRecord_profile, if_neg (other rfl),
        State.writeToRing, State.modSource]
      split <;> exact none

theorem State.record_endPeriod (s : State) (raw : Int) (overload : Bool) (n : Fin 32)
    (other : ∀ r, s.flight = some r → s.engine.step = some .zeroAveraging → n ≠ r.profile) (none : (s.profile n).record = none) :
    ((s.endPeriod raw overload).profile n).record = .none := by
  unfold State.endPeriod
  split
  next r step l flies now _ =>
    rw [(State.quiet_afterPeriod _).2.record n]
    exact State.record_useOutput _ r step l raw _ n (fun averaging => other r flies (averaging ▸ now)) none
  · exact none

theorem State.flight_mem_live {s : State} {r : Request} (flies : s.flight = some r) : r ∈ s.live := by
  unfold State.flight at flies
  split at flies
  · cases flies
  next p _ =>
    have mem := List.mem_of_head? flies
    cases p <;> simp only [State.port, PerPort.get] at mem <;> simp [State.live, mem]
  · have mem := List.mem_of_find?_eq_some flies
    simp [State.live, mem]

theorem State.named_pos_of_mem {s : State} {r : Request} (mem : r ∈ s.live) : 0 < s.named r.profile :=
  List.countP_pos_iff.2 ⟨r, mem, by simp⟩

theorem State.OwnersSound.acts {s t : State} {i : Instr} (counts : s.ReferencesCount) (h : s.OwnersSound)
    (act : Acts s i t) : t.OwnersSound := by
  obtain ⟨owners, owned⟩ := h
  obtain ⟨touched, deals, which⟩ := act.deals
  have counted := counts.deals deals
  refine ⟨fun n user => ?_, fun q => act.owned owned (fun n user => (owners n user).1) q⟩
  obtain ⟨free, monitor, default, share⟩ := owners n user
  have fresh : t.profile n = { Profile.default with refCount := (t.profile n).refCount } → t.profile n = .default := fun e => by
    have none := counted.2.1 n (.inl (by rw [e]; rfl))
    rw [none] at e
    exact e
  rcases act.profile_cases n with ⟨same, record, lifecycle⟩ | ⟨-, ⟨p, -, e⟩ | ⟨w, -, taken, -, e⟩ | ⟨p, set, owner, taken, e⟩ | e⟩
  · refine ⟨by rw [lifecycle, same.owner, free], by rw [same.owner]; exact monitor, fun idle => ?_, fun p owns => ?_⟩
    · have before := default (lifecycle.1 idle)
      have none : (t.profile n).record = none := by
        rcases record with e | ⟨raw, overload, -, rfl⟩
        · rw [e, before]; rfl
        · refine s.record_endPeriod raw overload n (fun r flies _ => ?_) (by rw [before]; rfl)
          rintro rfl
          have named := State.named_pos_of_mem (State.flight_mem_live flies)
          have : s.named r.profile = 0 := by rw [State.named, ← counts.1, before]; rfl
          omega
      apply fresh
      rw [before] at same
      generalize t.profile n = after at *
      cases after
      simp only [Profile.mk.injEq]
      exact ⟨idle, same.owner, same.share, same.setup, same.method, same.need, same.autoRecal, none, trivial⟩
    · rw [same.share]
      exact share p (same.owner ▸ owns)
  · rw [e]
    refine ⟨by simp [Profile.claimedBy], by simp [Profile.claimedBy], nofun, fun q _ => PerPort.get_all false q⟩
  · rw [e]
    refine ⟨?_, monitor, nofun, share⟩
    have owner : (s.profile n).owner ≠ none := fun e => taken (free.2 e)
    simpa [Profile.written] using owner
  · rw [e]
    refine ⟨free, monitor, fun idle => absurd idle taken, fun q owns => ?_⟩
    rw [owner] at owns
    cases owns
    exact (PerPort.get_set ..).trans (if_pos rfl)
  · rw [fresh e]
    exact ⟨by simp [Profile.default], nofun, fun _ => rfl, nofun⟩

theorem State.OwnersSound.sameCore {s t : State} (same : s.SameCore t) (h : s.OwnersSound) : t.OwnersSound := by
  unfold State.OwnersSound
  simp only [same.profile, same.read (·.owned) fun _ _ _ => rfl]
  exact h

theorem State.OwnersSound.resetWith (straps : Straps) : (State.resetWith straps).OwnersSound := by
  refine ⟨fun n user => ?_, fun p => ?_⟩
  · rw [State.profile_resetWith, if_neg user]
    exact ⟨by simp [Profile.default], nofun, fun _ => rfl, nofun⟩
  · rw [State.port_resetWith]
    refine (List.countP_eq_zero.2 fun n _ => ?_).symm
    rw [State.profile_resetWith]
    split
    · simp [*]
    · simp [Profile.default]

theorem State.ReferencesCount.sameCore {s t : State} (same : s.SameCore t) (h : s.ReferencesCount) : t.ReferencesCount :=
  h.winds same.winds

theorem State.ReferencesCount.acts {s t : State} {i : Instr} (h : s.ReferencesCount) (act : Acts s i t) :
    t.ReferencesCount := by
  obtain ⟨touched, deals, -⟩ := act.deals
  exact h.deals deals

end Sys2Proof.Machine
end

section
/-! SUPPORT. The demand from requests through every act: handed over wherever the live requests change (R46). -/

namespace Sys2Proof.Machine

theorem State.demandHandedOver_iff (s : State) :
    s.DemandHandedOver ↔ ∀ o, (s.output o).requestDemand = s.requestsNeed o := by
  refine forall_congr' fun o => ?_
  have needs := List.any_eq_true (l := s.live) (p := fun r => (s.profile r.profile).need.get o)
  exact (iff_congr Iff.rfl needs.symm).trans Bool.eq_iff_iff.symm

/-! ## Operations that leave the live requests -/

theorem State.noticesOnly_postTrip (s : State) (o : OutputId) : s.NoticesOnly (s.postTrip o) := by
  unfold State.postTrip
  dsimp only
  split
  · exact (s.noticesOnly_postAll _).trans (State.noticesOnly_postAll _ _)
  · exact s.noticesOnly_postAll _

/-- The asks of the live requests, the needs of the profiles and the demand handed over stand. -/
structure State.DemandStands (s t : State) : Prop where
  asks : (t.live.map Request.ask).Perm (s.live.map Request.ask)
  need : ∀ n, (t.profile n).need = (s.profile n).need
  demand : ∀ o, (t.output o).requestDemand = (s.output o).requestDemand

theorem State.live_perm {s t : State} (queue : ∀ q, ((t.port q).queue.map Request.ask).Perm ((s.port q).queue.map Request.ask))
    (monitor : (t.monitor.queue.map Request.ask).Perm (s.monitor.queue.map Request.ask)) :
    (t.live.map Request.ask).Perm (s.live.map Request.ask) := by
  simp only [State.live, List.map_append]
  exact (((queue .a).append (queue .b)).append (queue .c)).append monitor

/-- The demand of requests reads their asks and their profiles' needs. -/
theorem State.requestsNeed_congr {s t : State} (asks : (t.live.map Request.ask).Perm (s.live.map Request.ask))
    (need : ∀ r ∈ s.live, (t.profile r.profile).need = (s.profile r.profile).need) (o : OutputId) :
    t.requestsNeed o = s.requestsNeed o := by
  rw [Bool.eq_iff_iff, State.requestsNeed, State.requestsNeed, List.any_eq_true, List.any_eq_true]
  constructor
  · rintro ⟨r, mem, needs⟩
    obtain ⟨x, from', same⟩ := mem_of_asks asks.subperm mem
    have profile : x.profile = r.profile := (congrArg Request.profile same :)
    exact ⟨x, from', by rwa [← need x from', profile]⟩
  · rintro ⟨r, mem, needs⟩
    obtain ⟨x, from', same⟩ := mem_of_asks asks.symm.subperm mem
    have profile : x.profile = r.profile := (congrArg Request.profile same :)
    exact ⟨x, from', by rwa [profile, need r mem]⟩

namespace State.DemandStands

variable {s t u : State}

theorem refl (s : State) : s.DemandStands s := ⟨.refl _, fun _ => rfl, fun _ => rfl⟩

theorem trans (h : s.DemandStands t) (k : t.DemandStands u) : s.DemandStands u :=
  ⟨k.asks.trans h.asks, fun n => (k.need n).trans (h.need n), fun o => (k.demand o).trans (h.demand o)⟩

theorem handed (h : s.DemandStands t) (handed : s.DemandHandedOver) : t.DemandHandedOver := by
  rw [State.demandHandedOver_iff] at handed ⊢
  intro o
  rw [h.demand o, handed o, State.requestsNeed_congr h.asks (fun r _ => h.need r.profile) o]

/-- The queues stand, and so do the needs and what was handed over. -/
theorem of_same (queue : ∀ q, (t.port q).queue = (s.port q).queue) (monitor : t.monitor.queue = s.monitor.queue)
    (need : ∀ n, (t.profile n).need = (s.profile n).need)
    (demand : ∀ o, (t.output o).requestDemand = (s.output o).requestDemand) : s.DemandStands t :=
  ⟨State.live_perm (fun q => by rw [queue q]) (by rw [monitor]), need, demand⟩

theorem of_noticesOnly (h : s.NoticesOnly t) : s.DemandStands t :=
  of_same h.queue (by rw [h.monitor]) (fun n => by rw [h.profile n]) fun o => by simp [State.output, h.outputs]

theorem modEngine (s : State) (f : Engine → Engine) : s.DemandStands (s.modEngine f) :=
  of_same (fun _ => rfl) rfl (fun _ => rfl) fun _ => rfl

theorem modPort (s : State) (p : Port) {f : PortState → PortState}
    (asks : ∀ ps, ((f ps).queue.map Request.ask).Perm (ps.queue.map Request.ask)) : s.DemandStands (s.modPort p f) := by
  refine ⟨State.live_perm (fun q => ?_) (.refl _), fun _ => rfl, fun _ => rfl⟩
  rw [State.port_modPort]
  split
  · subst q; exact asks _
  · exact .refl _

theorem modSource (s : State) (r : Request) {f : PortState → PortState}
    (asks : ∀ ps, ((f ps).queue.map Request.ask).Perm (ps.queue.map Request.ask)) : s.DemandStands (s.modSource r f) := by
  unfold State.modSource
  split
  · exact modPort s _ asks
  · exact refl s

theorem modMonitor (s : State) {f : Monitor → Monitor}
    (asks : ((f s.monitor).queue.map Request.ask).Perm (s.monitor.queue.map Request.ask)) :
    s.DemandStands (s.modMonitor f) :=
  ⟨State.live_perm (fun _ => .refl _) asks, fun _ => rfl, fun _ => rfl⟩

theorem modProfile (s : State) (n : Fin 32) {f : Profile → Profile} (need : ∀ profile, (f profile).need = profile.need) :
    s.DemandStands (s.modProfile n f) := by
  refine of_same (fun _ => rfl) rfl (fun m => ?_) fun _ => rfl
  rw [State.profile_modProfile]
  split
  · subst m; exact need _
  · rfl

theorem modOutput (s : State) (o : OutputId) {f : OutputState → OutputState}
    (demand : (f (s.output o)).requestDemand = (s.output o).requestDemand) : s.DemandStands (s.modOutput o f) := by
  refine of_same (fun _ => rfl) rfl (fun _ => rfl) fun x => ?_
  rw [State.output_modOutput]
  split
  · subst x; exact demand
  · rfl

theorem modFlight (s : State) {f : Request → Request} (kept : ∀ r, (f r).ask = r.ask) :
    s.DemandStands (s.modFlight f) := by
  unfold State.modFlight
  split
  · exact refl s
  · exact modPort s _ fun ps => by rw [map_ask_modHead f kept]
  · exact modMonitor s (by rw [map_ask_where f kept])

theorem rotateFlight (s : State) (r : Request) {f : Request → Request} (kept : ∀ r, (f r).ask = r.ask) :
    s.DemandStands (s.rotateFlight r f) := by
  refine trans (modSource s r (f := fun ps => { ps with queue := rotate f ps.queue }) fun ps => ?_) (modEngine _ _)
  cases ps.queue with
  | nil => exact .refl _
  | cons head rest =>
    simp only [rotate, List.map_append, List.map_cons, List.map_nil, kept]
    exact List.perm_append_comm

theorem grant (s : State) (f : Flight) : s.DemandStands (s.grant f) := by
  cases flies : (s.modEngine fun e => { e with inFlight := some f }).flight with
  | none => rw [s.grant_none f flies]; exact refl s
  | some r =>
    rw [s.grant_some f r flies]
    refine trans (trans (trans (modEngine s _) (modFlight _ ?_)) (modSource _ r ?_)) (modEngine _ _)
    · exact fun _ => rfl
    · exact fun _ => .refl _

theorem refill (s : State) : s.DemandStands s.refill := by
  unfold State.refill
  split
  · exact refl s
  · exact of_same (fun q => by rw [State.port_mapPorts]; rfl) rfl (fun _ => rfl) fun _ => rfl

theorem modArbiter (s : State) (f : Arbiter → Arbiter) : s.DemandStands (s.modArbiter f) :=
  of_same (fun _ => rfl) rfl (fun _ => rfl) fun _ => rfl

theorem grantPoint (s : State) (boundary : Bool) : s.DemandStands (s.grantPoint boundary) := by
  rcases s.grantPoint_cases boundary with ⟨r, -, e⟩ | ⟨-, ⟨-, e⟩ | ⟨-, ⟨p, -, e⟩ | ⟨-, ⟨p, -, e⟩ | ⟨-, e⟩⟩⟩⟩ <;> rw [e]
  · exact grant s _
  · exact modEngine s _
  · exact (refill s).trans ((modArbiter _ _).trans (grant _ _))
  · exact (refill s).trans ((modArbiter _ _).trans (grant _ _))
  · exact (refill s).trans (modEngine _ _)

theorem kick (s : State) : s.DemandStands s.kick := by
  rcases s.kick_cases with ⟨-, e⟩ | ⟨-, e⟩ <;> rw [e]
  · exact refl s
  · exact grantPoint s _

theorem writeToRing (s : State) (r : Request) (record : ResultRecord) : s.DemandStands (s.writeToRing r record) := by
  refine modSource s r fun ps => ?_
  obtain ⟨-, -, -, queue, -⟩ := ps.writeResult_parts (r.run = .contiguous) record
  rw [PortState.charge, queue]

end State.DemandStands

/-! ## Operations that hand it over -/

theorem OutputState.requestDemand_judgedFrom (new old : OutputState) (down : Bool) :
    (new.judgedFrom old down).requestDemand = new.requestDemand := by
  unfold OutputState.judgedFrom
  split
  · rfl
  · exact (new.move_rest down).2.2

theorem State.output_handOverDemand (s : State) (f : OutputState → OutputState) (o : OutputId) :
    (s.handOverDemand f).output o =
      ({ f (s.output o) with requestDemand := s.requestsNeed o }).judgedFrom (s.output o) s.isDown := by
  cases o <;> rfl

theorem State.demandHandedOver_handOverDemand (s : State) (f : OutputState → OutputState) :
    (s.handOverDemand f).DemandHandedOver := by
  rw [State.demandHandedOver_iff]
  intro o
  rw [s.output_handOverDemand, OutputState.requestDemand_judgedFrom]
  rfl

theorem State.demandHandedOver_refreshDemand (s : State) : s.refreshDemand.DemandHandedOver :=
  s.demandHandedOver_handOverDemand id

theorem State.demandHandedOver_finish (s : State) : s.finish.DemandHandedOver := State.demandHandedOver_refreshDemand _

namespace State.DemandHandedOver

variable {s : State} (h : s.DemandHandedOver)
include h

theorem grantPoint (boundary : Bool) : (s.grantPoint boundary).DemandHandedOver :=
  (State.DemandStands.grantPoint s boundary).handed h

theorem kick : s.kick.DemandHandedOver := (State.DemandStands.kick s).handed h

theorem giveBack : s.giveBack.DemandHandedOver := by
  rcases s.giveBack_cases with ⟨-, e⟩ | ⟨r, -, -, e⟩ | ⟨r, -, -, e⟩ <;> rw [e]
  · exact h
  · exact State.demandHandedOver_refreshDemand _
  · exact State.DemandStands.handed (.trans (State.DemandStands.modSource s r
      (f := fun ps => { ps with reservations := ps.reservations - r.reserves }) fun _ => .refl _)
      (.modFlight _ (f := fun r => { r with state := .queued }) fun _ => rfl)) h

theorem enterDown : s.enterDown.DemandHandedOver := by
  have cleared := ((State.DemandStands.modEngine s.giveBack (·.downed)).trans
    (.of_noticesOnly (State.noticesOnly_postAll _ (.engine .down)))).handed h.giveBack
  refine State.DemandStands.handed (s := (s.giveBack.modEngine (·.downed)).postAll (.engine .down))
    (.of_same (fun _ => rfl) rfl (fun _ => rfl) fun o => ?_) cleared
  have kept : ∀ out : OutputState, out.forceOff.requestDemand = out.requestDemand := fun out => by
    unfold OutputState.forceOff
    split <;> rfl
  cases o <;> exact kept _

theorem freed (boundary : Bool) : (s.freed boundary).DemandHandedOver := by
  rcases s.freed_cases boundary with ⟨-, e⟩ | ⟨-, e⟩ | ⟨-, e⟩ <;> rw [e]
  · exact h.grantPoint _
  · exact h.enterDown
  · exact h

theorem afterTerminations (abandoned : Bool) : (s.afterTerminations abandoned).DemandHandedOver := by
  cases abandoned
  · exact h.kick
  · exact h.freed _

theorem placeSample : s.placeSample.DemandHandedOver := by
  unfold State.placeSample
  split
  · exact h
  · exact State.demandHandedOver_refreshDemand _

theorem restartInterval : s.restartInterval.DemandHandedOver :=
  (State.DemandStands.modMonitor s (f := fun m => { m with intervalTimer := .running m.intervalTime }) (.refl _)).handed h

theorem afterPeriod : s.afterPeriod.DemandHandedOver := by
  unfold State.afterPeriod
  split
  · exact h.enterDown
  · split
    · exact h.freed _
    · exact h

theorem endTurn (r : Request) (value : Int) : (s.endTurn r value).DemandHandedOver := by
  rcases s.endTurn_cases r value with ⟨-, e⟩ | ⟨-, -, e⟩ | ⟨-, -, e⟩ <;> rw [e]
  · exact s.demandHandedOver_finish
  · exact (State.DemandStands.rotateFlight s r (f := fun q => { q.after value with state := .queued }) fun _ => rfl).handed h
  · exact ((State.DemandStands.modFlight s (f := (·.after value)) fun _ => rfl).trans (.modEngine _ _)).handed h

theorem deliver (r : Request) (formed : Formed) : (s.deliver r formed).DemandHandedOver :=
  ((State.DemandStands.of_noticesOnly (State.noticesOnly_postWindow _ r _)).handed
    ((State.DemandStands.writeToRing s r _).handed h)).endTurn r _

theorem useOutput (r : Request) (step : OpStep) (l : LoadedSetup) (raw : Int) (overload : Bool) :
    (s.useOutput r step l raw overload).DemandHandedOver := by
  cases step with
  | settling | chopPlusSettling | chopMinusSettling | zeroSettling => exact (State.DemandStands.modEngine s (·.advance l _)).handed h
  | chopPlusOutput => exact (State.DemandStands.modEngine s (·.swapPhase l raw overload)).handed h
  | output =>
    simp only [State.useOutput, State.useResult]
    split
    · exact State.demandHandedOver_finish _
    · exact h.deliver r _
  | chopMinusOutput =>
    simp only [State.useOutput, State.chopOutput]
    split
    · exact h.deliver r _
    · exact h
  | zeroAveraging =>
    simp only [State.useOutput, State.averageOutput]
    split
    · exact (State.DemandStands.modEngine s _).handed h
    · exact State.demandHandedOver_finish _

theorem endPeriod (raw : Int) (overload : Bool) : (s.endPeriod raw overload).DemandHandedOver := by
  unfold State.endPeriod
  split
  · exact ((State.DemandStands.modEngine s _).handed h |>.useOutput _ _ _ _ _).afterPeriod
  · exact h

/-- A profile that no live request names may take other contents. -/
theorem modProfile (counts : s.ReferencesCount) (n : Fin 32) (f : Profile → Profile) (none : (s.profile n).refCount = 0) :
    (s.modProfile n f).DemandHandedOver := by
  rw [State.demandHandedOver_iff] at h ⊢
  intro o
  refine (h o).trans (State.requestsNeed_congr (s := s) (t := s.modProfile n f) (.refl _) (fun r mem => ?_) o).symm
  have other : r.profile ≠ n := by
    rintro rfl
    have named := State.named_pos_of_mem mem
    rw [State.named, ← counts.1, none] at named
    exact absurd named (Nat.lt_irrefl 0)
  rw [State.profile_modProfile_other _ other]

end State.DemandHandedOver

/-! ## Every act -/

theorem OutputState.requestDemand_warmIfDemanded (o : OutputState) (down : Bool) :
    (o.warmIfDemanded down).requestDemand = o.requestDemand := by
  unfold OutputState.warmIfDemanded
  split <;> rfl

theorem State.DemandHandedOver.acts {s t : State} {i : Instr} (counts : s.ReferencesCount) (h : s.DemandHandedOver)
    (act : Acts s i t) : t.DemandHandedOver := by
  have same : ∀ {u : State}, s.DemandStands u → u.DemandHandedOver := fun d => d.handed h
  cases act with
  | idle => exact h
  | portReset p =>
    have ended : (s.resetEnded p).DemandHandedOver := State.demandHandedOver_handOverDemand _ _
    have freed : (s.resetFreed p).DemandHandedOver := by
      unfold State.resetFreed
      split
      · exact ended.freed _
      · exact ended
    rw [s.resetPort_eq]
    exact (State.DemandStands.modPort _ p (f := (·.judgeAlert)) fun _ => .refl _).handed freed
  | alertConfig | readNotices | setQuota | setWeight | setAllowance => exact same (.modPort s _ fun _ => .refl _)
  | claim p b n user free =>
    have claimed := h.modProfile counts n (fun _ => .claimedBy p) (counts.2.1 n (.inl free))
    exact (State.DemandStands.modPort _ p (f := fun ps => { ps with owned := ps.owned + 1 }) fun _ => .refl _).handed claimed
  | write p f n w user code fields consistent state owner count => exact h.modProfile counts n _ count
  | share | retireNow => exact same (.modProfile s _ fun _ => rfl)
  | retireBusy p n =>
    rw [s.retireBusy_eq]
    exact (State.demandHandedOver_refreshDemand _).kick
  | release p n user state owner count =>
    have released := h.modProfile counts n (fun _ => .default) count
    exact (State.DemandStands.modPort _ p (f := fun ps => { ps with owned := ps.owned - 1 }) fun _ => .refl _).handed released
  | submit p f w =>
    rw [s.submit_eq]
    exact (State.demandHandedOver_refreshDemand _).kick
  | cancel p tag =>
    rw [s.cancel_eq]
    exact (State.demandHandedOver_refreshDemand _).afterTerminations _
  | fetch p b n =>
    refine State.DemandHandedOver.kick (same (.modPort s p fun ps => ?_))
    unfold PortState.fetched PortState.rearm
    split <;> exact .refl _
  | exciteVote | setCombine => exact same (.modOutput s _ (OutputState.requestDemand_judgedFrom _ _ _))
  | engineStart =>
    have leaving : s.DemandStands s.leavingDown :=
      (State.DemandStands.modEngine s _).trans (.of_noticesOnly (State.noticesOnly_postAll _ _))
    rw [s.startEngine_eq]
    refine State.DemandStands.handed (leaving.trans ?_) h
    refine .of_same (fun _ => rfl) rfl (fun _ => rfl) fun o => ?_
    cases o <;> exact OutputState.requestDemand_warmIfDemanded _ _
  | haltNow => exact h.enterDown
  | haltLater => exact same (.trans (.modEngine s _) (.of_noticesOnly (State.noticesOnly_postAll _ (.engine .halting))))
  | setAffinity => exact same (.modArbiter s _)
  | setExciteTiming | dwell => exact same (.modOutput s _ rfl)
  | clearLockout | linger | holdOff => exact same (.modOutput s _ (OutputState.requestDemand_warmIfDemanded _ _))
  | setCalPolicy => exact same (.modMonitor s (.refl _))
  | forceRelease p n =>
    rw [s.forceRelease_eq]
    exact (State.demandHandedOver_refreshDemand _).afterTerminations _
  | makeOffer p q =>
    have withdrawn : s.NoticesOnly (s.withdrawOther p q) := by
      unfold State.withdrawOther
      split
      · exact .refl s
      · split
        · exact s.noticesOnly_post _ _
        · exact .refl s
    exact same (.trans (.of_noticesOnly (withdrawn.trans (State.noticesOnly_post _ q (.offer p))))
      (.of_same (fun _ => rfl) rfl (fun _ => rfl) fun _ => rfl))
  | handOver p =>
    exact same (.trans (t := { s with supervisor := p, offer := none, offerTimer := .stopped })
      (.of_same (fun _ => rfl) rfl (fun _ => rfl) fun _ => rfl) (.of_noticesOnly (State.noticesOnly_postAll _ _)))
  | enterRunning =>
    rw [s.enterRunning_eq]
    have entering : s.enteringRunning.DemandHandedOver :=
      same (.trans (.modEngine s _) (.of_noticesOnly (State.noticesOnly_postAll _ _)))
    exact entering.restartInterval.placeSample.kick
  | interval => exact h.restartInterval.placeSample.kick
  | periodEnd raw overload => exact h.endPeriod raw overload
  | warmUp o =>
    exact (same (.trans (.modOutput s o (f := (·.becomeReady)) rfl) (.of_noticesOnly (State.noticesOnly_postAll _ _)))).kick
  | trip o =>
    rw [s.trip_eq]
    exact ((State.DemandStands.of_noticesOnly (State.noticesOnly_postTrip _ o)).handed
      (State.demandHandedOver_refreshDemand _)).afterTerminations _
  | offerLapse o =>
    exact same (.trans (t := { s with offer := none, offerTimer := .stopped })
      (.of_same (fun _ => rfl) rfl (fun _ => rfl) fun _ => rfl) (.of_noticesOnly (State.noticesOnly_post _ _ _)))

theorem State.DemandHandedOver.sameCore {s t : State} (same : s.SameCore t) (h : s.DemandHandedOver) : t.DemandHandedOver :=
  State.DemandStands.handed (.of_same same.queue (by rw [same.monitor]) (fun n => by rw [same.profile]) fun o => by
    rw [same.output]) h

theorem State.output_resetWith (straps : Straps) (o : OutputId) : (State.resetWith straps).output o = .reset := by
  cases o <;> rfl

theorem State.DemandHandedOver.resetWith (straps : Straps) : (State.resetWith straps).DemandHandedOver := by
  intro o
  rw [State.output_resetWith, State.live_resetWith]
  simp [OutputState.reset]

end Sys2Proof.Machine
end

section
/-! PROOF. References and demand. -/

namespace Sys2Proof.Proofs
open Sys2Proof Sys2Proof.Machine

/-- Settles O55: references follow the requests that leave and join; the demand is handed over wherever the live requests
change, and a profile that none names may change its need. -/
theorem referencesAndDemandFollowLiveRequests : Obligations.ReferencesAndDemandFollowLiveRequests := by
  have references := @step_keeps State.ReferencesCount (fun _ _ => State.ReferencesCount.sameCore)
    State.ReferencesCount.resetWith fun _ _ _ => State.ReferencesCount.acts
  refine ⟨fun _ _ => references, fun s t counts handed run => ?_⟩
  exact (step_keeps (P := fun s => s.ReferencesCount ∧ s.DemandHandedOver)
    (fun _ _ same ⟨a, b⟩ => ⟨a.sameCore same, b.sameCore same⟩)
    (fun straps => ⟨.resetWith straps, .resetWith straps⟩) (fun _ _ _ ⟨a, b⟩ act => ⟨a.acts act, b.acts a act⟩)
    ⟨counts, handed⟩ run).2

end Sys2Proof.Proofs
end

section
/-! SUPPORT. What every act does to the engine and the interval timer, as a chain of a few kinds of step (R52, R60, R67 to
R78, R87, R95). -/

namespace Sys2Proof.Machine

/-- One change of the engine, with the interval timer beside it. -/
inductive ConverterStep : Engine × Timer → Engine × Timer → Prop
  | frees (e : Engine) (i : Timer) : ConverterStep (e, i) (e.noFlight, i)
  | abandons (e : Engine) (i : Timer) : ConverterStep (e, i) (e.noFlight.settleBreak, i)
  | idles (e : Engine) (i : Timer) : e.inFlight = none → ConverterStep (e, i) (e.settleBreak, i)
  | grants (e : Engine) (i : Timer) (f : Flight) (kind : Kind) (profile : Profile) : e.state = .running →
      ConverterStep (e, i) ({ e with inFlight := some f }.begin kind profile, i)
  | resumes (e : Engine) (i : Timer) (kind : Kind) (profile : Profile) : e.inFlight ≠ none →
      ConverterStep (e, i) (e.begin kind profile, i)
  | counts (e : Engine) (i : Timer) (l : LoadedSetup) (overload : Bool) : e.loaded = some l →
      ConverterStep (e, i) (e.countPeriod l overload, i)
  | advances (e : Engine) (i : Timer) (l : LoadedSetup) (step : OpStep) : e.loaded = some l → e.inFlight ≠ none →
      step.usesOutput = false → ConverterStep (e, i) (e.advance l step, i)
  | swaps (e : Engine) (i : Timer) (l : LoadedSetup) (raw : Int) (overload : Bool) : e.inFlight ≠ none →
      ConverterStep (e, i) (e.swapPhase l raw overload, i)
  | averages (e : Engine) (i : Timer) (raw : Int) (overload : Bool) : outputInRange raw = true →
      e.held.averaged.2.1 + 1 < 4 →
      ConverterStep (e, i) ({ e with
        held := .average (e.held.averaged.1 + raw) (e.held.averaged.2.1 + 1) (e.held.averaged.2.2 || overload) }, i)
  | downs (e : Engine) (i : Timer) : ConverterStep (e, i) (e.downed, .stopped)
  | starts (e : Engine) (i : Timer) : e.state = .down →
      ConverterStep (e, i) ({ e with state := .starting, startTimer := .running startTime }, i)
  | runs (e : Engine) (i : Timer) (ms : Nat) : e.state = .starting →
      ConverterStep (e, i) ({ e with state := .running, startTimer := .stopped }.settleBreak, .running ms)
  | restarts (e : Engine) (i : Timer) (ms : Nat) : e.state = .running ∨ e.state = .halting →
      ConverterStep (e, i) (e, .running ms)
  | sets (e : Engine) (old new : Nat) : ConverterStep (e, .running old) (e, .running new)
  | halts (e : Engine) (i : Timer) : e.state = .running → e.inFlight ≠ none →
      ConverterStep (e, i) ({ e with state := .halting }, i)

/-- The engine and the interval timer. -/
def State.converter (s : State) : Engine × Timer := (s.engine, s.monitor.intervalTimer)

/-- From `s` to `t` the engine and the interval timer change by steps of the converter. -/
def State.Converts (s t : State) : Prop := Relation.ReflTransGen ConverterStep s.converter t.converter

namespace State.Converts

variable {s t u : State}

theorem of_eq (engine : t.engine = s.engine) (timer : t.monitor.intervalTimer = s.monitor.intervalTimer) : s.Converts t := by
  unfold State.Converts State.converter
  rw [engine, timer]

theorem refl (s : State) : s.Converts s := Relation.ReflTransGen.refl

theorem trans (h : s.Converts t) (k : t.Converts u) : s.Converts u := Relation.ReflTransGen.trans h k

theorem of_step (step : ConverterStep s.converter t.converter) : s.Converts t := Relation.ReflTransGen.single step

/-- What every converter step keeps holds after the chain. -/
theorem keeps {P : Engine × Timer → Prop} (each : ∀ x y, ConverterStep x y → P x → P y) (h : s.Converts t)
    (law : P s.converter) : P t.converter := by
  refine Relation.ReflTransGen.head_induction_on (motive := fun x _ => P x → P t.converter) h id ?_ law
  exact fun step _ ih hx => ih (each _ _ step hx)

theorem of_noticesOnly (h : s.NoticesOnly t) : s.Converts t := .of_eq h.engine (by rw [h.monitor])

theorem terminate (s : State) (reason : Reason) (ends : Request → Bool) : s.Converts (s.terminate reason ends) := by
  have engine := s.terminate_engine reason ends
  have monitor := s.terminate_monitor reason ends
  cases flight : s.flightEnds ends <;> simp only [flight, if_true, Bool.false_eq_true, if_false] at engine
  · exact .of_eq engine (by rw [monitor])
  · refine .of_step ?_
    unfold State.converter
    rw [engine, monitor]
    exact .abandons _ _

theorem finish (s : State) : s.Converts s.finish := by
  refine .of_step ?_
  have interval : s.finish.monitor.intervalTimer = s.monitor.intervalTimer := by rw [s.finish_monitor]
  unfold State.converter
  rw [s.finish_engine, interval]
  exact .frees _ _

theorem modFlight (s : State) (f : Request → Request) : s.Converts (s.modFlight f) := by
  unfold State.modFlight
  split
  · exact .refl s
  · exact .of_eq rfl rfl
  · exact .of_eq rfl rfl

theorem modSource (s : State) (r : Request) (f : PortState → PortState) : s.Converts (s.modSource r f) := by
  unfold State.modSource
  split
  · exact .of_eq rfl rfl
  · exact .refl s

theorem giveBack (s : State) : s.Converts s.giveBack := by
  rcases s.giveBack_cases with ⟨-, e⟩ | ⟨r, -, -, e⟩ | ⟨r, -, -, e⟩ <;> rw [e]
  · exact .refl s
  · exact (terminate s .retired _).trans (.of_eq rfl rfl)
  · exact (modSource s r _).trans (modFlight _ _)

theorem enterDown (s : State) : s.Converts s.enterDown := by
  exact (giveBack s).trans (.of_step (.downs s.giveBack.engine s.giveBack.monitor.intervalTimer))

theorem grant (s : State) (f : Flight) (running : s.engine.state = .running) : s.Converts (s.grant f) := by
  cases h : (s.modEngine fun e => { e with inFlight := some f }).flight with
  | none => rw [s.grant_none f h]; exact .refl s
  | some r =>
    have timer : (s.grant f).monitor.intervalTimer = s.monitor.intervalTimer := by
      rw [s.grant_some f r h]
      cases hr : r.source <;> cases f <;> simp only [State.modSource, hr] <;> rfl
    refine .of_step ?_
    unfold State.converter
    rw [s.grant_engine f r h, timer]
    exact .grants _ _ _ _ _ running

theorem refill (s : State) : s.Converts s.refill := by
  have rest := s.refill_rest.1
  exact .of_eq (by rw [rest]) (by rw [rest])

theorem grantPoint (s : State) (boundary : Bool) (running : s.engine.state = .running) (free : s.engine.inFlight = none) :
    s.Converts (s.grantPoint boundary) := by
  have refilled : s.refill.engine = s.engine := by rw [s.refill_rest.1]
  have idle : ∀ u : State, u.engine = s.engine → u.Converts u.goIdle := fun u same =>
    .of_step (.idles u.engine u.monitor.intervalTimer (by rw [same]; exact free))
  rcases s.grantPoint_cases boundary with ⟨r, -, e⟩ | ⟨-, ⟨-, e⟩ | ⟨-, ⟨p, -, e⟩ | ⟨-, ⟨p, -, e⟩ | ⟨-, e⟩⟩⟩⟩ <;> rw [e]
  · exact grant s _ running
  · exact idle s rfl
  · exact (refill s).trans (grant (s.refill.modArbiter _) (.port p) (by rw [State.modArbiter_engine, refilled]; exact running))
  · exact (refill s).trans (grant (s.refill.modArbiter _) (.port p) (by rw [State.modArbiter_engine, refilled]; exact running))
  · exact (refill s).trans (idle _ refilled)

theorem kick (s : State) : s.Converts s.kick := by
  rcases s.kick_cases with ⟨-, e⟩ | ⟨idle, e⟩ <;> rw [e]
  · exact .refl s
  · simp only [Bool.and_eq_true, State.isIdle, State.isRunning, decide_eq_true_eq, Option.isNone_iff_eq_none] at idle
    exact grantPoint s false idle.1.1 idle.1.2

theorem freed (s : State) (boundary : Bool) (free : s.engine.inFlight = none) : s.Converts (s.freed boundary) := by
  rcases s.freed_cases boundary with ⟨running, e⟩ | ⟨-, e⟩ | ⟨-, e⟩ <;> rw [e]
  · exact grantPoint s boundary running free
  · exact enterDown s
  · exact .refl s

theorem afterTerminations (s : State) (abandoned : Bool) (free : abandoned = true → s.engine.inFlight = none) :
    s.Converts (s.afterTerminations abandoned) := by
  unfold State.afterTerminations
  split
  next h => exact freed s false (free h)
  · exact kick s

theorem placeSample (s : State) : s.Converts s.placeSample := by
  unfold State.placeSample
  split
  · exact .refl s
  · exact .of_eq rfl rfl

theorem completeSample (s : State) (value : Int) : s.Converts (s.completeSample value) := by
  let sampled := s.modMonitor fun m => { m with temperature := value, valid := true }
  have passed : s.Converts sampled.ageingPass := .of_eq sampled.ageingPass_engine (by rw [sampled.ageingPass_monitor]; rfl)
  exact passed.trans (finish _)

theorem postWindow (s : State) (r : Request) (value : Int) : s.Converts (s.postWindow r value) :=
  .of_noticesOnly (s.noticesOnly_postWindow r value)

theorem endTurn (s : State) (r : Request) (value : Int) (busy : s.engine.inFlight ≠ none) : s.Converts (s.endTurn r value) := by
  rcases s.endTurn_cases r value with ⟨-, e⟩ | ⟨-, -, e⟩ | ⟨-, -, e⟩ <;> rw [e]
  · exact finish s
  · exact (modSource s r _).trans (.of_step (.frees _ _))
  · refine (modFlight s _).trans (.of_step (.resumes _ _ _ _ ?_))
    have same : (s.modFlight (·.after value)).engine = s.engine := by
      unfold State.modFlight
      split <;> rfl
    rw [same]
    exact busy

theorem engine_modSource (s : State) (r : Request) (f : PortState → PortState) : (s.modSource r f).engine = s.engine := by
  unfold State.modSource
  split <;> rfl

theorem deliver (s : State) (r : Request) (formed : Formed) (busy : s.engine.inFlight ≠ none) : s.Converts (s.deliver r formed) := by
  refine ((modSource s r _).trans (postWindow _ r _)).trans (endTurn _ r _ ?_)
  rw [(State.noticesOnly_postWindow _ _ _).engine]
  exact fun none => busy ((congrArg Engine.inFlight (engine_modSource s r _)).symm.trans none)

theorem writeRecord (s : State) (r : Request) (value : Int) : s.Converts (s.writeRecord r value) :=
  (of_eq (t := s.modProfile r.profile fun profile => { profile with record := some (s.monitor.freshRecord value) }) rfl
    rfl).trans (of_noticesOnly (State.noticesOnly_postOwner _ _ _))

theorem useOutput (s : State) (r : Request) (step : OpStep) (l : LoadedSetup) (raw : Int) (overload : Bool)
    (busy : s.engine.inFlight ≠ none) (loaded : s.engine.loaded = some l) (range : outputInRange raw = true) :
    s.Converts (s.useOutput r step l raw overload) := by
  cases step with
  | settling | chopPlusSettling | chopMinusSettling | zeroSettling => exact .of_step (.advances _ _ l _ loaded busy rfl)
  | chopPlusOutput => exact .of_step (.swaps _ _ l raw overload busy)
  | output =>
    cases source : r.source with
    | monitor =>
      simp only [State.useOutput, State.useResult, source]
      exact completeSample s _
    | port p =>
      simp only [State.useOutput, State.useResult, source]
      exact deliver s r _ busy
  | chopMinusOutput =>
    simp only [State.useOutput, State.chopOutput]
    split
    · exact deliver s r _ busy
    · exact .refl s
  | zeroAveraging =>
    simp only [State.useOutput, State.averageOutput]
    split
    next more => exact .of_step (.averages _ _ raw overload range more)
    · exact (modSource s r _).trans ((writeRecord _ r _).trans (finish _))

theorem afterPeriod (s : State) : s.Converts s.afterPeriod := by
  unfold State.afterPeriod
  split
  · exact enterDown s
  · split
    next free => exact freed s true (by simpa using free)
    · exact .refl s

theorem endPeriod (s : State) (raw : Int) (overload : Bool) (range : outputInRange raw = true) :
    s.Converts (s.endPeriod raw overload) := by
  unfold State.endPeriod
  split
  next r step l flight _ loaded =>
    have busy : s.engine.inFlight ≠ none := by
      intro none
      simp [State.flight, none] at flight
    have counted : s.Converts (s.modEngine (·.countPeriod l overload)) := .of_step (.counts _ _ l overload loaded)
    exact (counted.trans (useOutput _ r step l raw _ busy loaded range)).trans (afterPeriod _)
  · exact .refl s

end State.Converts

/-! ## The engine after the terminations of an act -/

theorem State.engine_disown (s : State) (owner : Option Source) : (s.disown owner).engine = s.engine := by
  unfold State.disown
  split <;> rfl

theorem State.monitor_disown (s : State) (owner : Option Source) : (s.disown owner).monitor = s.monitor := by
  unfold State.disown
  split <;> rfl

theorem State.engine_withdrawFor (s : State) (p : Port) : (s.withdrawFor p).engine = s.engine := by
  unfold State.withdrawFor
  split
  · rfl
  · split <;> rfl

theorem State.monitor_withdrawFor (s : State) (p : Port) : (s.withdrawFor p).monitor = s.monitor := by
  unfold State.withdrawFor
  split
  · rfl
  · split <;> rfl

theorem State.engine_markFinal (s : State) (n : Fin 32) : (s.markFinal n).engine = s.engine := by
  unfold State.markFinal State.modFlight
  split
  · split <;> rfl
  · rfl

/-- The engine that a cancel leaves to the grant point. -/
theorem State.engine_cancelEnded (s : State) (p : Port) (tag : Byte) :
    (s.cancelEnded p tag).engine = (s.terminate .cancelled (Request.isTagged p tag)).engine := rfl

theorem State.engine_forceEnded (s : State) (n : Fin 32) :
    (s.forceEnded n).engine = ((s.erase n).terminate .revoked (Request.names n)).engine := by
  have posted := State.noticesOnly_postOwner (((s.erase n).terminate .revoked (Request.names n)).disown (s.profile n).owner)
    (s.profile n).owner (.profileRevoked n)
  exact posted.engine.trans (State.engine_disown _ _)

theorem State.engine_tripEnded (s : State) (o : OutputId) :
    (s.tripEnded o).engine = ((s.modOutput o (·.trip)).terminate .excitationFault (s.needs o)).engine :=
  (State.noticesOnly_postTrip (((s.modOutput o (·.trip)).terminate .excitationFault (s.needs o)).refreshDemand) o).engine

theorem State.engine_resetEnded (s : State) (p : Port) :
    (s.resetEnded p).engine = (s.terminate .portReset (Request.isFrom p)).engine :=
  State.engine_withdrawFor ((s.terminate .portReset (Request.isFrom p)).modPort p (·.cleared)) p

/-- A termination of the request in flight leaves the converter free. -/
theorem State.free_terminate {s : State} {ends : Request → Bool} (reason : Reason) (flight : s.flightEnds ends = true) :
    (s.terminate reason ends).engine.inFlight = none := by
  rw [s.terminate_engine, if_pos flight]
  rfl

theorem Acts.converts {s t : State} {i : Instr} (act : Acts s i t) : s.Converts t := by
  cases act with
  | idle => exact .refl s
  | portReset p =>
    have ended : s.Converts (s.resetEnded p) := by
      refine (State.Converts.terminate s .portReset (Request.isFrom p)).trans (.of_eq (s.engine_resetEnded p) ?_)
      have same := State.monitor_withdrawFor ((s.terminate .portReset (Request.isFrom p)).modPort p (·.cleared)) p
      exact congrArg Monitor.intervalTimer same
    rw [s.resetPort_eq]
    refine State.Converts.trans (t := s.resetFreed p) ?_ (.of_eq rfl rfl)
    unfold State.resetFreed
    split
    next flight =>
      exact ended.trans (.freed _ false (by rw [s.engine_resetEnded]; exact State.free_terminate _ flight))
    · exact ended
  | alertConfig | claim | write | share | retireNow | readNotices | exciteVote | setQuota | setWeight | setAffinity
    | setAllowance | setCombine | setExciteTiming | clearLockout | linger | holdOff | dwell | handOver
    | offerLapse => exact .of_eq rfl rfl
  | retireBusy p n =>
    rw [s.retireBusy_eq]
    have marked : s.Converts (s.retireMarked n) := by
      refine .of_eq (State.engine_markFinal _ n) ?_
      unfold State.retireMarked State.markFinal State.modFlight
      split
      · split <;> rfl
      · rfl
    exact (marked.trans (.terminate _ .retired (Request.endsAtRetire n))).trans
      (.trans (t := s.retireEnded n) (.of_eq (State.engine_refreshDemand _) (congrArg _ (State.monitor_refreshDemand _)))
        (.kick _))
  | release p n => exact .of_eq (State.engine_disown _ _) (by rw [State.monitor_disown]; rfl)
  | submit p f w =>
    rw [s.submit_eq]
    exact .trans (t := s.submitted p f.tag w) (.of_eq rfl rfl) (.kick _)
  | cancel p tag =>
    rw [s.cancel_eq]
    refine (State.Converts.terminate s .cancelled (Request.isTagged p tag)).trans
      (.trans (t := s.cancelEnded p tag) (.of_eq rfl rfl) (.afterTerminations _ _ fun flight => ?_))
    rw [s.engine_cancelEnded]
    exact State.free_terminate _ flight
  | fetch p b n => exact .trans (t := s.modPort p (·.fetched n)) (.of_eq rfl rfl) (.kick _)
  | engineStart p down => exact .of_step (.starts _ _ down)
  | haltNow => exact .enterDown s
  | haltLater p running busy => exact .of_step (.halts _ _ running busy)
  | setCalPolicy p x y d =>
    refine State.Converts.trans (t := s.modMonitor (·.withPolicy x.toNat y.toNat d.toNat)) ?_ (.refl _)
    cases timer : s.monitor.intervalTimer with
    | stopped => exact .of_eq rfl (by simp [Monitor.withPolicy, timer])
    | running ms =>
      refine .of_step ?_
      simp only [State.converter, State.modMonitor_engine, State.modMonitor_monitor, Monitor.withPolicy, timer]
      exact .sets _ _ _
  | forceRelease p n =>
    rw [s.forceRelease_eq]
    refine ((State.Converts.of_eq (s := s) (t := s.erase n) rfl rfl).trans (.terminate _ .revoked (Request.names n))).trans
      (.trans (t := s.forceEnded n) (.of_eq (s.engine_forceEnded n) ?_) (.afterTerminations _ _ fun flight => ?_))
    · have posted := State.noticesOnly_postOwner
        (((s.erase n).terminate .revoked (Request.names n)).disown (s.profile n).owner) (s.profile n).owner
        (.profileRevoked n)
      exact congrArg Monitor.intervalTimer (posted.monitor.trans (State.monitor_disown _ _))
    · rw [s.engine_forceEnded]
      exact State.free_terminate (s := s.erase n) _ flight
  | makeOffer p q =>
    have withdrawn : s.NoticesOnly (s.withdrawOther p q) := by
      unfold State.withdrawOther
      split
      · exact .refl s
      · split
        · exact s.noticesOnly_post _ _
        · exact .refl s
    exact .of_eq (withdrawn.trans (State.noticesOnly_post _ q (.offer p))).engine
      (by rw [← (withdrawn.trans (State.noticesOnly_post _ q (.offer p))).monitor]; rfl)
  | enterRunning starting =>
    rw [s.enterRunning_eq]
    have running : s.Converts s.enteringRunning.restartInterval :=
      .of_step (.runs s.engine s.monitor.intervalTimer s.monitor.intervalTime starting)
    exact (running.trans (.placeSample _)).trans (.kick _)
  | interval _ converting =>
    have restarted : s.Converts s.restartInterval :=
      .of_step (.restarts s.engine s.monitor.intervalTimer s.monitor.intervalTime converting)
    exact (restarted.trans (.placeSample _)).trans (.kick _)
  | periodEnd raw overload _ range => exact .endPeriod s raw overload range
  | warmUp o => exact .trans (t := (s.modOutput o (·.becomeReady)).postAll (.excitation o .ready)) (.of_eq rfl rfl) (.kick _)
  | trip o =>
    rw [s.trip_eq]
    refine ((State.Converts.of_eq (s := s) (t := s.modOutput o (·.trip)) rfl rfl).trans
      (.terminate _ .excitationFault (s.needs o))).trans
      (.trans (t := s.tripEnded o) (.of_eq (s.engine_tripEnded o) ?_) (.afterTerminations _ _ fun flight => ?_))
    · have posted := State.noticesOnly_postTrip
        (((s.modOutput o (·.trip)).terminate .excitationFault (s.needs o)).refreshDemand) o
      exact congrArg Monitor.intervalTimer posted.monitor
    · rw [s.engine_tripEnded]
      exact State.free_terminate (s := s.modOutput o (·.trip)) _ flight

/-! ## The two laws of the engine -/

/-- `State.FilterSettled`, of the engine alone. -/
def Engine.FilterSettled (e : Engine) : Prop :=
  (∀ step, e.step = some step → step.usesOutput = true → e.settled) ∧
    (e.inFlight = none → e.step = none) ∧ (e.state = .down ∨ e.state = .starting → e.inFlight = none)

/-- `State.EngineLawful`, of the engine and the interval timer. -/
def Engine.Lawful (e : Engine) (interval : Timer) : Prop :=
  (e.state = .starting ↔ e.startTimer ≠ .stopped) ∧
    (e.state = .running ∨ e.state = .halting ↔ interval ≠ .stopped) ∧
    (e.state = .down ∨ e.state = .starting → e.inFlight = none ∧ e.loaded = none ∧ e.progress = 0 ∧ e.marks = [])

theorem Engine.load_parts (e : Engine) (l : LoadedSetup) :
    (e.load l).loaded = some l ∧ (e.load l).state = e.state ∧ (e.load l).startTimer = e.startTimer ∧
      (e.load l).inFlight = e.inFlight := by
  unfold Engine.load
  split
  next same => exact ⟨same, rfl, rfl, rfl⟩
  · exact ⟨rfl, rfl, rfl, rfl⟩

/-- Settling is the first step of every operation. -/
theorem usesOutput_firstStep (kind : Kind) (method : Method) : (firstStep kind method).usesOutput = false := by
  cases kind <;> cases method <;> rfl

/-- A step after settling is an output-using one only at a full settle progress (R77). -/
theorem Engine.settled_advance {e : Engine} {l : LoadedSetup} {step used : OpStep} (loaded : e.loaded = some l)
    (settling : step.usesOutput = false) (now : (e.advance l step).step = some used) (uses : used.usesOutput = true) :
    (e.advance l step).settled := by
  refine ⟨l, loaded, ?_⟩
  change l.fullProgress ≤ e.progress
  by_contra early
  simp only [Engine.advance, early, if_false, Option.some.injEq] at now
  rw [now, uses] at settling
  cases settling

theorem Engine.FilterSettled.begin {e : Engine} (kind : Kind) (profile : Profile) (busy : e.inFlight ≠ none)
    (converting : ¬ (e.state = .down ∨ e.state = .starting)) : (e.begin kind profile).FilterSettled := by
  obtain ⟨loaded, state, -, flight⟩ := e.load_parts (firstSetup kind profile)
  refine ⟨fun step now uses => Engine.settled_advance (e := { e.load (firstSetup kind profile) with held := .none }) loaded
    (usesOutput_firstStep _ _) now uses, fun none => ?_, fun idle => ?_⟩
  · exact absurd (flight.symm.trans none) busy
  · change (e.load _).state = _ ∨ (e.load _).state = _ at idle
    rw [state] at idle
    exact absurd idle converting

theorem Engine.FilterSettled.step {x y : Engine × Timer} (step : ConverterStep x y) (h : x.1.FilterSettled) :
    y.1.FilterSettled := by
  obtain ⟨uses, idle, off⟩ := h
  cases step with
  | frees | abandons | downs => exact ⟨nofun, fun _ => rfl, fun _ => rfl⟩
  | idles e _ free =>
    have none : e.step = none := idle free
    exact ⟨fun step now => absurd (none.symm.trans now) nofun, idle, off⟩
  | grants e i f kind profile running => exact .begin kind profile nofun (by simp [running])
  | resumes e i kind profile busy => exact .begin kind profile busy fun down => busy (off down)
  | counts e i l overload loaded =>
    refine ⟨fun step now used => ?_, idle, off⟩
    obtain ⟨l', loaded', full⟩ := uses step now used
    obtain rfl : l = l' := by simpa [loaded] using loaded'
    refine ⟨l, loaded, ?_⟩
    change l.setup.order.toNat - 1 ≤ min (e.progress + 1) l.setup.order.discards
    have discards : l.setup.order.discards = l.setup.order.toNat - 1 := rfl
    change l.setup.order.toNat - 1 ≤ e.progress at full
    omega
  | advances e i l step loaded busy settling =>
    exact ⟨fun used now uses => Engine.settled_advance loaded settling now uses, fun none => absurd none busy,
      fun down => off down⟩
  | swaps e i l raw overload busy =>
    refine ⟨fun step now used => ?_, fun none => absurd none busy, off⟩
    have : step = .chopMinusSettling := by simpa [Engine.swapPhase, Engine.settleBreak] using now.symm
    rw [this] at used
    cases used
  | averages | restarts | sets => exact ⟨uses, idle, off⟩
  | starts e i down => exact ⟨uses, idle, fun _ => off (.inl down)⟩
  | runs e i ms starting =>
    have none : e.step = none := idle (off (.inr starting))
    exact ⟨fun step now => absurd (none.symm.trans now) nofun, idle, nofun⟩
  | halts e i running busy => exact ⟨uses, idle, by rintro (h | h) <;> cases h⟩

theorem Engine.Lawful.step {x y : Engine × Timer} (step : ConverterStep x y) (h : x.1.Lawful x.2) : y.1.Lawful y.2 := by
  obtain ⟨start, interval, off⟩ := h
  have begun : ∀ (e : Engine) (kind : Kind) (profile : Profile), ¬ (e.state = .down ∨ e.state = .starting) →
      (e.state = .starting ↔ e.startTimer ≠ .stopped) → (e.state = .running ∨ e.state = .halting ↔ x.2 ≠ .stopped) →
      (e.begin kind profile).Lawful x.2 := by
    intro e kind profile converting start interval
    obtain ⟨-, state, timer, -⟩ := e.load_parts (firstSetup kind profile)
    have state' : (e.begin kind profile).state = e.state := state
    have timer' : (e.begin kind profile).startTimer = e.startTimer := timer
    refine ⟨by rw [state', timer']; exact start, by rw [state']; exact interval, fun idle => ?_⟩
    rw [state'] at idle
    exact absurd idle converting
  cases step with
  | frees => exact ⟨start, interval, fun down => ⟨rfl, (off down).2⟩⟩
  | abandons => exact ⟨start, interval, fun down => ⟨rfl, (off down).2.1, rfl, rfl⟩⟩
  | idles e i free => exact ⟨start, interval, fun down => ⟨free, (off down).2.1, rfl, rfl⟩⟩
  | grants e i f kind profile running =>
    exact begun { e with inFlight := some f } kind profile (by simp [running]) start interval
  | resumes e i kind profile busy => exact begun e kind profile (fun down => busy (off down).1) start interval
  | counts e i l overload loaded =>
    exact ⟨start, interval, fun down => absurd ((off down).2.1.symm.trans loaded) nofun⟩
  | advances | averages => exact ⟨start, interval, off⟩
  | swaps e i l raw overload busy => exact ⟨start, interval, fun down => absurd (off down).1 busy⟩
  | downs e i =>
    rw [e.downed_eq_inDown]
    exact ⟨by simp [Engine.inDown], by simp [Engine.inDown], fun _ => ⟨rfl, rfl, rfl, rfl⟩⟩
  | starts e i down => exact ⟨by simp, by simpa [down] using interval, fun _ => off (.inl down)⟩
  | runs e i ms starting => exact ⟨by simp [Engine.settleBreak], by simp [Engine.settleBreak], by rintro (h | h) <;> cases h⟩
  | restarts e i ms converting => exact ⟨start, ⟨nofun, fun _ => converting⟩, off⟩
  | sets e old new => exact ⟨start, ⟨nofun, fun _ => interval.2 nofun⟩, off⟩
  | halts e i running busy =>
    exact ⟨by simpa [running] using start, by simpa [running] using interval, by rintro (h | h) <;> cases h⟩

theorem State.engineLawful_resetWith (straps : Straps) : (State.resetWith straps).EngineLawful := by
  cases straps
  exact ⟨⟨nofun, fun h => absurd rfl h⟩, ⟨(by rintro (h | h) <;> cases h), fun h => absurd rfl h⟩,
    fun _ => ⟨rfl, rfl, rfl, rfl⟩⟩

end Sys2Proof.Machine
end

section
/-! PROOF. The laws of the engine. -/

namespace Sys2Proof.Proofs
open Sys2Proof Sys2Proof.Machine

/-- Settles O59: every act changes the engine by converter steps, and each of these keeps both laws. -/
theorem filterAndEngineStatesStayLawful : Obligations.FilterAndEngineStatesStayLawful := by
  refine ⟨fun s t => step_keeps (P := fun s => s.engine.FilterSettled) (fun s t same law => ?_) (fun straps => ?_)
    fun s i t law act => ?_, fun s t => step_keeps (P := fun s => s.engine.Lawful s.monitor.intervalTimer)
    (fun s t same law => ?_) (fun straps => ?_) fun s i t law act => ?_⟩
  · rw [same.engine]; exact law
  · exact ⟨nofun, fun _ => rfl, fun _ => rfl⟩
  · exact act.converts.keeps (P := fun x => x.1.FilterSettled) (fun _ _ => Engine.FilterSettled.step) law
  · rw [same.engine, same.monitor]; exact law
  · exact State.engineLawful_resetWith straps
  · exact act.converts.keeps (P := fun x => x.1.Lawful x.2) (fun _ _ => Engine.Lawful.step) law

end Sys2Proof.Proofs
end

section
/-! SUPPORT. The Converter Arbiter in the manual's words: eligible candidates, the smallest refill, the granted request, and
the outcomes of a grant point (R50 to R60). -/

namespace Sys2Proof.Machine

/-! ## Eligibility and matching (R50, R51, R57) -/

theorem State.needReady_iff (s : State) (n : Fin 32) :
    s.needReady n = true ↔ ∀ o, (s.profile n).need.get o = true → (s.output o).state = .ready := by
  have split : (∀ o, (s.profile n).need.get o = true → (s.output o).state = .ready) ↔
      ((s.profile n).need.exa = true → s.outputs.exa.state = .ready) ∧
        ((s.profile n).need.exb = true → s.outputs.exb.state = .ready) :=
    ⟨fun h => ⟨h .exa, h .exb⟩, fun ⟨a, b⟩ o => by cases o <;> assumption⟩
  rw [split]
  unfold State.needReady
  cases (s.profile n).need.exa <;> cases (s.profile n).need.exb <;> simp

theorem kind_measure_or_valid (kind : Kind) (valid : Bool) :
    (decide (kind = .measure) || valid) = true ↔ (kind = .zero → valid = true) := by
  cases kind <;> simp

theorem State.eligible_iff (s : State) (ps : PortState) (r : Request) : s.eligible ps r = true ↔
    s.engine.state = .running ∧ s.needReady r.profile = true ∧ (r.kind = .zero → s.monitor.valid = true) ∧
      r.places ≤ ps.freePlaces := by
  unfold State.eligible State.isRunning
  rw [Bool.and_eq_true, kind_measure_or_valid]
  simp only [Bool.and_eq_true, decide_eq_true_eq]
  tauto

theorem State.headEligible_nil {s : State} {p : Port} (empty : (s.port p).queue = []) : s.headEligible p = false := by
  simp [State.headEligible, empty]

theorem State.headEligible_cons {s : State} {p : Port} {r : Request} {rest : List Request}
    (queue : (s.port p).queue = r :: rest) :
    s.headEligible p = true ↔ r.state = .queued ∧ s.eligible (s.port p) r = true := by
  simp [State.headEligible, queue]

theorem State.headEligible_spec {s : State} {p : Port} (h : s.headEligible p = true) :
    ∃ r rest, (s.port p).queue = r :: rest ∧ r.state = .queued ∧ s.eligible (s.port p) r = true := by
  cases queue : (s.port p).queue with
  | nil => rw [s.headEligible_nil queue] at h; cases h
  | cons r rest =>
    obtain ⟨queued, eligible⟩ := (s.headEligible_cons queue).1 h
    exact ⟨r, rest, rfl, queued, eligible⟩

theorem State.monitorEligible_iff (s : State) (r : Request) : s.monitorEligible r = true ↔
    r.state = .queued ∧ s.engine.state = .running ∧ s.needReady r.profile = true ∧
      (r.kind = .zero → s.monitor.valid = true) := by
  unfold State.monitorEligible State.isRunning
  rw [Bool.and_eq_true, kind_measure_or_valid]
  simp only [Bool.and_eq_true, decide_eq_true_eq]
  tauto

theorem State.headMatches_iff (s : State) (p : Port) : s.headMatches p = true ↔
    ∃ r rest, (s.port p).queue = r :: rest ∧ r.kind = .measure ∧ (s.profile r.profile).method ≠ .chop ∧
      s.engine.loaded = some { setup := (s.profile r.profile).setup, shorted := false, phase := .none } := by
  unfold State.headMatches
  cases queue : (s.port p).queue with
  | nil => simp
  | cons r rest =>
    cases loaded : s.engine.loaded with
    | none => simp
    | some l =>
      obtain ⟨setup, shorted, phase⟩ := l
      simp only [List.head?_cons, Bool.and_eq_true, decide_eq_true_eq, Bool.not_eq_true', ne_eq, List.cons.injEq,
        Option.some.injEq, LoadedSetup.mk.injEq]
      constructor
      · rintro ⟨⟨⟨⟨measure, method⟩, unshorted⟩, none⟩, same⟩
        exact ⟨r, rest, ⟨rfl, rfl⟩, measure, method, same.symm, unshorted, none⟩
      · rintro ⟨_, _, ⟨rfl, rfl⟩, measure, method, same, unshorted, none⟩
        exact ⟨⟨⟨⟨measure, method⟩, unshorted⟩, none⟩, same.symm⟩

theorem mem_allPorts (p : Port) : p ∈ allPorts := by cases p <;> decide

theorem mem_roundFrom (p q : Port) : q ∈ roundFrom p := by cases p <;> cases q <;> decide

theorem State.anyHead_iff (s : State) : allPorts.any s.headEligible = true ↔ ∃ q, s.headEligible q = true := by
  rw [List.any_eq_true]
  exact ⟨fun ⟨q, _, h⟩ => ⟨q, h⟩, fun ⟨q, h⟩ => ⟨q, mem_allPorts q, h⟩⟩

theorem State.canGrant_iff (s : State) (p : Port) :
    s.canGrant p = true ↔ s.headEligible p = true ∧ 0 < (s.port p).credit := by
  simp [State.canGrant]

/-! ## Beginning an operation (R77) -/

theorem Engine.begin_loaded {e : Engine} {kind : Kind} {profile : Profile} (same : e.loaded = some (firstSetup kind profile)) :
    e.begin kind profile = { e with
      held := .none
      step := some (if profile.setup.order.toNat - 1 ≤ e.progress then (firstStep kind profile.method).settled
                    else firstStep kind profile.method) } := by
  have loaded : e.load (firstSetup kind profile) = e := by unfold Engine.load; rw [if_pos same]
  have setup : (firstSetup kind profile).setup = profile.setup := by cases kind <;> rfl
  unfold Engine.begin Engine.advance LoadedSetup.fullProgress FilterOrder.discards
  rw [loaded, setup]

theorem Engine.begin_other {e : Engine} {kind : Kind} {profile : Profile} (other : e.loaded ≠ some (firstSetup kind profile)) :
    e.begin kind profile = { e with
      loaded := some (firstSetup kind profile), progress := 0, marks := [], held := .none
      step := some (firstStep kind profile.method) } := by
  have loaded : e.load (firstSetup kind profile) =
      { e with loaded := some (firstSetup kind profile) }.settleBreak := by unfold Engine.load; rw [if_neg other]
  have unsettled : ¬ (firstSetup kind profile).fullProgress ≤ 0 := by
    unfold LoadedSetup.fullProgress FilterOrder.discards
    cases (firstSetup kind profile).setup.order <;> decide
  unfold Engine.begin Engine.advance
  rw [loaded]
  simp [Engine.settleBreak, unsettled]

/-! ## The refill (R56) -/

theorem PortState.served_iff (ps : PortState) (weight : 1 ≤ ps.weight) (overdrawn : ps.credit ≤ 0) (k : Nat) :
    0 < ps.credit + k * ps.weight ↔ ps.refillsNeeded ≤ k := by
  have debt : ((-ps.credit).toNat : Int) = -ps.credit := Int.toNat_of_nonneg (by omega)
  unfold PortState.refillsNeeded
  rw [Nat.succ_le_iff, Nat.div_lt_iff_lt_mul weight, ← Int.ofNat_lt, debt]
  push_cast
  omega

theorem PortState.refill_eq (ps : PortState) (k : Nat) : ps.refill k = { ps with credit :=
    if (ps.weight : Int) < ps.credit + k * ps.weight then ps.weight else ps.credit + k * ps.weight } := by
  unfold PortState.refill
  congr 1
  split <;> omega

/-- The refill's k is reached by an eligible port, and no eligible port needs fewer. -/
theorem State.refillCount_spec {s : State} (waits : ∃ q, s.headEligible q = true) :
    (∃ q, s.headEligible q = true ∧ (s.port q).refillsNeeded = s.refillCount) ∧
      ∀ q, s.headEligible q = true → s.refillCount ≤ (s.port q).refillsNeeded := by
  have mem : ∀ k, k ∈ s.eligiblePorts.map (fun p => (s.port p).refillsNeeded) ↔
      ∃ q, s.headEligible q = true ∧ (s.port q).refillsNeeded = k := by
    intro k
    simp only [State.eligiblePorts, List.mem_map, List.mem_filter]
    exact ⟨fun ⟨q, ⟨_, h⟩, e⟩ => ⟨q, h, e⟩, fun ⟨q, h, e⟩ => ⟨q, ⟨mem_allPorts q, h⟩, e⟩⟩
  cases needs : s.eligiblePorts.map fun p => (s.port p).refillsNeeded with
  | nil =>
    obtain ⟨q, h⟩ := waits
    have := (mem (s.port q).refillsNeeded).2 ⟨q, h, rfl⟩
    rw [needs] at this
    cases this
  | cons k rest =>
    have least : (k :: rest).min? = some s.refillCount := by
      unfold State.refillCount
      rw [needs]
      rfl
    rw [List.min?_eq_some_iff, ← needs] at least
    exact ⟨(mem _).1 least.1, fun q h => least.2 _ ((mem _).2 ⟨q, h, rfl⟩)⟩

theorem State.refill_of_credit {s : State} (served : ∃ q, s.headEligible q = true ∧ 0 < (s.port q).credit) : s.refill = s := by
  obtain ⟨q, served⟩ := served
  have any : allPorts.any s.canGrant = true := List.any_eq_true.2 ⟨q, mem_allPorts q, (s.canGrant_iff q).2 served⟩
  unfold State.refill
  rw [if_pos any]

theorem State.refill_of_overdrawn {s : State} (overdrawn : ∀ q, s.headEligible q = true → (s.port q).credit ≤ 0) :
    s.refill = s.mapPorts (·.refill s.refillCount) := by
  have none : allPorts.any s.canGrant = false := by
    rw [List.any_eq_false]
    intro q _ can
    obtain ⟨eligible, credit⟩ := (s.canGrant_iff q).1 can
    exact absurd (overdrawn q eligible) (not_le.2 credit)
  unfold State.refill
  rw [none]
  rfl

/-- After a refill some port with an eligible head has a credit above 0. -/
theorem State.refill_serves {s : State} (weights : ∀ q, 1 ≤ (s.port q).weight) (waits : ∃ q, s.headEligible q = true) :
    ∃ q, s.headEligible q = true ∧ 0 < (s.refill.port q).credit := by
  by_cases served : ∃ q, s.headEligible q = true ∧ 0 < (s.port q).credit
  · rw [State.refill_of_credit served]
    exact served
  · have overdrawn : ∀ q, s.headEligible q = true → (s.port q).credit ≤ 0 := by
      intro q eligible
      by_contra above
      exact served ⟨q, eligible, not_le.1 above⟩
    obtain ⟨⟨q, eligible, least⟩, -⟩ := State.refillCount_spec waits
    refine ⟨q, eligible, ?_⟩
    rw [State.refill_of_overdrawn overdrawn, State.port_mapPorts]
    have lifted := ((s.port q).served_iff (weights q) (overdrawn q eligible) s.refillCount).2 least.le
    have weight := weights q
    rw [PortState.refill_eq]
    dsimp only
    split <;> omega

/-- A refill raises every credit by whole weights, as far as the weight. -/
theorem State.refill_raises {s : State} (bounded : ∀ q, (s.port q).credit ≤ (s.port q).weight) :
    ∃ k : Nat, ∀ q, (s.refill.port q).credit =
      if ((s.port q).weight : Int) < (s.port q).credit + k * (s.port q).weight then ((s.port q).weight : Int)
      else (s.port q).credit + k * (s.port q).weight := by
  unfold State.refill
  split
  · refine ⟨0, fun q => ?_⟩
    have := bounded q
    rw [if_neg (by push_cast; omega)]
    simp
  · refine ⟨s.refillCount, fun q => ?_⟩
    rw [State.port_mapPorts, PortState.refill_eq]

theorem State.refill_bounded {s : State} (bounded : ∀ q, (s.port q).credit ≤ (s.port q).weight) (q : Port) :
    (s.port q).credit ≤ (s.refill.port q).credit ∧ (s.refill.port q).credit ≤ (s.port q).weight := by
  obtain ⟨k, raised⟩ := State.refill_raises bounded
  have := bounded q
  have gain : (0 : Int) ≤ k * (s.port q).weight := by positivity
  rw [raised q]
  split <;> omega

theorem State.headEligible_refill (s : State) (p : Port) : s.refill.headEligible p = s.headEligible p := by
  unfold State.headEligible State.eligible State.needReady State.isRunning PortState.freePlaces
  have rest := s.refill_rest
  rw [rest.2 p, rest.1]
  rfl

theorem State.headMatches_refill (s : State) (p : Port) : s.refill.headMatches p = s.headMatches p := by
  unfold State.headMatches
  have rest := s.refill_rest
  rw [rest.2 p, rest.1]
  rfl

/-- A port that a grant point may choose, after its refill (R56). -/
def State.Serves (s : State) (p : Port) : Prop := s.headEligible p = true ∧ 0 < (s.refill.port p).credit

theorem State.canGrant_refill (s : State) (p : Port) : s.refill.canGrant p = true ↔ s.Serves p := by
  rw [State.canGrant_iff, State.headEligible_refill, State.Serves]

/-! ## Affinity and turn (R57 to R59) -/

/-- Affinity applies: at a result boundary, below the limit, with a port that may be granted and matches (R58). -/
def State.Affine (s : State) (boundary : Bool) : Prop :=
  boundary = true ∧ 0 < s.arbiter.limit ∧ s.arbiter.streak < s.arbiter.limit ∧
    ∃ q, s.Serves q ∧ s.headMatches q = true

theorem State.arbiter_refill (s : State) : s.refill.arbiter = s.arbiter := by rw [s.refill_rest.1]

theorem State.affinityChoice_some {s : State} {boundary : Bool} {p : Port} (h : s.refill.affinityChoice boundary = some p) :
    s.Affine boundary ∧ s.Serves p ∧ s.headMatches p = true ∧ ∃ before after,
      roundFrom s.arbiter.pointer = before ++ p :: after ∧ ∀ q ∈ before, ¬ (s.Serves q ∧ s.headMatches q = true) := by
  unfold State.affinityChoice at h
  rw [s.arbiter_refill] at h
  split at h
  next allowed =>
    simp only [Bool.and_eq_true, decide_eq_true_eq] at allowed
    rw [List.find?_eq_some_iff_append] at h
    obtain ⟨found, before, after, order, earlier⟩ := h
    rw [Bool.and_eq_true, s.canGrant_refill, s.headMatches_refill] at found
    refine ⟨⟨allowed.1.1, allowed.1.2, allowed.2, p, found⟩, found.1, found.2, before, after, order, fun q mem => ?_⟩
    have not := earlier q mem
    rw [Bool.not_eq_true', ← Bool.not_eq_true, Bool.and_eq_true, s.canGrant_refill, s.headMatches_refill] at not
    exact not
  · cases h

theorem State.affinityChoice_none {s : State} {boundary : Bool} (h : s.refill.affinityChoice boundary = none) :
    ¬ s.Affine boundary := by
  rintro ⟨atBoundary, limit, streak, q, serves, matched⟩
  unfold State.affinityChoice at h
  rw [s.arbiter_refill, if_pos (by simp [atBoundary, limit, streak]), List.find?_eq_none] at h
  exact h q (mem_roundFrom _ q) (by rw [Bool.and_eq_true, s.canGrant_refill, s.headMatches_refill]; exact ⟨serves, matched⟩)

theorem State.turnChoice_some {s : State} {p : Port} (h : s.refill.turnChoice = some p) :
    s.Serves p ∧ ∃ before after, roundFrom s.arbiter.pointer = before ++ p :: after ∧ ∀ q ∈ before, ¬ s.Serves q := by
  unfold State.turnChoice at h
  rw [s.arbiter_refill, List.find?_eq_some_iff_append] at h
  obtain ⟨found, before, after, order, earlier⟩ := h
  refine ⟨(s.canGrant_refill p).1 found, before, after, order, fun q mem serves => ?_⟩
  have not := earlier q mem
  rw [Bool.not_eq_true', ← Bool.not_eq_true, s.canGrant_refill] at not
  exact not serves

theorem State.turnChoice_none {s : State} (h : s.refill.turnChoice = none) (q : Port) : ¬ s.Serves q := by
  unfold State.turnChoice at h
  rw [List.find?_eq_none] at h
  exact fun serves => h q (mem_roundFrom _ q) ((s.canGrant_refill q).2 serves)

/-! ## The granted request (R60) -/

/-- The state with the head `r` of a port's queue granted. -/
def State.portGranted (s : State) (p : Port) (r : Request) (rest : List Request) : State :=
  { s with
    engine := { s.engine with inFlight := some (.port p) }.begin r.kind (s.profile r.profile)
    ports := s.ports.set p { s.ports.get p with
      queue := { r with state := .inFlight } :: rest, reservations := (s.ports.get p).reservations + r.reserves } }

theorem State.grant_port {s : State} {p : Port} {r : Request} {rest : List Request} (queue : (s.port p).queue = r :: rest)
    (source : r.source = .port p) : s.grant (.port p) = s.portGranted p r rest := by
  have flies : (s.modEngine fun e => { e with inFlight := some (.port p) }).flight = some r := by
    change (s.port p).queue.head? = _
    rw [queue]
    rfl
  rw [s.grant_some _ r flies]
  unfold State.portGranted
  cases p <;> simp only [State.port, PerPort.get] at queue <;>
    simp [State.modSource, source, State.modFlight, State.modEngine, State.modPort, State.beginOperation, State.profile,
      PerPort.set, PerPort.get, modHead, queue]

/-- The state with the monitor entries of the profile of `r` granted, of which there is one. -/
def State.monitorGranted (s : State) (r : Request) : State :=
  { s with
    engine := { s.engine with inFlight := some (.monitor r.profile) }.begin r.kind (s.profile r.profile)
    monitor := { s.monitor with queue := s.monitor.queue.map fun x =>
      if x.profile = r.profile then { x with state := .inFlight } else x } }

theorem State.grant_monitor {s : State} {r : Request} (found : s.monitor.queue.find? (·.profile = r.profile) = some r)
    (source : r.source = .monitor) : s.grant (.monitor r.profile) = s.monitorGranted r := by
  rw [s.grant_some (.monitor r.profile) r found]
  simp only [State.modSource, source]
  rfl

theorem nodup_of_length_le_one {α : Type} {l : List α} (short : l.length ≤ 1) : l.Nodup := by
  match l, short with
  | [], _ => exact List.nodup_nil
  | [x], _ => exact List.nodup_singleton x

theorem MonitorQueue.nodup_profiles {s : State} (h : s.MonitorQueueLawful) : (s.monitor.queue.map (·.profile)).Nodup := by
  obtain ⟨samples, -, zeros, entries⟩ := h
  have split := List.filter_append_perm (fun r : Request => decide (r.kind = .zero)) s.monitor.queue
  rw [← (split.map _).nodup_iff, List.map_append, List.nodup_append]
  refine ⟨zeros, ?_, ?_⟩
  · have few : (s.monitor.queue.filter fun r => !decide (r.kind = .zero)).length ≤ 1 := by
      rw [← List.countP_eq_length_filter]
      refine le_trans (le_of_eq (List.countP_congr fun r _ => ?_)) samples
      cases r.kind <;> simp
    exact nodup_of_length_le_one (by rw [List.length_map]; exact few)
  · intro a zero b sample
    simp only [List.mem_map, List.mem_filter, decide_eq_true_eq, Bool.not_eq_true', decide_eq_false_iff_not] at zero sample
    obtain ⟨x, ⟨x_mem, x_zero⟩, rfl⟩ := zero
    obtain ⟨y, ⟨y_mem, y_sample⟩, rfl⟩ := sample
    obtain ⟨-, -, -, -, -, -, user⟩ := entries x x_mem
    obtain ⟨-, -, -, -, -, fixed, -⟩ := entries y y_mem
    have measure : y.kind = .measure := by cases kind : y.kind <;> simp_all
    rw [fixed measure]
    exact user x_zero

/-- The monitor queue's entry against a profile is the only one. -/
theorem State.find_monitor {s : State} (h : s.MonitorQueueLawful) {r : Request} (mem : r ∈ s.monitor.queue) :
    s.monitor.queue.find? (·.profile = r.profile) = some r := by
  have nodup := MonitorQueue.nodup_profiles h
  cases found : s.monitor.queue.find? (·.profile = r.profile) with
  | none =>
    rw [List.find?_eq_none] at found
    exact absurd (decide_eq_true rfl) (found r mem)
  | some x =>
    have same : x.profile = r.profile := by simpa using List.find?_some found
    rw [List.inj_on_of_nodup_map nodup (List.mem_of_find?_eq_some found) mem same]

theorem State.monitorCandidate_spec {s : State} {r : Request} (h : s.monitorCandidate = some r) :
    r ∈ s.monitor.queue ∧ s.monitorEligible r = true := by
  have mem := List.mem_of_find?_eq_some h
  refine ⟨?_, List.find?_some h⟩
  simp only [Monitor.inOrder, List.mem_append, List.mem_filter] at mem
  rcases mem with mem | mem <;> exact mem.1

theorem State.monitorCandidate_none {s : State} (h : s.monitorCandidate = none) {r : Request} (mem : r ∈ s.monitor.queue) :
    s.monitorEligible r = false := by
  unfold State.monitorCandidate at h
  rw [List.find?_eq_none] at h
  rw [← Bool.not_eq_true]
  refine h r ?_
  simp only [Monitor.inOrder, List.mem_append, List.mem_filter, decide_eq_true_eq]
  cases kind : r.kind <;> simp [mem]

/-- A kind-1 grant point has something to grant (R52, R53). -/
def State.IdleEnds (s : State) : Prop :=
  s.engine.state = .running ∧ s.engine.inFlight = none ∧
    (s.monitorCandidate.isSome = true ∨ ∃ q, s.headEligible q = true)

theorem State.idleEnds_iff (s : State) : (s.isIdle && s.anyEligible) = true ↔ s.IdleEnds := by
  unfold State.isIdle State.isRunning State.anyEligible State.IdleEnds
  rw [← State.anyHead_iff]
  simp only [Bool.and_eq_true, Bool.or_eq_true, decide_eq_true_eq, Option.isNone_iff_eq_none, and_assoc]

theorem State.kick_of_idleEnds {s : State} (h : s.IdleEnds) : s.kick = s.grantPoint false := by
  unfold State.kick
  rw [if_pos (s.idleEnds_iff.2 h)]

theorem State.kick_of_stands {s : State} (h : ¬ s.IdleEnds) : s.kick = s := by
  unfold State.kick
  rw [if_neg (mt s.idleEnds_iff.1 h)]

/-! ## The outcomes of a grant point (R52 to R60) -/

theorem State.grantPoint_monitor {s : State} {r : Request} (candidate : s.monitorCandidate = some r) (boundary : Bool) :
    s.grantPoint boundary = s.grant (.monitor r.profile) := by
  simp only [State.grantPoint, candidate]

theorem State.grantPoint_idle {s : State} (noMonitor : s.monitorCandidate = none) (noHead : ∀ q, s.headEligible q = false)
    (boundary : Bool) : s.grantPoint boundary = s.goIdle := by
  have none : allPorts.any s.headEligible = false := by
    rw [List.any_eq_false]
    exact fun q _ => by simp [noHead q]
  simp only [State.grantPoint, noMonitor, none, Bool.false_eq_true, if_false]

/-- The arbiter after a grant to `p`, by affinity or by turn. -/
def Arbiter.granting (a : Arbiter) (p : Port) (affine : Bool) : Arbiter :=
  if affine then { a with streak := a.streak + 1 } else { a with streak := 0, pointer := p.next }

/-- The state after a grant point that grants the head `r` of port `p`. -/
def State.portPoint (s : State) (p : Port) (affine : Bool) (r : Request) (rest : List Request) : State :=
  (s.refill.modArbiter (·.granting p affine)).portGranted p r rest

theorem State.portPoint_engine (s : State) (p : Port) (affine : Bool) (r : Request) (rest : List Request) :
    (s.portPoint p affine r rest).engine =
      { s.engine with inFlight := some (.port p) }.begin r.kind (s.profile r.profile) := by
  have refilled := s.refill_rest.1
  unfold State.portPoint State.portGranted State.modArbiter State.profile
  rw [refilled]

theorem State.portPoint_self (s : State) (p : Port) (affine : Bool) (r : Request) (rest : List Request) :
    (s.portPoint p affine r rest).port p = { s.port p with
      credit := (s.refill.port p).credit, queue := { r with state := .inFlight } :: rest
      reservations := (s.port p).reservations + if r.run = .contiguous then r.count - r.delivered else 0 } := by
  have reserves : r.reserves = if r.run = .contiguous then r.count - r.delivered else 0 := by
    cases run : r.run <;> simp [Request.reserves, Request.owed, run]
  have refilled := s.refill_rest.2 p
  unfold State.portPoint State.portGranted
  rw [← reserves]
  unfold State.port at refilled ⊢
  rw [PerPort.get_set, if_pos rfl, State.modArbiter_ports, refilled]

theorem State.portPoint_other (s : State) {p q : Port} (affine : Bool) (r : Request) (rest : List Request) (other : q ≠ p) :
    (s.portPoint p affine r rest).port q = { s.port q with credit := (s.refill.port q).credit } := by
  rw [← s.refill_rest.2 q]
  unfold State.portPoint State.portGranted State.port
  rw [PerPort.get_set, if_neg other]
  rfl

theorem State.portPoint_rest (s : State) (p : Port) (affine : Bool) (r : Request) (rest : List Request) :
    s.portPoint p affine r rest = { s with
      engine := (s.portPoint p affine r rest).engine, ports := (s.portPoint p affine r rest).ports
      arbiter := (s.portPoint p affine r rest).arbiter } := by
  have refilled := s.refill_rest.1
  unfold State.portPoint State.portGranted State.modArbiter
  rw [refilled]

/-- The choice of port `p` in round-robin order, by affinity or by turn (R58, R59). -/
structure State.Chooses (s : State) (boundary : Bool) (p : Port) (affine : Bool) : Prop where
  serves : s.Serves p
  allowed : affine = true ↔ s.Affine boundary
  order : ∃ before after, roundFrom s.arbiter.pointer = before ++ p :: after ∧
    (affine = true → s.headMatches p = true ∧ ∀ q ∈ before, ¬ (s.Serves q ∧ s.headMatches q = true)) ∧
    (affine = false → ∀ q ∈ before, ¬ s.Serves q)

/-- A grant point with no monitor candidate and an eligible head grants a port, once the weights let a refill serve one. -/
theorem State.grantPoint_port {s : State} (noMonitor : s.monitorCandidate = none) (waits : ∃ q, s.headEligible q = true)
    (sources : ∀ q, ∀ r ∈ (s.port q).queue, r.source = .port q) (boundary : Bool) :
    (∃ p affine r rest, s.Chooses boundary p affine ∧ (s.port p).queue = r :: rest ∧
      s.grantPoint boundary = s.portPoint p affine r rest) ∨
    (∀ q, ¬ s.Serves q) ∧ s.grantPoint boundary = s.refill.goIdle := by
  have granted : ∀ (p : Port) (affine : Bool), s.Serves p → ∃ r rest, (s.port p).queue = r :: rest ∧
      (s.refill.modArbiter (·.granting p affine)).grant (.port p) = s.portPoint p affine r rest := by
    intro p affine serves
    obtain ⟨r, rest, queue, -, -⟩ := State.headEligible_spec serves.1
    refine ⟨r, rest, queue, State.grant_port ?_ (sources p r (by rw [queue]; exact List.mem_cons_self))⟩
    rw [State.modArbiter_port, s.refill_rest.2 p]
    exact queue
  rcases s.grantPoint_cases boundary with ⟨r, some, -⟩ | ⟨-, ⟨none, -⟩ | ⟨-, ⟨p, choice, e⟩ | ⟨skip, ⟨p, choice, e⟩ | ⟨none, e⟩⟩⟩⟩
  · rw [noMonitor] at some; cases some
  · rw [s.anyHead_iff.2 waits] at none; cases none
  · obtain ⟨affine, serves, matched, before, after, order, earlier⟩ := State.affinityChoice_some choice
    obtain ⟨r, rest, queue, state⟩ := granted p true serves
    exact .inl ⟨p, true, r, rest, ⟨serves, iff_of_true rfl affine, before, after, order, fun _ => ⟨matched, earlier⟩, nofun⟩,
      queue, e.trans state⟩
  · obtain ⟨serves, before, after, order, earlier⟩ := State.turnChoice_some choice
    obtain ⟨r, rest, queue, state⟩ := granted p false serves
    exact .inl ⟨p, false, r, rest, ⟨serves, iff_of_false nofun (State.affinityChoice_none skip), before, after, order, nofun,
      fun _ => earlier⟩, queue, e.trans state⟩
  · exact .inr ⟨State.turnChoice_none none, e⟩

end Sys2Proof.Machine
end

section
/-! PROOF. Candidates, refills and grant points. -/

namespace Sys2Proof.Proofs
open Sys2Proof Sys2Proof.Machine

/-- Settles O43: the conditions of R51 and R57 one by one, and the beginning of an operation by what stands loaded. -/
theorem candidatesMatchAndLoad : Obligations.CandidatesMatchAndLoad := by
  refine ⟨fun s p r rest => ⟨State.headEligible_nil, fun queue => ?_, ?_⟩, State.headMatches_iff, fun e kind profile => ?_⟩
  · rw [State.headEligible_cons queue, State.eligible_iff, State.needReady_iff]
    cases run : r.run <;> simp only [Request.places, run, PortState.freePlaces, ringCapacity, Request.owed]
  · rw [State.monitorEligible_iff, State.needReady_iff]
  · have need : firstSetup kind profile = {
        setup := profile.setup, shorted := decide (kind = .zero),
        phase := if kind = .measure ∧ profile.method = .chop then .plus else .none } := by
      cases kind <;> cases h : profile.method <;> simp [firstSetup, h]
    have steps : (firstStep kind profile.method, (firstStep kind profile.method).settled) =
        if kind = .zero then (.zeroSettling, .zeroAveraging)
        else if profile.method = .chop then (.chopPlusSettling, .chopPlusOutput) else (.settling, .output) := by
      cases kind <;> cases h : profile.method <;> rfl
    dsimp only
    rw [← need, ← steps]
    exact ⟨Engine.begin_loaded, Engine.begin_other⟩

/-- Settles O45: no refill where a port is served; else the least number of refills over the eligible ports. -/
theorem refillsAreTheSmallestThatServe : Obligations.RefillsAreTheSmallestThatServe := by
  refine fun s weights waits => ⟨State.refill_of_credit, fun overdrawn => ?_⟩
  obtain ⟨⟨q, eligible, least⟩, fewest⟩ := State.refillCount_spec waits
  have served := fun p (h : s.headEligible p = true) => (s.port p).served_iff (weights p) (overdrawn p h)
  refine ⟨s.refillCount, ?_, ⟨q, eligible, (served q eligible _).2 least.le⟩, fun j fewer p h => ?_, ?_⟩
  · rw [← least]
    exact Nat.succ_pos _
  · by_contra above
    exact absurd ((served p h j).1 (not_le.1 above)) (not_le.2 (lt_of_lt_of_le fewer (fewest p h)))
  · rw [State.refill_of_overdrawn overdrawn]
    exact congrArg s.mapPorts (funext fun ps => ps.refill_eq _)

/-- Settles O44: the outcomes of a grant point with the explicit state of each, and the round-robin order in which affinity
and turn look for their port. -/
theorem grantPointsFollowTheChoice : Obligations.GrantPointsFollowTheChoice := by
  intro s boundary lawful ports
  have weights : ∀ q, 1 ≤ (s.port q).weight := fun q => (ports q).1
  refine ⟨fun r candidate => ?_, fun noMonitor noHead => ?_, fun noMonitor waits => ?_, State.kick_of_idleEnds, State.kick_of_stands⟩
  · have point : s.grantPoint boundary = s.grant (.monitor r.profile) := s.grantPoint_monitor candidate boundary
    obtain ⟨mem, -⟩ := State.monitorCandidate_spec candidate
    rw [point]
    exact State.grant_monitor (State.find_monitor lawful mem) (lawful.2.2.2 r mem).1
  · exact State.grantPoint_idle noMonitor noHead boundary
  · have served := State.refill_serves weights waits
    rcases State.grantPoint_port noMonitor waits (fun q => (ports q).2) boundary with
      ⟨p, affine, r, rest, chosen, queue, point⟩ | ⟨none, -⟩
    · obtain ⟨before, after, order, byAffinity, byTurn⟩ := chosen.order
      have arbiter : (s.portPoint p affine r rest).arbiter = s.arbiter.granting p affine := by
        rw [← s.arbiter_refill]; rfl
      rw [point]
      refine ⟨p, before, after, r, rest, order, chosen.serves, queue, s.portPoint_engine p affine r rest,
        s.portPoint_self p affine r rest, fun q other => s.portPoint_other affine r rest other,
        s.portPoint_rest p affine r rest, fun h => ?_, fun h => ?_⟩
      · obtain rfl := chosen.allowed.2 h
        exact ⟨(byAffinity rfl).1, (byAffinity rfl).2, arbiter⟩
      · obtain rfl : affine = false := by rw [← Bool.not_eq_true]; exact mt chosen.allowed.1 h
        exact ⟨byTurn rfl, arbiter⟩
    · obtain ⟨q, serves⟩ := served
      exact absurd serves (none q)

end Sys2Proof.Proofs
end

section
/-! SUPPORT. Every act as a chain of steps that move the queues, the request in flight, the ring places and the credits:
what the laws of R49, R60, R63 and R64 rest on. -/

namespace Sys2Proof.Machine

/-- Nothing that the converter's work rests on moves, but for records that leave a ring and steps that are no ZERO's. -/
structure State.WorkStands (s t : State) : Prop where
  queue : ∀ q, (t.port q).queue = (s.port q).queue
  monitor : t.monitor.queue = s.monitor.queue
  flight : t.engine.inFlight = s.engine.inFlight
  step : ∀ step, t.engine.step = some step → step.ofZero = true → ∃ before, s.engine.step = some before ∧ before.ofZero = true
  ring : ∀ q, (t.port q).ring.length ≤ (s.port q).ring.length
  reservations : ∀ q, (t.port q).reservations = (s.port q).reservations
  credit : ∀ q, (t.port q).credit = (s.port q).credit ∧ (t.port q).weight = (s.port q).weight
  fixed : (t.profile 0).autoRecal = (s.profile 0).autoRecal

/-- One step of the converter's work. -/
inductive WorkStep (s : State) : State → Prop
  | stands {t : State} : s.WorkStands t → WorkStep s t
  | terminates (reason : Reason) (ends : Request → Bool) : WorkStep s (s.terminate reason ends)
  | marks (n : Fin 32) : WorkStep s (s.markFinal n)
  | resets (p : Port) : WorkStep s ((s.terminate .portReset (Request.isFrom p)).modPort p (·.cleared))
  | weighs (q : Port) (w : Nat) : 1 ≤ w → w ≤ 8 → WorkStep s (s.modPort q (·.withWeight w))
  | enqueues (p : Port) (tag : Byte) (w : Submission) : w.allowed = true → WorkStep s (s.enqueue p (newRequest p tag w))
  | samples : s.monitor.queue.any (·.kind = .measure) = false → WorkStep s (s.place 0 .measure)
  | zeros (n : Fin 32) : (s.profile n).autoRecal = true → s.acceptsZero n = true → WorkStep s (s.place n .zero)
  | grants (boundary : Bool) : s.engine.inFlight = none → WorkStep s (s.grantPoint boundary)
  | downs : WorkStep s s.enterDown
  | delivers (r : Request) (formed : Formed) : s.flight = some r → WorkStep s (s.deliver r formed)
  | completes (r : Request) (value : Int) (overload : Bool) : s.flight = some r → s.engine.step = some .zeroAveraging →
      WorkStep s (s.completeZero r value overload)
  | sampled : (∀ p, s.engine.inFlight = some (.port p) → ∃ r ∈ (s.port p).queue, r.source = .monitor) →
      WorkStep s s.finish

/-- From `s` to `t` by steps of the converter's work. -/
def State.Works (s t : State) : Prop := Relation.ReflTransGen WorkStep s t

namespace State.WorkStands

variable {s t u : State}

theorem refl (s : State) : s.WorkStands s :=
  ⟨fun _ => rfl, rfl, rfl, fun step now zero => ⟨step, now, zero⟩, fun _ => le_rfl, fun _ => rfl, fun _ => ⟨rfl, rfl⟩, rfl⟩

theorem of_core (port : ∀ q, (t.port q).queue = (s.port q).queue ∧ (t.port q).ring.length ≤ (s.port q).ring.length ∧
      (t.port q).reservations = (s.port q).reservations ∧ (t.port q).credit = (s.port q).credit ∧
      (t.port q).weight = (s.port q).weight)
    (monitor : t.monitor.queue = s.monitor.queue) (flight : t.engine.inFlight = s.engine.inFlight)
    (step : t.engine.step = s.engine.step) (fixed : (t.profile 0).autoRecal = (s.profile 0).autoRecal) : s.WorkStands t where
  queue q := (port q).1
  monitor := monitor
  flight := flight
  step now same zero := ⟨now, step ▸ same, zero⟩
  ring q := (port q).2.1
  reservations q := (port q).2.2.1
  credit q := (port q).2.2.2
  fixed := fixed

theorem of_port (port : ∀ q, t.port q = s.port q) (monitor : t.monitor.queue = s.monitor.queue)
    (engine : t.engine = s.engine) (fixed : (t.profile 0).autoRecal = (s.profile 0).autoRecal) : s.WorkStands t :=
  of_core (fun q => by rw [port q]; exact ⟨rfl, le_rfl, rfl, rfl, rfl⟩) monitor (by rw [engine]) (by rw [engine]) fixed

theorem of_noticesOnly (h : s.NoticesOnly t) : s.WorkStands t :=
  of_core (fun q => by rw [h.ports q]; exact ⟨rfl, le_rfl, rfl, rfl, rfl⟩) (by rw [h.monitor]) (by rw [h.engine])
    (by rw [h.engine]) (by rw [h.profile])

theorem modPort (s : State) (p : Port) {f : PortState → PortState} (same : ∀ ps, (f ps).queue = ps.queue ∧
    (f ps).ring.length ≤ ps.ring.length ∧ (f ps).reservations = ps.reservations ∧ (f ps).credit = ps.credit ∧
    (f ps).weight = ps.weight) : s.WorkStands (s.modPort p f) := by
  refine of_core (fun q => ?_) rfl rfl rfl rfl
  rw [State.port_modPort]
  split
  next e => subst e; exact same _
  · exact ⟨rfl, le_rfl, rfl, rfl, rfl⟩

theorem modProfile (s : State) (n : Fin 32) {f : Profile → Profile}
    (fixed : n ≠ 0 ∨ (f (s.profile n)).autoRecal = (s.profile n).autoRecal) : s.WorkStands (s.modProfile n f) := by
  refine of_port (fun _ => rfl) rfl rfl ?_
  rw [State.profile_modProfile]
  split
  next e => subst e; exact fixed.resolve_left fun h => h rfl
  · rfl

theorem modOutput (s : State) (o : OutputId) (f : OutputState → OutputState) : s.WorkStands (s.modOutput o f) :=
  of_port (fun _ => rfl) rfl rfl rfl

theorem modMonitor (s : State) {f : Monitor → Monitor} (queue : (f s.monitor).queue = s.monitor.queue) :
    s.WorkStands (s.modMonitor f) := of_port (fun _ => rfl) queue rfl rfl

theorem handOverDemand (s : State) (f : OutputState → OutputState) : s.WorkStands (s.handOverDemand f) :=
  of_port (fun _ => rfl) rfl rfl rfl

/-- An engine change that leaves the flight, and takes up no step of a ZERO. -/
theorem modEngine (s : State) {f : Engine → Engine} (flight : (f s.engine).inFlight = s.engine.inFlight)
    (step : ∀ step, (f s.engine).step = some step → step.ofZero = true →
      ∃ before, s.engine.step = some before ∧ before.ofZero = true) : s.WorkStands (s.modEngine f) :=
  ⟨fun _ => rfl, rfl, flight, step, fun _ => le_rfl, fun _ => rfl, fun _ => ⟨rfl, rfl⟩, rfl⟩

end State.WorkStands

namespace State.Works

variable {s t u : State}

theorem refl (s : State) : s.Works s := Relation.ReflTransGen.refl
theorem trans (h : s.Works t) (k : t.Works u) : s.Works u := Relation.ReflTransGen.trans h k
theorem of_step (h : WorkStep s t) : s.Works t := Relation.ReflTransGen.single h
theorem of_stands (h : s.WorkStands t) : s.Works t := .of_step (.stands h)
theorem of_noticesOnly (h : s.NoticesOnly t) : s.Works t := .of_stands (.of_noticesOnly h)

/-- What every step keeps holds after the chain. -/
theorem keeps {P : State → Prop} (each : ∀ x y, WorkStep x y → P x → P y) (h : s.Works t) (law : P s) : P t := by
  refine Relation.ReflTransGen.head_induction_on (motive := fun x _ => P x → P t) h id ?_ law
  exact fun step _ ih hx => ih (each _ _ step hx)

theorem kick (s : State) : s.Works s.kick := by
  rcases s.kick_cases with ⟨-, e⟩ | ⟨idle, e⟩ <;> rw [e]
  · exact .refl s
  · exact .of_step (.grants false (s.idleEnds_iff.1 idle).2.1)

theorem freed (s : State) (boundary : Bool) (free : s.engine.inFlight = none) : s.Works (s.freed boundary) := by
  rcases s.freed_cases boundary with ⟨-, e⟩ | ⟨-, e⟩ | ⟨-, e⟩ <;> rw [e]
  · exact .of_step (.grants boundary free)
  · exact .of_step .downs
  · exact .refl s

theorem afterTerminations (s : State) (abandoned : Bool) (free : abandoned = true → s.engine.inFlight = none) :
    s.Works (s.afterTerminations abandoned) := by
  unfold State.afterTerminations
  split
  next h => exact freed s false (free h)
  · exact kick s

theorem placeSample (s : State) : s.Works s.placeSample := by
  unfold State.placeSample
  split
  · exact .refl s
  next none => exact (of_step (.samples (by simpa using none))).trans (.of_stands (.handOverDemand _ id))

theorem ageProfile (s : State) (n : Fin 32) : s.Works (s.ageProfile n) := by
  unfold State.ageProfile
  split
  · exact .refl s
  next record _ =>
    have aged : s.Works (s.modProfile n fun profile => { profile with record := some (record.aged s.monitor) }) :=
      .of_stands (.modProfile s n (.inr rfl))
    have offered : ∀ u : State, u.Works (u.offerZero n) := by
      intro u
      unfold State.offerZero
      split
      next offers => exact .of_step (.zeros n offers.2.1 offers.2.2)
      · exact .refl u
    have judged := aged.trans (u := match record.newlyStale s.monitor with
      | some criterion =>
        (s.modProfile n fun profile => { profile with record := some (record.aged s.monitor) }).postOwner
          (s.profile n).owner (.offsetStale n criterion)
      | none => s.modProfile n fun profile => { profile with record := some (record.aged s.monitor) }) (by
        split
        · exact .of_noticesOnly (State.noticesOnly_postOwner _ _ _)
        · exact .refl _)
    dsimp only
    split
    · exact judged.trans (offered _)
    · exact judged

theorem ageingPass (s : State) : s.Works s.ageingPass := by
  unfold State.ageingPass
  generalize profileNumbers = l
  induction l generalizing s with
  | nil => exact .refl s
  | cons n rest ih => exact (ageProfile s n).trans (ih _)

theorem completeSample {s : State} {r : Request} (flies : s.flight = some r) (source : r.source = .monitor) (value : Int) :
    s.Works (s.completeSample value) := by
  let sampled := s.modMonitor fun m => { m with temperature := value, valid := true }
  have passed : s.Works sampled.ageingPass := (of_stands (.modMonitor s rfl)).trans (ageingPass sampled)
  refine passed.trans (.of_step (.sampled fun p flight => ⟨r, ?_, source⟩))
  rw [State.ageingPass_engine] at flight
  rw [sampled.ageingPass_port (·.queue) (fun _ _ _ _ => rfl) p]
  have head : (s.port p).queue.head? = some r := by
    change s.engine.inFlight = _ at flight
    simpa [State.flight, flight] using flies
  exact List.mem_of_mem_head? head

theorem useOutput (s : State) (r : Request) (step : OpStep) (l : LoadedSetup) (raw : Int) (overload : Bool)
    (flies : s.flight = some r) (now : s.engine.step = some step) : s.Works (s.useOutput r step l raw overload) := by
  cases step with
  | settling | chopPlusSettling | chopMinusSettling | zeroSettling =>
    refine .of_stands (.modEngine s (f := (·.advance l _)) rfl fun next taken zero => ⟨_, now, ?_⟩)
    simp only [Engine.advance, Option.some.injEq] at taken
    subst taken
    split at zero <;> exact zero
  | chopPlusOutput =>
    refine .of_stands (.modEngine s (f := (·.swapPhase l raw overload)) rfl fun next taken zero => ?_)
    simp only [Engine.swapPhase, Engine.settleBreak, Option.some.injEq] at taken
    subst taken
    cases zero
  | output =>
    cases source : r.source with
    | monitor =>
      simp only [State.useOutput, State.useResult, source]
      exact completeSample flies source _
    | port p =>
      simp only [State.useOutput, State.useResult, source]
      exact .of_step (.delivers r _ flies)
  | chopMinusOutput =>
    simp only [State.useOutput, State.chopOutput]
    split
    · exact .of_step (.delivers r _ flies)
    · exact .refl s
  | zeroAveraging =>
    simp only [State.useOutput, State.averageOutput]
    split
    · exact .of_stands (.modEngine s rfl fun step now zero => ⟨step, now, zero⟩)
    · exact .of_step (.completes r _ _ flies now)

theorem afterPeriod (s : State) : s.Works s.afterPeriod := by
  unfold State.afterPeriod
  split
  · exact .of_step .downs
  · split
    next free => exact freed s true (by simpa using free)
    · exact .refl s

theorem endPeriod (s : State) (raw : Int) (overload : Bool) : s.Works (s.endPeriod raw overload) := by
  unfold State.endPeriod
  split
  next r step l flight now _ =>
    have counted : s.Works (s.modEngine (·.countPeriod l overload)) :=
      .of_stands (.modEngine s (f := (·.countPeriod l overload)) rfl fun step now zero => ⟨step, now, zero⟩)
    exact (counted.trans (useOutput _ r step l raw _ flight now)).trans (afterPeriod _)
  · exact .refl s

theorem disown (s : State) (owner : Option Source) : s.Works (s.disown owner) := by
  unfold State.disown
  split
  · exact .of_stands (.modPort s _ fun _ => ⟨rfl, le_rfl, rfl, rfl, rfl⟩)
  · exact .refl s

/-- The supervisor and the offer are no work. -/
theorem party (s : State) (supervisor : Port) (offer : Option Offer) (offerTimer : Timer) :
    s.Works { s with supervisor, offer, offerTimer } :=
  of_stands (.of_port (s := s) (t := { s with supervisor, offer, offerTimer }) (fun _ => rfl) rfl rfl rfl)

theorem withdrawFor (s : State) (p : Port) : s.Works (s.withdrawFor p) := by
  unfold State.withdrawFor
  split
  · exact .refl s
  · split
    · exact .refl s
    · exact (party s s.supervisor none .stopped).trans (.of_noticesOnly (State.noticesOnly_post _ _ _))

theorem refreshDemand (s : State) : s.Works s.refreshDemand := .of_stands (.handOverDemand s id)

end State.Works

theorem allowed_of_fields {f : SubmitFields} {w : Submission} (h : submissionOfFields f = some w) : w.allowed = true := by
  unfold submissionOfFields at h
  split at h
  · dsimp only at h
    split at h
    next allowed =>
      obtain rfl := Option.some.inj h
      exact allowed
    · cases h
  · cases h

theorem Acts.works {s t : State} {i : Instr} (act : Acts s i t) : s.Works t := by
  cases act with
  | idle => exact .refl s
  | portReset p =>
    have ended : s.Works (s.resetEnded p) :=
      ((State.Works.of_step (.resets p)).trans (.withdrawFor _ p)).trans (.of_stands (.handOverDemand _ _))
    rw [s.resetPort_eq]
    refine State.Works.trans (t := s.resetFreed p) ?_
      (.of_stands (.modPort _ p (f := (·.judgeAlert)) fun _ => ⟨rfl, le_rfl, rfl, rfl, rfl⟩))
    unfold State.resetFreed
    split
    next flight =>
      exact ended.trans (.freed _ false (by rw [s.engine_resetEnded]; exact State.free_terminate _ flight))
    · exact ended
  | alertConfig p | readNotices p | setQuota p q | setAllowance p q =>
    exact .of_stands (.modPort s _ fun _ => ⟨rfl, le_rfl, rfl, rfl, rfl⟩)
  | claim p b n user =>
    exact (State.Works.of_stands (.modProfile s n (f := fun _ => .claimedBy p) (.inl user))).trans
      (.of_stands (.modPort _ p (f := fun ps => { ps with owned := ps.owned + 1 }) fun _ => ⟨rfl, le_rfl, rfl, rfl, rfl⟩))
  | write p f n w user | share p set b n user | retireNow p n user => exact .of_stands (.modProfile s _ (.inl user))
  | retireBusy p n user =>
    rw [s.retireBusy_eq]
    have marked : s.Works (s.retireMarked n) :=
      (State.Works.of_stands (.modProfile s n (f := fun profile => { profile with state := .retiring }) (.inl user))).trans
        (.of_step (.marks n))
    exact ((marked.trans (.of_step (.terminates .retired (Request.endsAtRetire n)))).trans (.refreshDemand _)).trans (.kick _)
  | release p n user =>
    exact (State.Works.of_stands (.modProfile s n (f := fun _ => .default) (.inl user))).trans (.disown _ _)
  | submit p f w fields =>
    rw [s.submit_eq]
    exact ((State.Works.of_step (.enqueues p f.tag w (allowed_of_fields fields))).trans (.refreshDemand _)).trans (.kick _)
  | cancel p tag =>
    rw [s.cancel_eq]
    refine ((State.Works.of_step (.terminates .cancelled (Request.isTagged p tag))).trans (.refreshDemand _)).trans
      (.afterTerminations (s.cancelEnded p tag) _ fun flight => ?_)
    rw [s.engine_cancelEnded]
    exact State.free_terminate _ flight
  | fetch p b n =>
    refine (State.Works.of_stands (.modPort s p (f := (·.fetched n)) fun ps => ?_)).trans (.kick _)
    have shorter : (ps.ring.drop n).length ≤ ps.ring.length := by rw [List.length_drop]; omega
    unfold PortState.fetched PortState.rearm
    split <;> exact ⟨rfl, shorter, rfl, rfl, rfl⟩
  | exciteVote | setCombine | setExciteTiming | clearLockout | linger | holdOff | dwell =>
    exact .of_stands (.modOutput s _ _)
  | engineStart =>
    rw [s.startEngine_eq]
    have leaving : s.Works s.leavingDown :=
      (State.Works.of_stands (.modEngine s (f := fun e => { e with state := .starting, startTimer := .running startTime }) rfl
        fun step now zero => ⟨step, now, zero⟩)).trans (.of_noticesOnly (State.noticesOnly_postAll _ _))
    exact leaving.trans (.of_stands (.of_port (fun _ => rfl) rfl rfl rfl))
  | haltNow => exact .of_step .downs
  | haltLater =>
    exact (State.Works.of_stands (.modEngine s (f := fun e => { e with state := .halting }) rfl
      fun step now zero => ⟨step, now, zero⟩)).trans (.of_noticesOnly (State.noticesOnly_postAll _ (.engine .halting)))
  | setWeight p q x low high => exact .of_step (.weighs q _ low high)
  | setAffinity => exact .of_stands (.of_port (fun _ => rfl) rfl rfl rfl)
  | setCalPolicy => exact .of_stands (.modMonitor s rfl)
  | forceRelease p n user =>
    rw [s.forceRelease_eq]
    have ended : s.Works ((s.erase n).terminate .revoked (Request.names n)) :=
      (State.Works.of_stands (t := s.erase n) (.modProfile s n (.inl user))).trans (.of_step (.terminates _ _))
    refine (((ended.trans (.disown _ _)).trans (.of_noticesOnly (State.noticesOnly_postOwner _ _ _))).trans
      (.refreshDemand _)).trans (.afterTerminations (s.forceEnded n) _ fun flight => ?_)
    rw [s.engine_forceEnded]
    exact State.free_terminate (s := s.erase n) _ flight
  | makeOffer p q =>
    have withdrawn : s.NoticesOnly (s.withdrawOther p q) := by
      unfold State.withdrawOther
      split
      · exact .refl s
      · split
        · exact s.noticesOnly_post _ _
        · exact .refl s
    exact (State.Works.of_noticesOnly (withdrawn.trans (State.noticesOnly_post _ q (.offer p)))).trans
      (.of_stands (.of_port (fun _ => rfl) rfl rfl rfl))
  | handOver p =>
    exact (State.Works.party s p none .stopped).trans (.of_noticesOnly (State.noticesOnly_postAll _ (.supervisor p)))
  | enterRunning =>
    rw [s.enterRunning_eq]
    have running : s.Works s.enteringRunning :=
      (State.Works.of_stands (.modEngine s (f := fun e => { e with state := .running, startTimer := .stopped }.settleBreak) rfl
        fun step now zero => ⟨step, now, zero⟩)).trans (.of_noticesOnly (State.noticesOnly_postAll _ _))
    exact ((running.trans (.of_stands (t := s.enteringRunning.restartInterval) (.modMonitor _ rfl))).trans
      (.placeSample _)).trans (.kick _)
  | interval =>
    exact ((State.Works.of_stands (t := s.restartInterval) (.modMonitor s rfl)).trans (.placeSample _)).trans (.kick _)
  | periodEnd raw overload => exact .endPeriod s raw overload
  | warmUp o =>
    exact ((State.Works.of_stands (.modOutput s o (·.becomeReady))).trans
      (.of_noticesOnly (State.noticesOnly_postAll _ _))).trans (.kick _)
  | trip o =>
    rw [s.trip_eq]
    refine ((((State.Works.of_stands (.modOutput s o (·.trip))).trans
      (.of_step (.terminates .excitationFault (s.needs o)))).trans (.refreshDemand _)).trans
        (.of_noticesOnly (State.noticesOnly_postTrip _ o))).trans (.afterTerminations (s.tripEnded o) _ fun flight => ?_)
    rw [s.engine_tripEnded]
    exact State.free_terminate (s := s.modOutput o (·.trip)) _ flight
  | offerLapse o =>
    exact (State.Works.party s s.supervisor none .stopped).trans (.of_noticesOnly (State.noticesOnly_post _ _ _))

theorem State.SameCore.workStands {s t : State} (h : s.SameCore t) : s.WorkStands t :=
  .of_core (fun q => by rw [h.ports q]; exact ⟨rfl, le_rfl, rfl, rfl, rfl⟩) (by rw [h.monitor]) (by rw [h.engine])
    (by rw [h.engine]) (by rw [h.profile])

end Sys2Proof.Machine
end

section
/-! SUPPORT. The one request in flight through every step of the converter's work (R60). -/

namespace Sys2Proof.Machine

/-! ## The request in flight -/

theorem State.flight_port {s : State} {p : Port} (flies : s.engine.inFlight = some (.port p)) :
    s.flight = (s.port p).queue.head? := by
  simp only [State.flight, flies]

theorem State.flight_monitor {s : State} {n : Fin 32} (flies : s.engine.inFlight = some (.monitor n)) :
    s.flight = s.monitor.queue.find? (·.profile = n) := by
  simp only [State.flight, flies]

theorem State.flight_free {s : State} (free : s.engine.inFlight = none) : s.flight = none := by
  simp only [State.flight, free]

theorem Request.queued_iff (r : Request) : r.state = .queued ↔ r.state ≠ .inFlight := by
  cases r.state <;> simp

/-- What `State.OneInFlight` reads of a request. -/
def Request.mark (r : Request) : RequestState × Fin 32 := (r.state, r.profile)

theorem State.oneInFlight_iff (s : State) : s.OneInFlight ↔
    (∀ p, ∀ m ∈ ((s.port p).queue.map Request.mark).tail, m.1 = .queued) ∧
    (∀ p m, ((s.port p).queue.map Request.mark).head? = some m → (m.1 = .inFlight ↔ s.engine.inFlight = some (.port p))) ∧
    (∀ m ∈ s.monitor.queue.map Request.mark, m.1 = .inFlight ↔ s.engine.inFlight = some (.monitor m.2)) ∧
    (∀ p, s.engine.inFlight = some (.port p) → (s.port p).queue.map Request.mark ≠ []) ∧
    (∀ n, s.engine.inFlight = some (.monitor n) → ∃ m ∈ s.monitor.queue.map Request.mark, m.2 = n) := by
  simp only [State.OneInFlight, ← List.map_tail, List.head?_map, Option.map_eq_some_iff, Request.mark,
    forall_exists_index, and_imp, forall_apply_eq_imp_iff₂, ne_eq, List.map_eq_nil_iff, List.mem_map,
    exists_exists_and_eq_and]

/-- The law rests on the marks of the queues and the flight alone. -/
theorem State.OneInFlight.of_marks {s t : State} (h : s.OneInFlight)
    (queue : ∀ q, (t.port q).queue.map Request.mark = (s.port q).queue.map Request.mark)
    (monitor : t.monitor.queue.map Request.mark = s.monitor.queue.map Request.mark)
    (flight : t.engine.inFlight = s.engine.inFlight) : t.OneInFlight := by
  rw [State.oneInFlight_iff] at h ⊢
  simpa only [queue, monitor, flight] using h

theorem State.oneInFlight_of_free {s : State} (free : s.engine.inFlight = none)
    (queue : ∀ q, ∀ r ∈ (s.port q).queue, r.state = .queued) (monitor : ∀ r ∈ s.monitor.queue, r.state = .queued) :
    s.OneInFlight := by
  refine ⟨fun q r mem => queue q r (List.mem_of_mem_tail mem), fun q r head => ?_, fun r mem => ?_, fun q flies => ?_,
    fun n flies => ?_⟩
  · simp [queue q r (List.mem_of_mem_head? head), free]
  · simp [monitor r mem, free]
  · rw [free] at flies; cases flies
  · rw [free] at flies; cases flies

theorem modHead_marks (f : Request → Request) (kept : ∀ r, (f r).mark = r.mark) (l : List Request) :
    (modHead f l).map Request.mark = l.map Request.mark := by
  cases l with
  | nil => rfl
  | cons r rest => simp [modHead, kept]

theorem map_where_marks (f : Request → Request) (kept : ∀ r, (f r).mark = r.mark) (n : Fin 32) (l : List Request) :
    (l.map fun r => if r.profile = n then f r else r).map Request.mark = l.map Request.mark := by
  rw [List.map_map]
  refine List.map_congr_left fun r _ => ?_
  simp only [Function.comp_apply]
  split
  · exact kept r
  · rfl

theorem State.engine_modFlight (s : State) (f : Request → Request) : (s.modFlight f).engine = s.engine := by
  unfold State.modFlight
  split <;> rfl

theorem State.OneInFlight.modFlight {s : State} (h : s.OneInFlight) {f : Request → Request}
    (kept : ∀ r, (f r).mark = r.mark) : (s.modFlight f).OneInFlight := by
  refine h.of_marks (fun q => ?_) ?_ (by rw [s.engine_modFlight])
  · unfold State.modFlight
    split
    · rfl
    next p _ =>
      rw [State.port_modPort]
      split
      next e => subst e; exact modHead_marks f kept _
      · rfl
    · rfl
  · unfold State.modFlight
    split
    · rfl
    · rfl
    next n _ => exact map_where_marks f kept n _

/-- The law of the flight, with what it rests on of the queues: their sources, and the monitor queue's entries. -/
structure State.FlightLawful (s : State) : Prop where
  one : s.OneInFlight
  monitorQueue : s.MonitorQueueLawful
  source : ∀ q, ∀ r ∈ (s.port q).queue, r.source = .port q
  fixed : (s.profile 0).autoRecal = false

namespace State.FlightLawful

variable {s t : State} (h : s.FlightLawful)
include h

/-- A request marked IN_FLIGHT is the one in flight. -/
theorem flight_of_state {r : Request} (mem : r ∈ s.live) (state : r.state = .inFlight) : s.flight = some r := by
  obtain ⟨tails, heads, entries, -, -⟩ := h.one
  have ofPort : ∀ q, r ∈ (s.port q).queue → s.flight = some r := by
    intro q mem
    cases queue : (s.port q).queue with
    | nil => rw [queue] at mem; cases mem
    | cons head rest =>
      rw [queue] at mem
      rcases List.mem_cons.1 mem with rfl | mem
      · have flies := (heads q r (by rw [queue]; rfl)).1 state
        rw [State.flight_port flies, queue]
        rfl
      · have queued := tails q r (by rw [queue]; exact mem)
        rw [queued] at state
        cases state
  simp only [State.live, List.mem_append] at mem
  rcases mem with ((mem | mem) | mem) | mem
  · exact ofPort .a mem
  · exact ofPort .b mem
  · exact ofPort .c mem
  · rw [State.flight_monitor ((entries r mem).1 state)]
    exact State.find_monitor h.monitorQueue mem

theorem state_of_flight {r : Request} (flies : s.flight = some r) : r.state = .inFlight := by
  obtain ⟨-, heads, entries, -, -⟩ := h.one
  cases inFlight : s.engine.inFlight with
  | none => rw [State.flight_free inFlight] at flies; cases flies
  | some f =>
    cases f with
    | port p =>
      rw [State.flight_port inFlight] at flies
      exact (heads p r flies).2 inFlight
    | monitor n =>
      rw [State.flight_monitor inFlight] at flies
      have same : r.profile = n := by simpa using List.find?_some flies
      exact (entries r (List.mem_of_find?_eq_some flies)).2 (by rw [inFlight, same])

/-- An engine with a flight has its request. -/
theorem exists_flight {f : Flight} (inFlight : s.engine.inFlight = some f) : ∃ r, s.flight = some r := by
  obtain ⟨-, -, -, ports, monitors⟩ := h.one
  cases f with
  | port p =>
    rw [State.flight_port inFlight]
    cases queue : (s.port p).queue with
    | nil => exact absurd queue (ports p inFlight)
    | cons r rest => exact ⟨r, rfl⟩
  | monitor n =>
    obtain ⟨r, mem, same⟩ := monitors n inFlight
    rw [State.flight_monitor inFlight, ← same]
    exact ⟨r, State.find_monitor h.monitorQueue mem⟩

theorem free_of_flight (none : s.flight = none) : s.engine.inFlight = .none := by
  cases inFlight : s.engine.inFlight with
  | none => rfl
  | some f =>
    obtain ⟨r, flies⟩ := h.exists_flight inFlight
    rw [none] at flies
    cases flies

/-- With nothing in flight every live request is QUEUED. -/
theorem queued_of_free (free : s.engine.inFlight = none) {r : Request} (mem : r ∈ s.live) : r.state = .queued := by
  rw [r.queued_iff]
  intro state
  have flies := h.flight_of_state mem state
  rw [State.flight_free free] at flies
  cases flies

/-- The port or the monitor whose request is in flight. -/
theorem flight_source {r : Request} (flies : s.flight = some r) :
    (∃ p rest, s.engine.inFlight = some (.port p) ∧ (s.port p).queue = r :: rest ∧ r.source = .port p) ∨
      s.engine.inFlight = some (.monitor r.profile) ∧ r ∈ s.monitor.queue ∧ r.source = .monitor ∧ r.run = .contiguous := by
  cases inFlight : s.engine.inFlight with
  | none => rw [State.flight_free inFlight] at flies; cases flies
  | some f =>
    cases f with
    | port p =>
      rw [State.flight_port inFlight] at flies
      cases queue : (s.port p).queue with
      | nil => rw [queue] at flies; cases flies
      | cons head rest =>
        rw [queue] at flies
        obtain rfl := Option.some.inj flies
        exact .inl ⟨p, rest, rfl, queue, h.source p head (by rw [queue]; exact List.mem_cons_self)⟩
    | monitor n =>
      rw [State.flight_monitor inFlight] at flies
      have same : r.profile = n := by simpa using List.find?_some flies
      have mem := List.mem_of_find?_eq_some flies
      obtain ⟨source, -, -, run, -⟩ := h.monitorQueue.2.2.2 r mem
      exact .inr ⟨by rw [same], mem, source, run⟩

end State.FlightLawful

theorem State.mem_live {s : State} {r : Request} : r ∈ s.live ↔ (∃ q, r ∈ (s.port q).queue) ∨ r ∈ s.monitor.queue := by
  simp only [State.live, List.mem_append]
  constructor
  · rintro (((mem | mem) | mem) | mem)
    · exact .inl ⟨.a, mem⟩
    · exact .inl ⟨.b, mem⟩
    · exact .inl ⟨.c, mem⟩
    · exact .inr mem
  · rintro (⟨q, mem⟩ | mem)
    · cases q
      · exact .inl (.inl (.inl mem))
      · exact .inl (.inl (.inr mem))
      · exact .inl (.inr mem)
    · exact .inr mem

/-! ## The operations on the flight -/

theorem mem_tail_filter {l : List Request} {f : Request → Bool} {r : Request} (mem : r ∈ (l.filter f).tail) : r ∈ l.tail := by
  cases l with
  | nil => exact mem
  | cons x rest =>
    rw [List.filter_cons] at mem
    split at mem
    · exact List.mem_of_mem_filter mem
    · exact List.mem_of_mem_filter (List.mem_of_mem_tail mem)

theorem State.OneInFlight.terminate {s : State} (h : s.FlightLawful) (reason : Reason) (ends : Request → Bool) :
    (s.terminate reason ends).OneInFlight := by
  have queue := s.terminate_queue reason ends
  have monitor := congrArg Monitor.queue (s.terminate_monitor reason ends)
  have engine := s.terminate_engine reason ends
  obtain ⟨tails, heads, entries, ports, monitors⟩ := h.one
  by_cases flight : s.flightEnds ends = true
  · rw [if_pos flight] at engine
    have left : ∀ r ∈ s.live, (!ends r) = true → r.state = .queued := by
      intro r mem stays
      rw [r.queued_iff]
      intro state
      rw [State.flightEnds, h.flight_of_state mem state] at flight
      simp only [Option.any_some] at flight
      rw [flight] at stays
      cases stays
    refine State.oneInFlight_of_free (by rw [engine]; rfl) (fun q r mem => ?_) fun r mem => ?_
    · rw [queue, List.mem_filter] at mem
      exact left r (State.mem_live.2 (.inl ⟨q, mem.1⟩)) mem.2
    · rw [monitor, List.mem_filter] at mem
      exact left r (State.mem_live.2 (.inr mem.1)) mem.2
  · rw [if_neg flight] at engine
    have stays : ∀ r, s.flight = some r → (!ends r) = true := by
      intro r flies
      rw [State.flightEnds, flies] at flight
      simpa using flight
    refine ⟨fun q r mem => tails q r ?_, fun q r head => ?_, fun r mem => ?_, fun q flies => ?_, fun n flies => ?_⟩
    · rw [queue] at mem
      exact mem_tail_filter mem
    · rw [engine]
      rw [queue] at head
      cases list : (s.port q).queue with
      | nil => rw [list] at head; cases head
      | cons x rest =>
        rw [list, List.filter_cons] at head
        split at head
        · obtain rfl := Option.some.inj head
          exact heads q x (by rw [list]; rfl)
        next dropped =>
          have later : r ∈ (s.port q).queue.tail := by
            rw [list]
            exact List.mem_of_mem_filter (List.mem_of_mem_head? head)
          rw [tails q r later]
          refine iff_of_false nofun fun flies => dropped (stays x ?_)
          rw [State.flight_port flies, list]
          rfl
    · rw [engine]
      rw [monitor] at mem
      exact entries r (List.mem_of_mem_filter mem)
    · rw [engine] at flies
      obtain ⟨r, flying⟩ := h.exists_flight flies
      have kept := stays r flying
      rw [State.flight_port flies] at flying
      rw [queue]
      exact List.ne_nil_of_mem (List.mem_filter.2 ⟨List.mem_of_mem_head? flying, kept⟩)
    · rw [engine] at flies
      obtain ⟨r, flying⟩ := h.exists_flight flies
      have kept := stays r flying
      rw [State.flight_monitor flies] at flying
      rw [monitor]
      exact ⟨r, List.mem_filter.2 ⟨List.mem_of_find?_eq_some flying, kept⟩, by simpa using List.find?_some flying⟩

theorem Request.queued_of_not_isInFlight {r : Request} (h : (!r.isInFlight) = true) : r.state = .queued := by
  rw [r.queued_iff]
  simpa [Request.isInFlight] using h

/-- The end of the request in flight by completion leaves nothing in flight. -/
theorem State.oneInFlight_finish (s : State) : s.finish.OneInFlight := by
  refine State.oneInFlight_of_free (by rw [s.finish_engine]; rfl) (fun q r mem => ?_) fun r mem => ?_
  · rw [s.finish_queue, List.mem_filter] at mem
    exact Request.queued_of_not_isInFlight mem.2
  · rw [s.finish_monitor] at mem
    exact Request.queued_of_not_isInFlight (List.mem_filter.1 mem).2

theorem State.enterDown_queues (s : State) : (∀ q, (s.enterDown.port q).queue = (s.giveBack.port q).queue) ∧
    s.enterDown.monitor.queue = s.giveBack.monitor.queue ∧ s.enterDown.engine = .inDown := by
  refine ⟨fun q => ?_, rfl, ?_⟩
  · exact ((State.noticesOnly_postAll (s.giveBack.modEngine (·.downed)) (.engine .down)).queue q)
  · exact Engine.downed_eq_inDown _

theorem State.giveBack_queued {s : State} (h : s.FlightLawful) :
    (∀ q, ∀ r ∈ (s.giveBack.port q).queue, r.state = .queued) ∧ ∀ r ∈ s.giveBack.monitor.queue, r.state = .queued := by
  obtain ⟨tails, heads, entries, -, -⟩ := h.one
  rcases s.giveBack_cases with ⟨none, e⟩ | ⟨r, -, -, e⟩ | ⟨r, flies, -, e⟩ <;> rw [e]
  · have free := h.free_of_flight none
    exact ⟨fun q r mem => h.queued_of_free free (State.mem_live.2 (.inl ⟨q, mem⟩)),
      fun r mem => h.queued_of_free free (State.mem_live.2 (.inr mem))⟩
  · refine ⟨fun q r mem => ?_, fun r mem => ?_⟩
    · change r ∈ ((s.terminate .retired (·.isInFlight)).port q).queue at mem
      rw [State.terminate_queue, List.mem_filter] at mem
      exact Request.queued_of_not_isInFlight mem.2
    · change r ∈ (s.terminate .retired (·.isInFlight)).monitor.queue at mem
      rw [State.terminate_monitor] at mem
      exact Request.queued_of_not_isInFlight (List.mem_filter.1 mem).2
  · have queue : ∀ q, ((s.releaseReservation r).port q).queue = (s.port q).queue :=
      fun q => s.abandon_queue r q
    have monitor : (s.releaseReservation r).monitor = s.monitor := s.abandon_monitor r
    have engine : (s.releaseReservation r).engine = s.engine := State.Converts.engine_modSource s r _
    have others : ∀ q, s.engine.inFlight ≠ some (.port q) → ∀ x ∈ (s.port q).queue, x.state = .queued := by
      intro q elsewhere x mem
      cases list : (s.port q).queue with
      | nil => rw [list] at mem; cases mem
      | cons head rest =>
        rw [list] at mem
        rcases List.mem_cons.1 mem with rfl | mem
        · rw [x.queued_iff]
          exact fun state => elsewhere ((heads q x (by rw [list]; rfl)).1 state)
        · exact tails q x (by rw [list]; exact mem)
    rcases h.flight_source flies with ⟨p, rest, inFlight, list, -⟩ | ⟨inFlight, -, -, -⟩
    · have modified : (s.releaseReservation r).modFlight (fun r => { r with state := .queued }) =
          (s.releaseReservation r).modPort p fun ps => { ps with queue := modHead (fun r => { r with state := .queued }) ps.queue } := by
        simp only [State.modFlight, engine, inFlight]
      rw [modified]
      refine ⟨fun q x mem => ?_, fun x mem => ?_⟩
      · rw [State.port_modPort] at mem
        split at mem
        next e =>
          subst e
          simp only [queue, list, modHead] at mem
          rcases List.mem_cons.1 mem with rfl | mem
          · rfl
          · exact tails q x (by rw [list]; exact mem)
        next other =>
          rw [queue] at mem
          exact others q (by rw [inFlight]; simpa using Ne.symm other) x mem
      · change x ∈ (s.releaseReservation r).monitor.queue at mem
        rw [monitor] at mem
        rw [x.queued_iff]
        intro state
        have flies := (entries x mem).1 state
        rw [inFlight] at flies
        cases flies
    · have modified : (s.releaseReservation r).modFlight (fun r => { r with state := .queued }) =
          (s.releaseReservation r).modMonitor fun m => { m with queue := m.queue.map fun x =>
            if x.profile = r.profile then { x with state := .queued } else x } := by
        simp only [State.modFlight, engine, inFlight]
      rw [modified]
      refine ⟨fun q x mem => ?_, fun x mem => ?_⟩
      · rw [State.modMonitor_port, queue] at mem
        exact others q (by rw [inFlight]; simp) x mem
      · simp only [State.modMonitor_monitor, monitor, List.mem_map] at mem
        obtain ⟨y, mem, rfl⟩ := mem
        split
        · rfl
        next other =>
          rw [y.queued_iff]
          intro state
          have flies := (entries y mem).1 state
          rw [inFlight] at flies
          simp only [Option.some.injEq, Flight.monitor.injEq] at flies
          exact other flies.symm

theorem State.OneInFlight.enterDown {s : State} (h : s.FlightLawful) : s.enterDown.OneInFlight := by
  obtain ⟨queue, monitor, engine⟩ := s.enterDown_queues
  obtain ⟨ports, entries⟩ := State.giveBack_queued h
  refine State.oneInFlight_of_free (by rw [engine]; rfl) (fun q r mem => ports q r ?_) fun r mem => entries r ?_
  · rw [← queue]; exact mem
  · rw [← monitor]; exact mem

/-! ## Grants -/

/-- The outcomes of a grant point with their states (R52 to R60). -/
theorem State.grantPoint_outcome {s : State} (sources : ∀ q, ∀ r ∈ (s.port q).queue, r.source = .port q) (boundary : Bool) :
    (∃ r, s.monitorCandidate = some r ∧ s.grantPoint boundary = s.grant (.monitor r.profile)) ∨
    (∃ p affine r rest, s.Chooses boundary p affine ∧ (s.port p).queue = r :: rest ∧
      s.grantPoint boundary = s.portPoint p affine r rest) ∨
    s.monitorCandidate = none ∧ ((∀ q, s.headEligible q = false) ∧ s.grantPoint boundary = s.goIdle ∨
      (∀ q, ¬ s.Serves q) ∧ s.grantPoint boundary = s.refill.goIdle) := by
  cases candidate : s.monitorCandidate with
  | some r => exact .inl ⟨r, rfl, State.grantPoint_monitor candidate boundary⟩
  | none =>
    by_cases waits : ∃ q, s.headEligible q = true
    · rcases State.grantPoint_port candidate waits sources boundary with granted | idle
      · exact .inr (.inl granted)
      · exact .inr (.inr ⟨rfl, .inr idle⟩)
    · have none : ∀ q, s.headEligible q = false := by simpa using waits
      exact .inr (.inr ⟨rfl, .inl ⟨none, State.grantPoint_idle candidate none boundary⟩⟩)

theorem Engine.inFlight_begin (e : Engine) (kind : Kind) (profile : Profile) :
    (e.begin kind profile).inFlight = e.inFlight := (e.load_parts (firstSetup kind profile)).2.2.2

theorem State.OneInFlight.grantPoint {s : State} (h : s.FlightLawful) (free : s.engine.inFlight = none) (boundary : Bool) :
    (s.grantPoint boundary).OneInFlight := by
  have queued : ∀ q, ∀ r ∈ (s.port q).queue, r.state = .queued :=
    fun q r mem => h.queued_of_free free (State.mem_live.2 (.inl ⟨q, mem⟩))
  have waiting : ∀ r ∈ s.monitor.queue, r.state = .queued :=
    fun r mem => h.queued_of_free free (State.mem_live.2 (.inr mem))
  have refilled := s.refill_rest
  rcases State.grantPoint_outcome h.source boundary with
    ⟨r, candidate, e⟩ | ⟨p, affine, r, rest, -, queue, e⟩ | ⟨-, ⟨-, e⟩ | ⟨-, e⟩⟩ <;> rw [e]
  · obtain ⟨mem, -⟩ := State.monitorCandidate_spec candidate
    rw [State.grant_monitor (State.find_monitor h.monitorQueue mem) (h.monitorQueue.2.2.2 r mem).1]
    have flies : (s.monitorGranted r).engine.inFlight = some (.monitor r.profile) := Engine.inFlight_begin _ _ _
    refine ⟨fun q x later => queued q x (List.mem_of_mem_tail later), fun q x head => ?_, fun x entry => ?_,
      fun q port => ?_, fun n monitor => ?_⟩
    · rw [flies, queued q x (List.mem_of_mem_head? head)]
      simp
    · rw [flies]
      simp only [State.monitorGranted, List.mem_map] at entry
      obtain ⟨y, entry, rfl⟩ := entry
      split
      next same => simp [same]
      next other =>
        rw [waiting y entry]
        exact iff_of_false nofun fun same => other (by simpa using same.symm)
    · rw [flies] at port; cases port
    · rw [flies] at monitor
      simp only [Option.some.injEq, Flight.monitor.injEq] at monitor
      exact ⟨{ r with state := .inFlight }, List.mem_map.2 ⟨r, mem, by rw [if_pos rfl]⟩, monitor⟩
  · have flies : (s.portPoint p affine r rest).engine.inFlight = some (.port p) := by
      rw [s.portPoint_engine]
      exact Engine.inFlight_begin _ _ _
    have self := congrArg PortState.queue (s.portPoint_self p affine r rest)
    have other : ∀ q, q ≠ p → ((s.portPoint p affine r rest).port q).queue = (s.port q).queue :=
      fun q ne => by rw [s.portPoint_other affine r rest ne]
    have entries : (s.portPoint p affine r rest).monitor = s.monitor := by rw [s.portPoint_rest]
    refine ⟨fun q x later => ?_, fun q x head => ?_, fun x entry => ?_, fun q port => ?_, fun n monitor => ?_⟩
    · by_cases same : q = p
      · subst same
        rw [self] at later
        exact queued q x (by rw [queue]; exact List.mem_cons_of_mem _ later)
      · rw [other q same] at later
        exact queued q x (List.mem_of_mem_tail later)
    · rw [flies]
      by_cases same : q = p
      · subst same
        rw [self] at head
        obtain rfl := Option.some.inj head
        simp
      · rw [other q same] at head
        rw [queued q x (List.mem_of_mem_head? head)]
        exact iff_of_false nofun fun e => same (by simpa using e.symm)
    · rw [entries] at entry
      rw [flies, waiting x entry]
      simp
    · rw [flies] at port
      simp only [Option.some.injEq, Flight.port.injEq] at port
      rw [← port, self]
      exact List.cons_ne_nil _ _
    · rw [flies] at monitor; cases monitor
  · exact State.oneInFlight_of_free free queued waiting
  · refine State.oneInFlight_of_free ?_ (fun q r mem => queued q r ?_) fun r mem => waiting r ?_
    · change s.refill.engine.inFlight = none
      rw [refilled.1]
      exact free
    · change r ∈ (s.refill.port q).queue at mem
      rw [refilled.2 q] at mem
      exact mem
    · change r ∈ s.refill.monitor.queue at mem
      rw [refilled.1] at mem
      exact mem

/-! ## Results -/

/-- The state with a result written, charged and its WINDOW notice posted (R61, R81, R114). -/
def State.written (s : State) (r : Request) (record : ResultRecord) (value : Int) : State :=
  (s.writeToRing r record).postWindow r value

theorem State.deliver_eq (s : State) (r : Request) (formed : Formed) : ∃ record value,
    s.deliver r formed = (s.written r record value).endTurn r value := ⟨_, _, rfl⟩

/-- A result of a port is written to its ring and charged to it alone; its notices aside. -/
theorem State.written_port {s : State} {r : Request} {p : Port} (source : r.source = .port p) (record : ResultRecord)
    (value : Int) (q : Port) : ((s.written r record value).port q).queue = (s.port q).queue ∧
      ((s.written r record value).port q).ring =
        (s.port q).ring ++ (if q = p then [{ record with sequence := (s.port p).nextSeq }] else []) ∧
      ((s.written r record value).port q).reservations =
        (s.port q).reservations - (if q = p ∧ r.run = .contiguous then 1 else 0) ∧
      ((s.written r record value).port q).credit = (s.port q).credit - (if q = p then 1 else 0) ∧
      ((s.written r record value).port q).weight = (s.port q).weight := by
  have posted := (s.writeToRing r record).noticesOnly_postWindow r value
  have written : (s.writeToRing r record).port q =
      if q = p then ((s.port p).writeResult (r.run = .contiguous) record).charge else s.port q := by
    simp only [State.writeToRing, State.modSource, source, State.port_modPort]
  unfold State.written
  rw [posted.ports q, written]
  split
  next e =>
    subst e
    obtain ⟨ring, -, reservations, queue, -, credit⟩ := (s.port q).writeResult_parts (r.run = .contiguous) record
    have weight := ((s.port q).sameSettings_writeResult (r.run = .contiguous) record).weight
    refine ⟨queue, ring, ?_, congrArg (· - 1) credit, weight⟩
    change ((s.port q).writeResult (r.run = .contiguous) record).reservations = _
    rw [reservations]
    by_cases run : r.run = .contiguous <;> simp [run]
  next other => simp [other]

theorem State.written_rest (s : State) (r : Request) (record : ResultRecord) (value : Int) :
    (s.written r record value).engine = s.engine ∧ (s.written r record value).monitor = s.monitor ∧
      (∀ n, (s.written r record value).profile n = s.profile n) ∧
      ∀ q, ((s.written r record value).port q).queue = (s.port q).queue := by
  have posted := (s.writeToRing r record).noticesOnly_postWindow r value
  have engine := State.Converts.engine_modSource s r fun ps => (ps.writeResult (r.run = .contiguous) record).charge
  refine ⟨posted.engine.trans engine, posted.monitor.trans ?_, fun n => (posted.profile n).trans ?_,
    fun q => (posted.queue q).trans ?_⟩
  · unfold State.writeToRing State.modSource
    split <;> rfl
  · unfold State.writeToRing State.modSource
    split <;> rfl
  · unfold State.writeToRing State.modSource
    split
    · rw [State.port_modPort]
      split
      next e => subst e; exact ((s.port _).writeResult_parts _ record).2.2.2.1
      · rfl
    · rfl

theorem State.FlightLawful.of_work {s t : State} (h : s.FlightLawful) (engine : t.engine.inFlight = s.engine.inFlight)
    (monitor : t.monitor.queue = s.monitor.queue) (fixed : (t.profile 0).autoRecal = (s.profile 0).autoRecal)
    (queue : ∀ q, (t.port q).queue = (s.port q).queue) : t.FlightLawful := by
  refine ⟨h.one.of_marks (fun q => by rw [queue q]) (by rw [monitor]) engine, ?_, fun q r mem => ?_, by rw [fixed]; exact h.fixed⟩
  · unfold State.MonitorQueueLawful
    rw [monitor]
    exact h.monitorQueue
  · rw [queue q] at mem
    exact h.source q r mem

theorem State.OneInFlight.rotate {s : State} (h : s.FlightLawful) {r : Request} (flies : s.flight = some r)
    (run : r.run = .interleaved) (f : Request → Request) (queued : (f r).state = .queued) :
    (s.rotateFlight r f).OneInFlight := by
  obtain ⟨tails, heads, entries, -, -⟩ := h.one
  rcases h.flight_source flies with ⟨p, rest, inFlight, list, source⟩ | ⟨-, -, -, contiguous⟩
  · have rotated : s.rotateFlight r f =
        (s.modPort p fun ps => { ps with queue := Machine.rotate f ps.queue }).modEngine (·.noFlight) := by
      simp only [State.rotateFlight, State.modSource, source]
    rw [rotated]
    refine State.oneInFlight_of_free rfl (fun q x mem => ?_) fun x mem => ?_
    · rw [State.modEngine_port, State.port_modPort] at mem
      split at mem
      next e =>
        subst e
        simp only [list, Machine.rotate, List.mem_append, List.mem_singleton] at mem
        rcases mem with mem | rfl
        · exact tails q x (by rw [list]; exact mem)
        · exact queued
      next other =>
        cases line : (s.port q).queue with
        | nil => rw [line] at mem; cases mem
        | cons head rest =>
          rw [line] at mem
          rcases List.mem_cons.1 mem with rfl | mem
          · rw [x.queued_iff]
            intro state
            have flying := (heads q x (by rw [line]; rfl)).1 state
            rw [inFlight] at flying
            exact other (by simpa using flying.symm)
          · exact tails q x (by rw [line]; exact mem)
    · rw [x.queued_iff]
      intro state
      have flying := (entries x mem).1 state
      rw [inFlight] at flying
      cases flying
  · rw [run] at contiguous; cases contiguous

theorem State.OneInFlight.deliver {s : State} (h : s.FlightLawful) {r : Request} (flies : s.flight = some r)
    (formed : Formed) : (s.deliver r formed).OneInFlight := by
  obtain ⟨record, value, e⟩ := s.deliver_eq r formed
  obtain ⟨engine, monitor, profile, queue⟩ := s.written_rest r record value
  have lawful : (s.written r record value).FlightLawful :=
    h.of_work (by rw [engine]) (by rw [monitor]) (by rw [profile]) queue
  have flying : (s.written r record value).flight = some r := by
    rw [← flies]
    simp only [State.flight, engine, queue, monitor]
  rw [e]
  rcases (s.written r record value).endTurn_cases r value with ⟨-, e⟩ | ⟨-, run, e⟩ | ⟨-, -, e⟩ <;> rw [e]
  · exact State.oneInFlight_finish _
  · exact .rotate lawful flying run _ rfl
  · exact (lawful.one.modFlight (f := (·.after value)) fun _ => rfl).of_marks (fun _ => rfl) rfl
      (Engine.inFlight_begin _ _ _)

/-! ## The law through the converter's work -/

theorem State.sources_of_asks {s t : State} (h : ∀ q, ∀ r ∈ (s.port q).queue, r.source = .port q)
    (asks : ∀ q, ((t.port q).queue.map Request.ask).Subperm ((s.port q).queue.map Request.ask)) :
    ∀ q, ∀ r ∈ (t.port q).queue, r.source = .port q := by
  intro q r mem
  obtain ⟨x, mem, same⟩ := mem_of_asks (asks q) mem
  exact (congrArg Request.source same).symm.trans (h q x mem)

/-- What a step of the converter's work makes of the queues: requests wind, or one joins. -/
theorem WorkStep.queues {s t : State} (w : WorkStep s t) :
    (∀ q, ((t.port q).queue.map Request.ask).Subperm ((s.port q).queue.map Request.ask)) ∧
        (t.monitor.queue.map Request.ask).Subperm (s.monitor.queue.map Request.ask) ∨
      (∃ p tag w, w.allowed = true ∧ t = s.enqueue p (newRequest p tag w)) ∨
      (s.monitor.queue.any (·.kind = .measure) = false ∧ t = s.place 0 .measure) ∨
      ∃ n, (s.profile n).autoRecal = true ∧ s.acceptsZero n = true ∧ t = s.place n .zero := by
  have winds : ∀ {u : State}, s.Winds u → (∀ q, ((u.port q).queue.map Request.ask).Subperm ((s.port q).queue.map Request.ask)) ∧
      (u.monitor.queue.map Request.ask).Subperm (s.monitor.queue.map Request.ask) := fun w => ⟨w.queue, w.monitor⟩
  cases w with
  | stands h => exact .inl ⟨fun q => by rw [h.queue q], by rw [h.monitor]⟩
  | terminates reason ends => exact .inl (winds (s.winds_terminate _ _))
  | marks n => exact .inl (winds (s.winds_markFinal n))
  | resets p =>
    exact .inl (winds ((s.winds_terminate .portReset (Request.isFrom p)).trans
      (State.winds_modPort _ p (fun _ => .refl _) fun _ => rfl)))
  | weighs q w => exact .inl (winds (s.winds_modPort q (fun _ => .refl _) fun _ => rfl))
  | enqueues p tag w allowed => exact .inr (.inl ⟨p, tag, w, allowed, rfl⟩)
  | samples none => exact .inr (.inr (.inl ⟨none, rfl⟩))
  | zeros n auto accepts => exact .inr (.inr (.inr ⟨n, auto, accepts, rfl⟩))
  | grants boundary => exact .inl (winds (s.winds_grantPoint boundary))
  | downs => exact .inl (winds s.winds_enterDown)
  | delivers r formed => exact .inl (winds (s.winds_deliver r formed))
  | completes r value overload => exact .inl (winds (s.winds_completeZero r value overload))
  | sampled => exact .inl (winds s.winds_finish)

theorem WorkStep.fixed {s t : State} (w : WorkStep s t) : (t.profile 0).autoRecal = (s.profile 0).autoRecal := by
  have kept : ∀ {u : State}, s.Keeps u → (u.profile 0).autoRecal = (s.profile 0).autoRecal :=
    fun k => (k.profiles 0).autoRecal
  cases w with
  | stands h => exact h.fixed
  | terminates reason ends => exact kept (s.quiet_terminate reason ends).1
  | marks n => exact kept (s.quiet_markFinal n).1
  | resets p => exact kept (u := s.terminate .portReset (Request.isFrom p)) (s.quiet_terminate .portReset (Request.isFrom p)).1
  | weighs q w => rfl
  | enqueues p tag w =>
    rw [s.profile_enqueue]
  | samples none => exact kept (s.quiet_place 0 .measure).1
  | zeros n => exact kept (s.quiet_place n .zero).1
  | grants boundary => exact kept (s.quiet_grantPoint boundary).1
  | downs => exact kept s.quiet_enterDown.1
  | delivers r formed => exact kept (s.keeps_deliver r formed)
  | completes r value overload => exact kept (s.keeps_completeZero r value overload)
  | sampled => exact kept s.quiet_finish.1

theorem State.acceptsZero_spec {s : State} {n : Fin 32} (accepts : s.acceptsZero n = true) :
    s.monitor.queue.countP (fun r => decide (r.kind = .zero)) < 2 ∧
      (s.monitor.queue.any fun r => decide (r.kind = .zero ∧ r.profile = n)) = false := by
  simp only [State.acceptsZero, Bool.and_eq_true, decide_eq_true_eq, Bool.not_eq_true'] at accepts
  refine ⟨accepts.1.1, ?_⟩
  rw [← accepts.1.2]
  exact congrArg (List.any s.monitor.queue) (funext fun r => by simp)

theorem State.OneInFlight.place {s : State} (h : s.FlightLawful) {n : Fin 32} (kind : Kind)
    (elsewhere : s.engine.inFlight ≠ some (.monitor n)) : (s.place n kind).OneInFlight := by
  obtain ⟨tails, heads, entries, ports, monitors⟩ := h.one
  refine ⟨tails, heads, fun r mem => ?_, ports, fun m flies => ?_⟩
  · change r ∈ s.monitor.queue ++ [monitorEntry n kind] at mem
    rcases List.mem_append.1 mem with mem | mem
    · exact entries r mem
    · obtain rfl := List.mem_singleton.1 mem
      exact iff_of_false nofun elsewhere
  · obtain ⟨r, mem, same⟩ := monitors m flies
    exact ⟨r, List.mem_append_left _ mem, same⟩

theorem State.OneInFlight.enqueue {s : State} (h : s.FlightLawful) (p : Port) (r : Request) (queued : r.state = .queued) :
    (s.enqueue p r).OneInFlight := by
  obtain ⟨tails, heads, entries, ports, monitors⟩ := h.one
  have queue : ∀ q, ((s.enqueue p r).port q).queue = (s.port q).queue ++ if q = p then [r] else [] := by
    intro q
    change ((s.modPort p fun ps => { ps with used := ps.used + 1, queue := ps.queue ++ [r] }).port q).queue = _
    rw [State.port_modPort]
    split
    next e => subst e; rfl
    · rw [List.append_nil]
  refine ⟨fun q x later => ?_, fun q x head => ?_, entries, fun q flies empty => ?_, monitors⟩
  · rw [queue] at later
    cases list : (s.port q).queue with
    | nil =>
      rw [list] at later
      split at later <;> cases later
    | cons y rest =>
      rw [list, List.cons_append, List.tail_cons, List.mem_append] at later
      rcases later with later | later
      · exact tails q x (by rw [list]; exact later)
      · split at later
        · rw [List.mem_singleton.1 later]; exact queued
        · cases later
  · rw [queue] at head
    cases list : (s.port q).queue with
    | nil =>
      rw [list] at head
      have new : x = r := by
        split at head
        · exact (Option.some.inj head).symm
        · cases head
      rw [new, queued]
      exact iff_of_false nofun fun flies => ports q flies list
    | cons y rest =>
      rw [list] at head
      exact heads q x (by rw [list]; exact head)
  · rw [queue, List.append_eq_nil_iff] at empty
    exact ports q flies empty.1

/-- A monitor entry in flight stands in the monitor queue; a free place is against another profile. -/
theorem State.FlightLawful.elsewhere {s : State} (h : s.FlightLawful) {n : Fin 32}
    (free : ∀ r ∈ s.monitor.queue, r.profile ≠ n) : s.engine.inFlight ≠ some (.monitor n) := by
  intro flies
  obtain ⟨r, mem, same⟩ := h.one.2.2.2.2 n flies
  exact free r mem same

theorem State.FlightLawful.step {s t : State} (w : WorkStep s t) (h : s.FlightLawful) : t.FlightLawful := by
  have entries := h.monitorQueue.2.2.2
  have sampleFree : s.monitor.queue.any (·.kind = .measure) = false → ∀ r ∈ s.monitor.queue, r.profile ≠ 0 := by
    intro none r mem
    obtain ⟨-, -, -, -, -, -, user⟩ := entries r mem
    have := List.any_eq_false.1 none r mem
    cases kind : r.kind with
    | measure => simp [kind] at this
    | zero => exact user kind
  have zeroFree : ∀ n, n ≠ 0 → s.acceptsZero n = true → ∀ r ∈ s.monitor.queue, r.profile ≠ n := by
    intro n user accepts r mem same
    obtain ⟨-, -, -, -, -, fixed, -⟩ := entries r mem
    have := List.any_eq_false.1 (State.acceptsZero_spec accepts).2 r mem
    cases kind : r.kind with
    | measure => exact user (same ▸ fixed kind)
    | zero => simp [kind, same] at this
  have user : ∀ n, (s.profile n).autoRecal = true → n ≠ 0 := by
    rintro n auto rfl
    rw [h.fixed] at auto
    cases auto
  refine ⟨?_, ?_, ?_, w.fixed.trans h.fixed⟩
  · cases w with
    | stands stand => exact (h.of_work stand.flight stand.monitor stand.fixed stand.queue).one
    | terminates reason ends => exact .terminate h reason ends
    | marks n =>
      unfold State.markFinal
      split
      · exact h.one.modFlight fun _ => rfl
      · exact h.one
    | resets p =>
      refine (State.OneInFlight.terminate h .portReset (Request.isFrom p)).of_marks (fun q => ?_) rfl rfl
      rw [State.port_modPort]
      split
      next e => subst e; rfl
      · rfl
    | weighs q w =>
      refine h.one.of_marks (fun x => ?_) rfl rfl
      rw [State.port_modPort]
      split
      next e => subst e; rfl
      · rfl
    | enqueues p tag w => exact .enqueue h p _ rfl
    | samples none => exact .place h .measure (h.elsewhere (sampleFree none))
    | zeros n auto accepts => exact .place h .zero (h.elsewhere (zeroFree n (user n auto) accepts))
    | grants boundary free => exact .grantPoint h free boundary
    | downs => exact .enterDown h
    | delivers r formed flies => exact .deliver h flies formed
    | completes => exact State.oneInFlight_finish _
    | sampled => exact State.oneInFlight_finish _
  · rcases w.queues with ⟨-, monitor⟩ | ⟨p, tag, w, -, rfl⟩ | ⟨none, rfl⟩ | ⟨n, auto, accepts, rfl⟩
    · exact h.monitorQueue.of_asks monitor
    · exact h.monitorQueue
    · exact h.monitorQueue.place (fun _ => ⟨rfl, none⟩) nofun
    · exact h.monitorQueue.place nofun fun _ => ⟨user n auto, State.acceptsZero_spec accepts⟩
  · rcases w.queues with ⟨queue, -⟩ | ⟨p, tag, new, -, rfl⟩ | ⟨-, rfl⟩ | ⟨n, -, -, rfl⟩
    · exact State.sources_of_asks h.source queue
    · intro q r mem
      change r ∈ ((s.modPort p fun ps =>
        { ps with used := ps.used + 1, queue := ps.queue ++ [newRequest p tag new] }).port q).queue at mem
      rw [State.port_modPort] at mem
      split at mem
      next e =>
        subst e
        rcases List.mem_append.1 mem with mem | mem
        · exact h.source q r mem
        · rw [List.mem_singleton.1 mem]; rfl
      · exact h.source q r mem
    · exact h.source
    · exact h.source

theorem State.FlightLawful.acts {s t : State} {i : Instr} (h : s.FlightLawful) (act : Acts s i t) : t.FlightLawful :=
  act.works.keeps (fun _ _ => State.FlightLawful.step) h

theorem State.FlightLawful.sameCore {s t : State} (same : s.SameCore t) (h : s.FlightLawful) : t.FlightLawful :=
  h.of_work (by rw [same.engine]) (by rw [same.monitor]) (by rw [same.profile]) same.queue

theorem State.FlightLawful.resetWith (straps : Straps) : (State.resetWith straps).FlightLawful := by
  refine ⟨State.oneInFlight_of_free rfl (fun q r mem => absurd mem (State.mem_resetWith.2 q))
    fun r mem => absurd mem State.mem_resetWith.1, .resetWith straps, fun q r mem => absurd mem (State.mem_resetWith.2 q), ?_⟩
  · rw [State.profile_resetWith]; rfl

end Sys2Proof.Machine
end

section
/-! SUPPORT. Ring places and credits through every step of the converter's work (R49, R61, R63, R64, R111). -/

namespace Sys2Proof.Machine

/-! ## The two laws, clause by clause -/

/-- A port whose request `r` is in flight has the ring places that its results need. -/
def PortState.RoomFor (ps : PortState) (r : Request) : Prop :=
  (r.run = .contiguous → ps.reservations = r.count - r.delivered) ∧
    (r.run = .interleaved → ps.reservations = 0 ∧ ps.ring.length < 16)

/-- `State.RingsHoldRoom`, with its clauses named. -/
structure State.RoomLaw (s : State) : Prop where
  bound : ∀ p, (s.port p).ring.length + (s.port p).reservations ≤ 16
  requests : ∀ p, ∀ r ∈ (s.port p).queue, r.source = .port p ∧ r.lawful
  entries : ∀ r ∈ s.monitor.queue, r.source = .monitor
  unreserved : ∀ p, s.engine.inFlight ≠ some (.port p) → (s.port p).reservations = 0
  flying : ∀ p, s.engine.inFlight = some (.port p) → ∃ r rest, (s.port p).queue = r :: rest ∧ r.state = .inFlight ∧
    (∀ step, s.engine.step = some step → step.ofZero = true → r.kind = .zero) ∧ (s.port p).RoomFor r

theorem State.ringsHoldRoom_iff (s : State) : s.RingsHoldRoom ↔ s.RoomLaw := by
  constructor
  · rintro ⟨bound, requests, entries, unreserved, flying⟩
    refine ⟨bound, requests, entries, unreserved, fun p flies => ?_⟩
    obtain ⟨r, rest, queue, state, zero, room⟩ := flying p flies
    refine ⟨r, rest, queue, state, zero, ?_⟩
    unfold PortState.RoomFor
    cases run : r.run <;> simpa [run] using room
  · rintro ⟨bound, requests, entries, unreserved, flying⟩
    refine ⟨bound, requests, entries, unreserved, fun p flies => ?_⟩
    obtain ⟨r, rest, queue, state, zero, room⟩ := flying p flies
    refine ⟨r, rest, queue, state, zero, ?_⟩
    unfold PortState.RoomFor at room
    cases run : r.run <;> simpa [run] using room

/-- A port can pay for what its request in flight owes. -/
def PortState.Pays (ps : PortState) (r : Request) : Prop :=
  (r.run = .contiguous → ((r.count - r.delivered : Nat) : Int) - 15 ≤ ps.credit) ∧ (r.run = .interleaved → 1 ≤ ps.credit)

/-- A credit and a weight within their bounds. -/
def PortState.CreditSound (ps : PortState) : Prop :=
  -15 ≤ ps.credit ∧ ps.credit ≤ ps.weight ∧ 1 ≤ ps.weight ∧ ps.weight ≤ 8

theorem State.creditsLawful_iff (s : State) : s.CreditsLawful ↔ (∀ p, (s.port p).CreditSound) ∧
    ∀ p r rest, s.engine.inFlight = some (.port p) → (s.port p).queue = r :: rest → (s.port p).Pays r := by
  refine and_congr Iff.rfl (forall_congr' fun p => forall_congr' fun r => forall_congr' fun rest => ?_)
  refine imp_congr_right fun _ => imp_congr_right fun _ => ?_
  unfold PortState.Pays
  cases run : r.run <;> simp

/-! ## The laws where nothing is in flight, and where nothing of them moves -/

theorem State.roomLaw_of_free {s : State} (free : ∀ p, s.engine.inFlight ≠ some (.port p))
    (ring : ∀ p, (s.port p).ring.length ≤ 16) (reservations : ∀ p, (s.port p).reservations = 0)
    (requests : ∀ p, ∀ r ∈ (s.port p).queue, r.source = .port p ∧ r.lawful)
    (entries : ∀ r ∈ s.monitor.queue, r.source = .monitor) : s.RoomLaw :=
  ⟨fun p => by rw [reservations p]; exact ring p, requests, entries, fun p _ => reservations p,
    fun p flies => absurd flies (free p)⟩

namespace State.RoomLaw

variable {s t : State} (h : s.RoomLaw)
include h

theorem ring_le (p : Port) : (s.port p).ring.length ≤ 16 := le_trans (Nat.le_add_right _ _) (h.bound p)

theorem unreserved_of_free (free : ∀ p, s.engine.inFlight ≠ some (.port p)) (p : Port) : (s.port p).reservations = 0 :=
  h.unreserved p (free p)

/-- The law over what it reads; a ring may lose records. -/
theorem of_core (queue : ∀ q, (t.port q).queue = (s.port q).queue) (entries : ∀ r ∈ t.monitor.queue, r.source = .monitor)
    (flight : t.engine.inFlight = s.engine.inFlight)
    (step : ∀ step, t.engine.step = some step → step.ofZero = true →
      ∃ before, s.engine.step = some before ∧ before.ofZero = true)
    (ring : ∀ q, (t.port q).ring.length ≤ (s.port q).ring.length)
    (reservations : ∀ q, (t.port q).reservations = (s.port q).reservations) : t.RoomLaw := by
  refine ⟨fun p => ?_, fun p r mem => h.requests p r (by rw [← queue p]; exact mem), entries, fun p elsewhere => ?_,
    fun p flies => ?_⟩
  · have := h.bound p
    have := ring p
    rw [reservations p]
    omega
  · rw [reservations p]
    exact h.unreserved p (by rw [← flight]; exact elsewhere)
  · obtain ⟨r, rest, list, state, zero, contiguous, interleaved⟩ := h.flying p (by rw [← flight]; exact flies)
    refine ⟨r, rest, by rw [queue p, list], state, fun now taken ofZero => ?_, fun run => ?_, fun run => ?_⟩
    · obtain ⟨before, taken, ofZero⟩ := step now taken ofZero
      exact zero before taken ofZero
    · rw [reservations p]; exact contiguous run
    · rw [reservations p]; exact ⟨(interleaved run).1, lt_of_le_of_lt (ring p) (interleaved run).2⟩

/-- The head of the port whose request is in flight, and that a port's flight is its head. -/
theorem flight_cases {r : Request} (flies : s.flight = some r) :
    (∃ p rest, s.engine.inFlight = some (.port p) ∧ (s.port p).queue = r :: rest ∧ r.source = .port p ∧ r.lawful ∧
      r.state = .inFlight ∧ (∀ step, s.engine.step = some step → step.ofZero = true → r.kind = .zero) ∧
      (s.port p).RoomFor r) ∨
    (∀ p, s.engine.inFlight ≠ some (.port p)) ∧ r.source = .monitor := by
  cases inFlight : s.engine.inFlight with
  | none => rw [State.flight_free inFlight] at flies; cases flies
  | some f =>
    cases f with
    | port p =>
      obtain ⟨r', rest, queue, state, zero, room⟩ := h.flying p inFlight
      rw [State.flight_port inFlight, queue] at flies
      obtain rfl := Option.some.inj flies
      obtain ⟨source, lawful⟩ := h.requests p r' (by rw [queue]; exact List.mem_cons_self)
      exact .inl ⟨p, rest, rfl, queue, source, lawful, state, zero, room⟩
    | monitor n =>
      rw [State.flight_monitor inFlight] at flies
      exact .inr ⟨nofun, h.entries r (List.mem_of_find?_eq_some flies)⟩

end State.RoomLaw

theorem PortState.RoomFor.reserves {ps : PortState} {r : Request} (h : ps.RoomFor r) : ps.reservations = r.reserves := by
  obtain ⟨contiguous, interleaved⟩ := h
  cases run : r.run with
  | contiguous => simpa [Request.reserves, run, Request.owed] using contiguous run
  | interleaved => simpa [Request.reserves, run] using (interleaved run).1

theorem State.flight_none_of_flightEnds {s : State} {ends : Request → Bool} (flight : ¬ s.flightEnds ends = true)
    {r : Request} (flies : s.flight = some r) : ends r = false := by
  rw [State.flightEnds, flies] at flight
  simpa using flight

/-! ## Terminations -/

theorem State.terminate_reservations_of_stays {s : State} {ends : Request → Bool} (reason : Reason)
    (flight : ¬ s.flightEnds ends = true) (q : Port) :
    ((s.terminate reason ends).port q).reservations = (s.port q).reservations := by
  rw [State.terminate_reservations]
  cases flies : s.flight with
  | none => simp
  | some r => simp [State.flight_none_of_flightEnds flight flies]

theorem State.RoomLaw.terminate {s : State} (h : s.RoomLaw) (reason : Reason) (ends : Request → Bool) :
    (s.terminate reason ends).RoomLaw := by
  have queue := s.terminate_queue reason ends
  have monitor := congrArg Monitor.queue (s.terminate_monitor reason ends)
  have engine := s.terminate_engine reason ends
  have ring := (s.portsWork_terminate reason ends).ring
  have requests : ∀ p, ∀ r ∈ ((s.terminate reason ends).port p).queue, r.source = .port p ∧ r.lawful := by
    intro p r mem
    rw [queue] at mem
    exact h.requests p r (List.mem_of_mem_filter mem)
  have entries : ∀ r ∈ (s.terminate reason ends).monitor.queue, r.source = .monitor := by
    intro r mem
    rw [monitor] at mem
    exact h.entries r (List.mem_of_mem_filter mem)
  by_cases flight : s.flightEnds ends = true
  · rw [if_pos flight] at engine
    refine State.roomLaw_of_free (fun p => by rw [engine]; exact nofun) (fun p => by rw [ring]; exact h.ring_le p)
      (fun p => ?_) requests entries
    obtain ⟨r, flies, ended⟩ := (Option.any_eq_true _ _).1 flight
    rw [State.terminate_reservations, flies]
    rcases h.flight_cases flies with ⟨q, rest, inFlight, -, source, -, -, -, room⟩ | ⟨elsewhere, -⟩
    · by_cases same : q = p
      · subst same
        simp [ended, source, room.reserves]
      · have := h.unreserved p (by rw [inFlight]; simpa using same)
        omega
    · have := h.unreserved p (elsewhere p)
      omega
  · rw [if_neg flight] at engine
    refine ⟨fun p => ?_, requests, entries, fun p elsewhere => ?_, fun p flies => ?_⟩
    · rw [ring, State.terminate_reservations_of_stays reason flight]
      exact h.bound p
    · rw [engine] at elsewhere
      rw [State.terminate_reservations_of_stays reason flight]
      exact h.unreserved p elsewhere
    · rw [engine] at flies
      obtain ⟨r, rest, list, state, zero, room⟩ := h.flying p flies
      have stays : ends r = false :=
        State.flight_none_of_flightEnds flight (by rw [State.flight_port flies, list]; rfl)
      refine ⟨r, rest.filter (!ends ·), ?_, state, by rw [engine]; exact zero, ?_⟩
      · rw [queue, list, List.filter_cons, if_pos (by rw [stays]; rfl)]
      · unfold PortState.RoomFor
        rw [ring, State.terminate_reservations_of_stays reason flight]
        exact room

/-! ## Grants -/

theorem ofZero_settled (step : OpStep) : step.settled.ofZero = step.ofZero := by cases step <;> rfl

theorem kind_of_begin {e : Engine} {kind : Kind} {profile : Profile} {step : OpStep}
    (now : (e.begin kind profile).step = some step) (zero : step.ofZero = true) : kind = .zero := by
  have first : (firstStep kind profile.method).ofZero = true := by
    simp only [Engine.begin, Engine.advance, Option.some.injEq] at now
    rw [← zero, ← now]
    split
    · exact (ofZero_settled _).symm
    · rfl
  cases kind with
  | zero => rfl
  | measure => cases method : profile.method <;> simp [firstStep, method, OpStep.ofZero] at first

/-- A grant of the monitor's: the entry that the flight finds is marked. -/
theorem State.grant_candidate {s : State} (entries : ∀ r ∈ s.monitor.queue, r.source = .monitor) {r : Request}
    (mem : r ∈ s.monitor.queue) : ∃ x ∈ s.monitor.queue, x.profile = r.profile ∧
      s.monitor.queue.find? (·.profile = r.profile) = some x ∧ s.grant (.monitor r.profile) = s.monitorGranted x := by
  cases found : s.monitor.queue.find? (·.profile = r.profile) with
  | none =>
    rw [List.find?_eq_none] at found
    exact absurd (decide_eq_true rfl) (found r mem)
  | some x =>
    have same : x.profile = r.profile := by simpa using List.find?_some found
    have there := List.mem_of_find?_eq_some found
    refine ⟨x, there, same, rfl, ?_⟩
    rw [← same]
    exact State.grant_monitor (by rw [same]; exact found) (entries x there)

/-- The room that an eligible head of a port with nothing reserved finds (R51, R111). -/
theorem State.room_of_serves {s : State} {p : Port} {r : Request} {rest : List Request} (serves : s.Serves p)
    (queue : (s.port p).queue = r :: rest) (unreserved : (s.port p).reservations = 0) :
    (r.run = .contiguous → r.count - r.delivered + (s.port p).ring.length ≤ 16 ∨ r.count - r.delivered = 0) ∧
      (r.run = .interleaved → (s.port p).ring.length < 16) := by
  obtain ⟨-, eligible⟩ := (State.headEligible_cons queue).1 serves.1
  obtain ⟨-, -, -, places⟩ := (s.eligible_iff _ r).1 eligible
  unfold PortState.freePlaces ringCapacity at places
  rw [unreserved] at places
  refine ⟨fun run => ?_, fun run => ?_⟩
  · have needed : r.places = r.count - r.delivered := by simp [Request.places, run, Request.owed]
    omega
  · have needed : r.places = 1 := by simp [Request.places, run]
    omega

theorem State.RoomLaw.grantPoint {s : State} (h : s.RoomLaw) (free : s.engine.inFlight = none) (boundary : Bool) :
    (s.grantPoint boundary).RoomLaw := by
  have elsewhere : ∀ p, s.engine.inFlight ≠ some (.port p) := fun p => by rw [free]; exact nofun
  have unreserved := h.unreserved_of_free elsewhere
  rcases State.grantPoint_outcome (fun q r mem => (h.requests q r mem).1) boundary with
    ⟨r, candidate, e⟩ | ⟨p, affine, r, rest, chosen, queue, e⟩ | ⟨-, ⟨-, e⟩ | ⟨-, e⟩⟩ <;> rw [e]
  · obtain ⟨mem, -⟩ := State.monitorCandidate_spec candidate
    obtain ⟨x, there, -, -, granted⟩ := State.grant_candidate h.entries mem
    rw [granted]
    have flies : (s.monitorGranted x).engine.inFlight = some (.monitor x.profile) := Engine.inFlight_begin _ _ _
    refine State.roomLaw_of_free (fun p => by rw [flies]; exact nofun) h.ring_le unreserved h.requests fun y mem => ?_
    simp only [State.monitorGranted, List.mem_map] at mem
    obtain ⟨z, mem, rfl⟩ := mem
    split <;> exact h.entries z mem
  · have engine := s.portPoint_engine p affine r rest
    have flies : (s.portPoint p affine r rest).engine.inFlight = some (.port p) := by
      rw [engine]; exact Engine.inFlight_begin _ _ _
    have self := s.portPoint_self p affine r rest
    have other : ∀ q, q ≠ p → _ := fun q ne => s.portPoint_other affine r rest ne
    have entries : (s.portPoint p affine r rest).monitor = s.monitor := by rw [s.portPoint_rest]
    obtain ⟨contiguous, interleaved⟩ := State.room_of_serves chosen.serves queue (unreserved p)
    have ring := h.ring_le p
    refine ⟨fun q => ?_, fun q x mem => ?_, by rw [entries]; exact h.entries, fun q elsewhere => ?_, fun q port => ?_⟩
    · by_cases same : q = p
      · subst same
        rw [self]
        dsimp only
        rw [unreserved q]
        split
        next run => have := contiguous run; omega
        · omega
      · rw [other q same]
        exact h.bound q
    · by_cases same : q = p
      · subst same
        rw [self] at mem
        rcases List.mem_cons.1 mem with rfl | mem
        · exact h.requests q r (by rw [queue]; exact List.mem_cons_self)
        · exact h.requests q x (by rw [queue]; exact List.mem_cons_of_mem _ mem)
      · rw [other q same] at mem
        exact h.requests q x mem
    · have ne : q ≠ p := fun same => elsewhere (by rw [flies, same])
      rw [other q ne]
      exact unreserved q
    · rw [flies] at port
      obtain rfl : p = q := by simpa using port
      refine ⟨{ r with state := .inFlight }, rest, by rw [self], rfl, fun step now zero => ?_, fun run => ?_, fun run => ?_⟩
      · rw [engine] at now
        exact kind_of_begin now zero
      · change r.run = .contiguous at run
        rw [self]
        dsimp only
        rw [unreserved p, if_pos run, Nat.zero_add]
      · change r.run = .interleaved at run
        rw [self]
        dsimp only
        rw [unreserved p, if_neg (by rw [run]; exact nofun)]
        exact ⟨rfl, interleaved run⟩
  · exact h.of_core (fun _ => rfl) h.entries rfl (fun step now zero => ⟨step, now, zero⟩) (fun _ => le_rfl) fun _ => rfl
  · have rest := s.refill_rest
    refine h.of_core (fun q => ?_) ?_ ?_ (fun step now zero => ⟨step, ?_, zero⟩) (fun q => ?_) fun q => ?_
    · change (s.refill.port q).queue = _
      rw [rest.2 q]
    · change ∀ r ∈ s.refill.monitor.queue, _
      rw [rest.1]
      exact h.entries
    · change s.refill.engine.inFlight = _
      rw [rest.1]
    · change s.refill.engine.step = _ at now
      rw [rest.1] at now
      exact now
    · change (s.refill.port q).ring.length ≤ _
      rw [rest.2 q]
    · change (s.refill.port q).reservations = _
      rw [rest.2 q]

/-! ## Entry to DOWN -/

theorem State.lawful_of_unmoved {a b : Request} (h : a.lawful) (run : b.run = a.run) (count : b.count = a.count)
    (delivered : b.delivered = a.delivered) (kind : b.kind = a.kind) (mark : b.finalMark = true → a.finalMark = true) :
    b.lawful := by
  obtain ⟨contiguous, zero, final⟩ := h
  refine ⟨?_, ?_, ?_⟩
  · rw [run, count, delivered]; exact contiguous
  · rw [run, count, kind]; exact zero
  · rw [count]; exact fun h => final (mark h)

theorem State.modFlight_requests {s : State} {f : Request → Request}
    (requests : ∀ p, ∀ r ∈ (s.port p).queue, r.source = .port p ∧ r.lawful)
    (kept : ∀ p r, r ∈ (s.port p).queue → s.flight = some r → (f r).source = .port p ∧ (f r).lawful) :
    ∀ p, ∀ r ∈ ((s.modFlight f).port p).queue, r.source = .port p ∧ r.lawful := by
  intro p r mem
  unfold State.modFlight at mem
  split at mem
  · exact requests p r mem
  next q inFlight =>
    rw [State.port_modPort] at mem
    split at mem
    next e =>
      subst e
      dsimp only at mem
      cases list : (s.port p).queue with
      | nil => rw [list] at mem; cases mem
      | cons head rest =>
        rw [list] at mem
        rcases List.mem_cons.1 mem with rfl | mem
        · exact kept p head (by rw [list]; exact List.mem_cons_self) (by rw [State.flight_port inFlight, list]; rfl)
        · exact requests p r (by rw [list]; exact List.mem_cons_of_mem _ mem)
    · exact requests p r mem
  · exact requests p r mem

theorem State.modFlight_entries {s : State} {f : Request → Request} (entries : ∀ r ∈ s.monitor.queue, r.source = .monitor)
    (kept : ∀ r, (f r).source = r.source) : ∀ r ∈ (s.modFlight f).monitor.queue, r.source = .monitor := by
  intro r mem
  unfold State.modFlight at mem
  split at mem
  · exact entries r mem
  · exact entries r mem
  · obtain ⟨x, there, rfl⟩ := List.mem_map.1 mem
    split
    · rw [kept]; exact entries x there
    · exact entries x there

theorem State.modFlight_ports (s : State) (f : Request → Request) (q : Port) :
    (s.modFlight f).port q = { s.port q with queue := ((s.modFlight f).port q).queue } := by
  unfold State.modFlight
  split
  · rfl
  · rw [State.port_modPort]
    split
    next e => subst e; rfl
    · rfl
  · rfl

theorem State.modSource_of_monitor {s : State} {r : Request} (source : r.source = .monitor) (f : PortState → PortState) :
    s.modSource r f = s := by
  simp only [State.modSource, source]

theorem State.modSource_port {s : State} {r : Request} {p : Port} (source : r.source = .port p) (f : PortState → PortState)
    (q : Port) : (s.modSource r f).port q = if q = p then f (s.port p) else s.port q := by
  simp only [State.modSource, source, State.port_modPort]

theorem State.flight_releaseReservation (s : State) (r : Request) : (s.releaseReservation r).flight = s.flight := by
  have queue : ∀ q, ((s.releaseReservation r).port q).queue = (s.port q).queue := fun q => s.abandon_queue r q
  have monitor : (s.releaseReservation r).monitor = s.monitor := s.abandon_monitor r
  have engine : (s.releaseReservation r).engine = s.engine := State.Converts.engine_modSource s r _
  simp only [State.flight, queue, monitor, engine]

/-- Giving the request in flight back frees every reservation. -/
theorem State.RoomLaw.giveBack {s : State} (h : s.RoomLaw) :
    (∀ p, ((s.giveBack.port p).ring = (s.port p).ring) ∧ (s.giveBack.port p).reservations = 0 ∧
      (s.giveBack.port p).credit = (s.port p).credit ∧ (s.giveBack.port p).weight = (s.port p).weight) ∧
    (∀ p, ∀ r ∈ (s.giveBack.port p).queue, r.source = .port p ∧ r.lawful) ∧
    ∀ r ∈ s.giveBack.monitor.queue, r.source = .monitor := by
  rcases s.giveBack_cases with ⟨none, e⟩ | ⟨r, flies, -, e⟩ | ⟨r, flies, -, e⟩ <;> rw [e]
  · refine ⟨fun p => ⟨rfl, h.unreserved p fun inFlight => ?_, rfl, rfl⟩, h.requests, h.entries⟩
    obtain ⟨r, rest, list, -⟩ := h.flying p inFlight
    rw [State.flight_port inFlight, list] at none
    cases none
  · have ended := h.terminate .retired (·.isInFlight)
    have work := s.portsWork_terminate .retired (·.isInFlight)
    simp only [State.port_refreshDemand, State.monitor_refreshDemand]
    refine ⟨fun p => ⟨work.ring p, ended.unreserved p fun inFlight => ?_, s.terminate_credit _ _ p, work.weight p⟩,
      ended.requests, ended.entries⟩
    obtain ⟨r, rest, list, state, -⟩ := ended.flying p inFlight
    have left : r ∈ ((s.terminate .retired (·.isInFlight)).port p).queue := by rw [list]; exact List.mem_cons_self
    rw [s.terminate_queue, List.mem_filter] at left
    rw [Request.queued_of_not_isInFlight left.2] at state
    cases state
  · have released : ∀ p, (s.releaseReservation r).port p =
        { s.port p with reservations := ((s.releaseReservation r).port p).reservations } := by
      intro p
      unfold State.releaseReservation State.modSource
      split
      · rw [State.port_modPort]
        split
        next e => subst e; rfl
        · rfl
      · rfl
    have ports : ∀ p, ((s.releaseReservation r).modFlight fun r => { r with state := .queued }).port p = _ :=
      fun p => (s.releaseReservation r).modFlight_ports _ p
    refine ⟨fun p => ?_, State.modFlight_requests (fun p x mem => ?_) fun p x mem _ => ?_,
      State.modFlight_entries ?_ fun _ => rfl⟩
    · rw [ports p]
      dsimp only
      have fields := released p
      refine ⟨by rw [fields], ?_, by rw [fields], by rw [fields]⟩
      rcases h.flight_cases flies with ⟨q, rest, inFlight, -, source, -, -, -, room⟩ | ⟨elsewhere, source⟩
      · have settled : ((s.releaseReservation r).port p).reservations =
            if p = q then (s.port q).reservations - r.reserves else (s.port p).reservations := by
          unfold State.releaseReservation
          rw [State.modSource_port source]
          split <;> rfl
        rw [settled]
        split
        · rw [room.reserves]; exact Nat.sub_self _
        next other => exact h.unreserved p (by rw [inFlight]; simpa using Ne.symm other)
      · unfold State.releaseReservation
        rw [State.modSource_of_monitor source]
        exact h.unreserved p (elsewhere p)
    · rw [released p] at mem
      exact h.requests p x mem
    · rw [released p] at mem
      obtain ⟨source, lawful⟩ := h.requests p x mem
      exact ⟨source, State.lawful_of_unmoved lawful rfl rfl rfl rfl id⟩
    · have monitor : (s.releaseReservation r).monitor = s.monitor := s.abandon_monitor r
      rw [monitor]
      exact h.entries

theorem State.enterDown_port (s : State) (q : Port) : s.enterDown.port q = (s.giveBack.port q).post (.engine .down) :=
  State.postAll_port _ _ _

theorem State.RoomLaw.enterDown {s : State} (h : s.RoomLaw) : s.enterDown.RoomLaw := by
  obtain ⟨queue, monitor, engine⟩ := s.enterDown_queues
  obtain ⟨ports, requests, entries⟩ := h.giveBack
  refine State.roomLaw_of_free (fun p => by rw [engine]; exact nofun) (fun p => ?_) (fun p => ?_) (fun p r mem => ?_)
    fun r mem => ?_
  · rw [s.enterDown_port, PortState.post_ring, (ports p).1]
    exact h.ring_le p
  · rw [s.enterDown_port, PortState.post_reservations]
    exact (ports p).2.1
  · rw [queue] at mem
    exact requests p r mem
  · rw [monitor] at mem
    exact entries r mem

/-! ## Results -/

theorem State.RoomLaw.finish {s : State} (ring : ∀ p, (s.port p).ring.length ≤ 16)
    (reservations : ∀ p, (s.port p).reservations = 0)
    (requests : ∀ p, ∀ r ∈ (s.port p).queue, r.source = .port p ∧ r.lawful)
    (entries : ∀ r ∈ s.monitor.queue, r.source = .monitor) : s.finish.RoomLaw := by
  refine State.roomLaw_of_free (fun p => by rw [s.finish_engine]; exact nofun)
    (fun p => by rw [s.portsWork_finish.ring]; exact ring p) (fun p => by rw [s.finish_reservations]; exact reservations p)
    (fun p r mem => ?_) fun r mem => ?_
  · rw [s.finish_queue] at mem
    exact requests p r (List.mem_of_mem_filter mem)
  · rw [s.finish_monitor] at mem
    exact entries r (List.mem_of_mem_filter mem)

/-- A request that owes results of a CONTIGUOUS run owes one at least, and its last one where it ends. -/
theorem Request.lawful.owes {r : Request} (h : r.lawful) (run : r.run = .contiguous) :
    1 ≤ r.count - r.delivered ∧ r.nextDelivered = r.delivered + 1 ∧
      (r.endsAt r.nextDelivered = true ↔ r.count - r.delivered = 1) := by
  obtain ⟨contiguous, -, final⟩ := h
  obtain ⟨less, -⟩ := contiguous run
  have counted : r.count ≠ 0 := by omega
  have unmarked : r.finalMark = false := by
    rw [← Bool.not_eq_true]
    exact fun mark => counted (final mark)
  refine ⟨by omega, ?_, ?_⟩
  · rw [r.nextDelivered_eq, Request.deliveredNext, if_neg counted]
  · rw [r.endsAt_eq, Request.lastNext, unmarked]
    simp only [Bool.false_or, Bool.and_eq_true, decide_eq_true_eq, ne_eq]
    omega

theorem Request.lawful.after {r : Request} (h : r.lawful) (value : Int) (goesOn : r.run = .contiguous →
    r.endsAt r.nextDelivered = false) : (r.after value).lawful := by
  have owes := h.owes
  obtain ⟨contiguous, zero, final⟩ := h
  refine ⟨fun run => ?_, zero, final⟩
  obtain ⟨least, next, last⟩ := owes run
  have more := mt last.2 (by rw [goesOn run]; exact nofun)
  obtain ⟨less, most⟩ := contiguous run
  refine ⟨?_, most⟩
  change r.nextDelivered < r.count
  omega

/-- What the room of a port becomes when its request in flight writes a result. -/
theorem State.room_written {s : State} (h : s.RoomLaw) {p : Port} {r : Request} (flies : s.engine.inFlight = some (.port p))
    (source : r.source = .port p) (lawful : r.lawful) (room : (s.port p).RoomFor r) (record : ResultRecord) (value : Int)
    (q : Port) : ((s.written r record value).port q).ring.length ≤ 16 ∧
      ((s.written r record value).port q).ring.length + ((s.written r record value).port q).reservations ≤ 16 ∧
      ((s.written r record value).port q).reservations =
        if q = p ∧ r.run = .contiguous then r.count - r.delivered - 1 else 0 := by
  obtain ⟨-, ring, reservations, -⟩ := s.written_port source record value q
  rw [ring, reservations, List.length_append]
  by_cases same : q = p
  · subst same
    have bound := h.bound q
    cases run : r.run with
    | contiguous =>
      have places := room.1 run
      have owes := (lawful.owes run).1
      simp only [if_true, List.length_singleton, and_self]
      omega
    | interleaved =>
      obtain ⟨none, free⟩ := room.2 run
      rw [none]
      simp
      omega
  · have none := h.unreserved q (by rw [flies]; simpa using Ne.symm same)
    have bound := h.ring_le q
    rw [none]
    simp [same, bound]

theorem State.written_of_monitor {s : State} {r : Request} (source : r.source = .monitor) (record : ResultRecord)
    (value : Int) : s.written r record value = s := by
  unfold State.written State.writeToRing State.postWindow
  rw [State.modSource_of_monitor source]
  simp only [source]

theorem State.RoomLaw.modFlight {s : State} (h : s.RoomLaw) {f : Request → Request}
    (kept : ∀ r, s.flight = some r → (f r).run = r.run ∧ (f r).count = r.count ∧ (f r).delivered = r.delivered ∧
      (f r).kind = r.kind ∧ (f r).state = r.state ∧ ((f r).finalMark = true → r.finalMark = true ∨ r.count = 0))
    (sources : ∀ r, (f r).source = r.source) : (s.modFlight f).RoomLaw := by
  have engine := s.engine_modFlight f
  have ports := s.modFlight_ports f
  have moved : ∀ r, s.flight = some r → r.lawful → (f r).lawful := by
    intro r flies lawful
    obtain ⟨run, count, delivered, kind, -, mark⟩ := kept r flies
    obtain ⟨contiguous, zero, final⟩ := lawful
    refine ⟨by rw [run, count, delivered]; exact contiguous, by rw [run, count, kind]; exact zero, fun h => ?_⟩
    rw [count]
    exact (mark h).elim final id
  refine ⟨fun p => ?_, State.modFlight_requests h.requests fun p r mem flies => ?_, State.modFlight_entries h.entries sources,
    fun p elsewhere => ?_, fun p flies => ?_⟩
  · rw [ports p]; exact h.bound p
  · obtain ⟨source, lawful⟩ := h.requests p r mem
    exact ⟨(sources r).trans source, moved r flies lawful⟩
  · rw [engine] at elsewhere
    rw [ports p]
    exact h.unreserved p elsewhere
  · rw [engine] at flies
    obtain ⟨r, rest, list, state, zero, room⟩ := h.flying p flies
    obtain ⟨run, count, delivered, kind, same, -⟩ := kept r (by rw [State.flight_port flies, list]; rfl)
    refine ⟨f r, rest, ?_, same.trans state, by rw [engine, kind]; exact zero, ?_⟩
    · simp only [State.modFlight, flies, State.port_modPort_self, list, modHead]
    · rw [ports p]
      unfold PortState.RoomFor
      rw [run, count, delivered]
      exact room

theorem State.RoomLaw.deliver {s : State} (h : s.RoomLaw) {r : Request} (flies : s.flight = some r) (formed : Formed) :
    (s.deliver r formed).RoomLaw := by
  obtain ⟨record, value, e⟩ := s.deliver_eq r formed
  obtain ⟨engine, monitor, profile, queue⟩ := s.written_rest r record value
  have requests : ∀ p, ∀ x ∈ ((s.written r record value).port p).queue, x.source = .port p ∧ x.lawful :=
    fun p x mem => h.requests p x (by rw [← queue p]; exact mem)
  have entries : ∀ x ∈ (s.written r record value).monitor.queue, x.source = .monitor := by
    rw [monitor]; exact h.entries
  rw [e]
  rcases h.flight_cases flies with ⟨p, rest, inFlight, list, source, lawful, state, zero, room⟩ | ⟨elsewhere, source⟩
  · have wrote := State.room_written h inFlight source lawful room record value
    rcases (s.written r record value).endTurn_cases r value with ⟨ends, e⟩ | ⟨goesOn, run, e⟩ | ⟨goesOn, run, e⟩ <;> rw [e]
    · refine State.RoomLaw.finish (fun q => (wrote q).1) (fun q => ?_) requests entries
      rw [(wrote q).2.2]
      split
      next both =>
        have last := (lawful.owes both.2).2.2.1 ends
        omega
      · rfl
    · have rotated : (s.written r record value).rotateFlight r (fun q => { q.after value with state := .queued }) =
          ((s.written r record value).modPort p fun ps =>
            { ps with queue := rotate (fun q => { q.after value with state := .queued }) ps.queue }).modEngine (·.noFlight) := by
        simp only [State.rotateFlight, State.modSource, source]
      rw [rotated]
      refine State.roomLaw_of_free (fun q => nofun) (fun q => ?_) (fun q => ?_) (fun q x mem => ?_) entries
      · rw [State.modEngine_port, State.port_modPort]
        split
        next e => subst e; exact (wrote q).1
        · exact (wrote q).1
      · have none := (wrote q).2.2
        rw [run, if_neg (by simp)] at none
        rw [State.modEngine_port, State.port_modPort]
        split
        next e => subst e; exact none
        · exact none
      · rw [State.modEngine_port, State.port_modPort] at mem
        split at mem
        next e =>
          subst e
          simp only [queue, list, rotate, List.mem_append, List.mem_singleton] at mem
          rcases mem with mem | rfl
          · exact h.requests q x (by rw [list]; exact List.mem_cons_of_mem _ mem)
          · refine ⟨source, State.lawful_of_unmoved (lawful.after value fun c => ?_) rfl rfl rfl rfl id⟩
            rw [run] at c
            cases c
        · exact requests q x mem
    · have flown : (s.written r record value).engine.inFlight = some (.port p) := by rw [engine]; exact inFlight
      have ports := (s.written r record value).modFlight_ports (·.after value)
      refine ⟨fun q => ?_, State.modFlight_requests requests fun q x mem flying => ?_,
        State.modFlight_entries entries fun _ => rfl, fun q elsewhere => ?_, fun q port => ?_⟩
      · change (((s.written r record value).modFlight (·.after value)).port q).ring.length +
          (((s.written r record value).modFlight (·.after value)).port q).reservations ≤ 16
        rw [ports q]
        exact (wrote q).2.1
      · have same : x = r := by
          rw [State.flight_port flown, queue, list] at flying
          exact (Option.some.inj flying).symm
        subst same
        exact ⟨(requests q x mem).1, lawful.after value fun _ => goesOn⟩
      · have ne : q ≠ p := by
          rintro rfl
          refine elsewhere ?_
          change (Engine.begin _ _ _).inFlight = _
          rw [Engine.inFlight_begin, State.engine_modFlight]
          exact flown
        change (((s.written r record value).modFlight (·.after value)).port q).reservations = 0
        rw [ports q]
        have none := (wrote q).2.2
        rw [if_neg fun both => ne both.1] at none
        exact none
      · have same : p = q := by
          change (Engine.begin _ _ _).inFlight = _ at port
          rw [Engine.inFlight_begin, State.engine_modFlight, flown] at port
          simpa using port
        subst same
        refine ⟨r.after value, rest, ?_, state, fun step now ofZero => kind_of_begin now ofZero, fun _ => ?_, fun other => ?_⟩
        · change (((s.written r record value).modFlight (·.after value)).port p).queue = _
          simp only [State.modFlight, flown, State.port_modPort_self, queue, list, modHead]
        · change (((s.written r record value).modFlight (·.after value)).port p).reservations = r.count - r.nextDelivered
          rw [ports p]
          have left := (wrote p).2.2
          rw [if_pos ⟨rfl, run⟩] at left
          have next := (lawful.owes run).2.1
          change ((s.written r record value).port p).reservations = _
          omega
        · change r.run = .interleaved at other
          rw [run] at other
          cases other
  · rw [State.written_of_monitor source]
    have unreserved := h.unreserved_of_free elsewhere
    rcases s.endTurn_cases r value with ⟨-, e⟩ | ⟨-, -, e⟩ | ⟨-, -, e⟩ <;> rw [e]
    · exact State.RoomLaw.finish h.ring_le unreserved h.requests h.entries
    · have rotated : s.rotateFlight r (fun q => { q.after value with state := .queued }) = s.modEngine (·.noFlight) := by
        unfold State.rotateFlight
        rw [State.modSource_of_monitor source]
      rw [rotated]
      exact State.roomLaw_of_free (fun q => nofun) h.ring_le unreserved h.requests h.entries
    · have ports := s.modFlight_ports (·.after value)
      have free : ∀ q, ((s.modFlight (·.after value)).beginOperation r).engine.inFlight ≠ some (.port q) := by
        intro q
        change (Engine.begin _ _ _).inFlight ≠ _
        rw [Engine.inFlight_begin, State.engine_modFlight]
        exact elsewhere q
      refine State.roomLaw_of_free free (fun q => ?_) (fun q => ?_) (State.modFlight_requests h.requests fun q x mem flying => ?_)
        (State.modFlight_entries h.entries fun _ => rfl)
      · change ((s.modFlight (·.after value)).port q).ring.length ≤ 16
        rw [ports q]
        exact h.ring_le q
      · change ((s.modFlight (·.after value)).port q).reservations = 0
        rw [ports q]
        exact unreserved q
      · rw [flying] at flies
        obtain rfl := Option.some.inj flies
        have fromPort := (h.requests q x mem).1
        rw [source] at fromPort
        cases fromPort

theorem State.RoomLaw.completeZero {s : State} (h : s.RoomLaw) {r : Request} (flies : s.flight = some r)
    (now : s.engine.step = some .zeroAveraging) (value : Int) (overload : Bool) : (s.completeZero r value overload).RoomLaw := by
  let flags : ResultFlags := { ResultFlags.clear with last := true, overrange := overload, zero := true }
  let wrote := s.writeToRing r (r.resultRecord 1 flags value)
  have recorded : ∀ q, ((wrote.writeRecord r value).port q).queue = (wrote.port q).queue ∧
      ((wrote.writeRecord r value).port q).ring = (wrote.port q).ring ∧
      ((wrote.writeRecord r value).port q).reservations = (wrote.port q).reservations := by
    intro q
    have posted := State.noticesOnly_postOwner
      (wrote.modProfile r.profile fun profile => { profile with record := some (wrote.monitor.freshRecord value) })
      (wrote.profile r.profile).owner (.offsetUpdated r.profile r.source)
    have fields := posted.ports q
    unfold State.writeRecord
    rw [fields]
    exact ⟨rfl, rfl, rfl⟩
  have monitor : (wrote.writeRecord r value).monitor = s.monitor := by
    have posted := State.noticesOnly_postOwner
      (wrote.modProfile r.profile fun profile => { profile with record := some (wrote.monitor.freshRecord value) })
      (wrote.profile r.profile).owner (.offsetUpdated r.profile r.source)
    refine posted.monitor.trans ?_
    change (s.modSource r _).monitor = _
    unfold State.modSource
    split <;> rfl
  rcases h.flight_cases flies with ⟨p, rest, inFlight, list, source, lawful, state, zero, room⟩ | ⟨elsewhere, source⟩
  · obtain ⟨run, one⟩ := lawful.2.1 (zero _ now rfl)
    have owes := lawful.1 run
    have places := room.1 run
    have port : ∀ q, wrote.port q =
        if q = p then ((s.port p).writeResult (r.run = .contiguous) (r.resultRecord 1 flags value)).charge else s.port q :=
      State.modSource_port source _
    obtain ⟨ring, -, reservations, queue, -, -⟩ :=
      (s.port p).writeResult_parts (r.run = .contiguous) (r.resultRecord 1 flags value)
    have bound := h.bound p
    refine State.RoomLaw.finish (fun q => ?_) (fun q => ?_) (fun q x mem => ?_) (by rw [monitor]; exact h.entries)
    · rw [(recorded q).2.1, port q]
      split
      · change ((s.port p).writeResult _ _).ring.length ≤ 16
        rw [ring, List.length_append, List.length_singleton]
        omega
      · exact h.ring_le q
    · rw [(recorded q).2.2, port q]
      split
      · change ((s.port p).writeResult _ _).reservations = 0
        rw [reservations, if_pos (by simpa using run)]
        omega
      next other => exact h.unreserved q (by rw [inFlight]; simpa using Ne.symm other)
    · rw [(recorded q).1, port q] at mem
      split at mem
      next e =>
        subst e
        change x ∈ ((s.port q).writeResult _ _).queue at mem
        rw [queue] at mem
        exact h.requests q x mem
      · exact h.requests q x mem
  · have same : wrote = s := State.modSource_of_monitor source _
    refine State.RoomLaw.finish (fun q => ?_) (fun q => ?_) (fun q x mem => ?_) (by rw [monitor]; exact h.entries)
    · rw [(recorded q).2.1, same]; exact h.ring_le q
    · rw [(recorded q).2.2, same]; exact h.unreserved q (elsewhere q)
    · rw [(recorded q).1, same] at mem
      exact h.requests q x mem

/-! ## The law of ring places through the converter's work -/

theorem newRequest_lawful {p : Port} {tag : Byte} {w : Submission} (allowed : w.allowed = true) : (newRequest p tag w).lawful := by
  simp only [Submission.allowed, Bool.and_eq_true, Bool.or_eq_true, decide_eq_true_eq] at allowed
  obtain ⟨⟨most, counted⟩, zero⟩ := allowed
  refine ⟨fun run => ⟨?_, most⟩, fun kind => ?_, nofun⟩
  · change w.run = .contiguous at run
    change 0 < w.count
    rcases counted with counted | counted
    · exact Nat.pos_of_ne_zero counted
    · rw [run] at counted; cases counted.1
  · change w.kind = .zero at kind
    obtain one := zero.resolve_left fun h => h kind
    exact ⟨one.1.2, one.1.1⟩

theorem State.queue_enqueue (s : State) (p : Port) (r : Request) (q : Port) :
    (s.enqueue p r).port q = { s.port q with
      used := if q = p then (s.port q).used + 1 else (s.port q).used
      queue := (s.port q).queue ++ if q = p then [r] else [] } := by
  change (s.modPort p fun ps => { ps with used := ps.used + 1, queue := ps.queue ++ [r] }).port q = _
  rw [State.port_modPort]
  split
  next e => subst e; rfl
  · rw [List.append_nil]

theorem State.RoomLaw.place {s : State} (h : s.RoomLaw) (n : Fin 32) (kind : Kind) : (s.place n kind).RoomLaw := by
  refine h.of_core (fun _ => rfl) (fun r mem => ?_) rfl (fun step now zero => ⟨step, now, zero⟩) (fun _ => le_rfl) fun _ => rfl
  change r ∈ s.monitor.queue ++ [monitorEntry n kind] at mem
  rcases List.mem_append.1 mem with mem | mem
  · exact h.entries r mem
  · rw [List.mem_singleton.1 mem]; rfl

theorem State.RoomLaw.enqueue {s : State} (h : s.RoomLaw) {p : Port} {r : Request} (source : r.source = .port p)
    (lawful : r.lawful) : (s.enqueue p r).RoomLaw := by
  have port := s.queue_enqueue p r
  refine ⟨fun q => by rw [port q]; exact h.bound q, fun q x mem => ?_, h.entries, fun q elsewhere => ?_, fun q flies => ?_⟩
  · rw [port q] at mem
    rcases List.mem_append.1 mem with mem | mem
    · exact h.requests q x mem
    · split at mem
      next e =>
        rw [List.mem_singleton.1 mem, e]
        exact ⟨source, lawful⟩
      · cases mem
  · rw [port q]; exact h.unreserved q elsewhere
  · obtain ⟨x, rest, list, state, zero, room⟩ := h.flying q flies
    refine ⟨x, rest ++ if q = p then [r] else [], by rw [port q, list]; rfl, state, zero, by rw [port q]; exact room⟩

/-- A port's own requests alone are in flight from it; a reset that ends them all leaves none. -/
theorem State.RoomLaw.resets {s : State} (h : s.RoomLaw) (p : Port) :
    ((s.terminate .portReset (Request.isFrom p)).modPort p (·.cleared)).RoomLaw ∧
      (s.terminate .portReset (Request.isFrom p)).engine.inFlight ≠ some (.port p) := by
  have ended := h.terminate .portReset (Request.isFrom p)
  have elsewhere : (s.terminate .portReset (Request.isFrom p)).engine.inFlight ≠ some (.port p) := by
    intro flies
    obtain ⟨r, rest, list, -⟩ := ended.flying p flies
    have left : r ∈ ((s.terminate .portReset (Request.isFrom p)).port p).queue := by rw [list]; exact List.mem_cons_self
    have source := (ended.requests p r left).1
    rw [s.terminate_queue, List.mem_filter] at left
    simp [Request.isFrom, source] at left
  have port : ∀ q, ((s.terminate .portReset (Request.isFrom p)).modPort p (·.cleared)).port q =
      if q = p then ((s.terminate .portReset (Request.isFrom p)).port p).cleared
      else (s.terminate .portReset (Request.isFrom p)).port q := fun q => State.port_modPort _ _ _ _
  refine ⟨⟨fun q => ?_, fun q r mem => ?_, ended.entries, fun q free => ?_, fun q flies => ?_⟩, elsewhere⟩
  · rw [port q]
    split
    · exact Nat.zero_le 16
    · exact ended.bound q
  · rw [port q] at mem
    split at mem
    next e => subst e; exact ended.requests q r mem
    · exact ended.requests q r mem
  · rw [port q]
    split
    · rfl
    · exact ended.unreserved q free
  · have ne : q ≠ p := fun same => elsewhere (same ▸ flies)
    rw [port q, if_neg ne]
    exact ended.flying q flies

theorem State.RoomLaw.step {s t : State} (w : WorkStep s t) (h : s.RoomLaw) : t.RoomLaw := by
  cases w with
  | stands stand =>
    exact h.of_core stand.queue (by rw [stand.monitor]; exact h.entries) stand.flight stand.step stand.ring stand.reservations
  | terminates reason ends => exact h.terminate reason ends
  | marks n =>
    unfold State.markFinal
    split
    next continuous =>
      refine h.modFlight (fun r flies => ⟨rfl, rfl, rfl, rfl, rfl, fun _ => .inr ?_⟩) fun _ => rfl
      rw [State.flightIsContinuous, flies] at continuous
      simp only [Option.any_some, Bool.and_eq_true, Request.continuous, decide_eq_true_eq] at continuous
      exact continuous.2
    · exact h
  | resets p => exact (h.resets p).1
  | weighs q w =>
    have port : ∀ x, ((s.modPort q (·.withWeight w)).port x).queue = (s.port x).queue ∧
        ((s.modPort q (·.withWeight w)).port x).ring = (s.port x).ring ∧
        ((s.modPort q (·.withWeight w)).port x).reservations = (s.port x).reservations := by
      intro x
      rw [State.port_modPort]
      split
      next e => subst e; exact ⟨rfl, rfl, rfl⟩
      · exact ⟨rfl, rfl, rfl⟩
    exact h.of_core (fun x => (port x).1) h.entries rfl (fun step now zero => ⟨step, now, zero⟩)
      (fun x => by rw [(port x).2.1]) fun x => (port x).2.2
  | enqueues p tag w allowed => exact h.enqueue rfl (newRequest_lawful allowed)
  | samples | zeros => exact h.place _ _
  | grants boundary free => exact h.grantPoint free boundary
  | downs => exact h.enterDown
  | delivers r formed flies => exact h.deliver flies formed
  | completes r value overload flies now => exact h.completeZero flies now value overload
  | sampled foreign =>
    have free : ∀ p, s.engine.inFlight ≠ some (.port p) := by
      intro p flies
      obtain ⟨r, mem, source⟩ := foreign p flies
      rw [(h.requests p r mem).1] at source
      cases source
    exact State.RoomLaw.finish h.ring_le (h.unreserved_of_free free) h.requests h.entries

theorem State.RoomLaw.sameCore {s t : State} (same : s.SameCore t) (h : s.RoomLaw) : t.RoomLaw :=
  State.RoomLaw.step (.stands same.workStands) h

theorem State.RoomLaw.resetWith (straps : Straps) : (State.resetWith straps).RoomLaw := by
  refine State.roomLaw_of_free (fun p => nofun) (fun p => ?_) (fun p => ?_)
    (fun p r mem => absurd mem (State.mem_resetWith.2 p)) fun r mem => absurd mem State.mem_resetWith.1
  · rw [State.port_resetWith]; exact Nat.zero_le 16
  · rw [State.port_resetWith]; rfl

/-! ## Credits (R49, R61) -/

/-- `State.CreditsLawful`, with its clauses named. -/
structure State.CreditLaw (s : State) : Prop where
  sound : ∀ p, (s.port p).CreditSound
  pays : ∀ p r rest, s.engine.inFlight = some (.port p) → (s.port p).queue = r :: rest → (s.port p).Pays r

theorem State.creditLaw_iff (s : State) : s.CreditsLawful ↔ s.CreditLaw :=
  s.creditsLawful_iff.trans ⟨fun ⟨a, b⟩ => ⟨a, b⟩, fun ⟨a, b⟩ => ⟨a, b⟩⟩

theorem PortState.CreditSound.of_same {a b : PortState} (h : a.CreditSound) (credit : b.credit = a.credit)
    (weight : b.weight = a.weight) : b.CreditSound := by
  unfold PortState.CreditSound
  rw [credit, weight]
  exact h

theorem PortState.Pays.of_same {a b : PortState} {r x : Request} (h : a.Pays r) (credit : b.credit = a.credit)
    (run : x.run = r.run) (owes : x.count - x.delivered = r.count - r.delivered) : b.Pays x := by
  unfold PortState.Pays
  rw [credit, run, owes]
  exact h

/-- A request that a grant or a reset of the credit takes up is paid for by a credit above 0. -/
theorem PortState.pays_of_credit {ps : PortState} {r : Request} (credit : 1 ≤ ps.credit) (lawful : r.lawful) : ps.Pays r := by
  refine ⟨fun run => ?_, fun _ => credit⟩
  have := (lawful.1 run).2
  omega

theorem State.creditLaw_of_free {s : State} (free : ∀ p, s.engine.inFlight ≠ some (.port p))
    (sound : ∀ p, (s.port p).CreditSound) : s.CreditLaw :=
  ⟨sound, fun p _ _ flies => absurd flies (free p)⟩

namespace State.CreditLaw

variable {s t : State} (c : s.CreditLaw)
include c

/-- The law over heads that owe what they owed. -/
theorem of_heads (room : s.RoomLaw) (credit : ∀ q, (t.port q).credit = (s.port q).credit ∧ (t.port q).weight = (s.port q).weight)
    (flight : ∀ p, t.engine.inFlight = some (.port p) → s.engine.inFlight = some (.port p))
    (heads : ∀ p r rest, s.engine.inFlight = some (.port p) → (s.port p).queue = r :: rest →
      t.engine.inFlight = some (.port p) → ∃ x later, (t.port p).queue = x :: later ∧ x.run = r.run ∧
        x.count - x.delivered = r.count - r.delivered) : t.CreditLaw := by
  refine ⟨fun p => (c.sound p).of_same (credit p).1 (credit p).2, fun p x later flies queue => ?_⟩
  obtain ⟨r, rest, list, -⟩ := room.flying p (flight p flies)
  obtain ⟨y, after, now, run, owes⟩ := heads p r rest (flight p flies) list flies
  rw [queue] at now
  obtain ⟨rfl, -⟩ := List.cons.inj now
  exact (c.pays p r rest (flight p flies) list).of_same (credit p).1 run owes

theorem of_same (room : s.RoomLaw) (queue : ∀ q, (t.port q).queue = (s.port q).queue)
    (credit : ∀ q, (t.port q).credit = (s.port q).credit ∧ (t.port q).weight = (s.port q).weight)
    (flight : t.engine.inFlight = s.engine.inFlight) : t.CreditLaw :=
  c.of_heads room credit (fun p flies => by rw [← flight]; exact flies)
    fun p r rest _ list _ => ⟨r, rest, by rw [queue p, list], rfl, rfl⟩

theorem terminate (room : s.RoomLaw) (reason : Reason) (ends : Request → Bool) : (s.terminate reason ends).CreditLaw := by
  have engine := s.terminate_engine reason ends
  have credit := fun q => And.intro (s.terminate_credit reason ends q) ((s.portsWork_terminate reason ends).weight q)
  by_cases flight : s.flightEnds ends = true
  · rw [if_pos flight] at engine
    exact State.creditLaw_of_free (fun p => by rw [engine]; exact nofun)
      fun p => (c.sound p).of_same (credit p).1 (credit p).2
  · rw [if_neg flight] at engine
    refine c.of_heads room credit (fun p flies => by rw [← engine]; exact flies) fun p r rest flies list _ => ?_
    have stays : ends r = false :=
      State.flight_none_of_flightEnds flight (by rw [State.flight_port flies, list]; rfl)
    refine ⟨r, rest.filter (!ends ·), ?_, rfl, rfl⟩
    rw [s.terminate_queue, list, List.filter_cons, if_pos (by rw [stays]; rfl)]

theorem modFlight (room : s.RoomLaw) {f : Request → Request}
    (kept : ∀ r, (f r).run = r.run ∧ (f r).count = r.count ∧ (f r).delivered = r.delivered) : (s.modFlight f).CreditLaw := by
  have engine := s.engine_modFlight f
  refine c.of_heads room (fun q => by rw [s.modFlight_ports f q]; exact ⟨rfl, rfl⟩) (fun p flies => by rw [← engine]; exact flies)
    fun p r rest flies list _ => ⟨f r, rest, ?_, (kept r).1, by rw [(kept r).2.1, (kept r).2.2]⟩
  simp only [State.modFlight, flies, State.port_modPort_self, list, modHead]

/-- A refill raises credits within their bounds. -/
theorem sound_refill (p : Port) : ({ s.port p with credit := (s.refill.port p).credit } : PortState).CreditSound := by
  obtain ⟨low, -, least, most⟩ := c.sound p
  obtain ⟨raised, capped⟩ := State.refill_bounded (fun q => (c.sound q).2.1) p
  exact ⟨le_trans low raised, capped, least, most⟩

theorem grantPoint (room : s.RoomLaw) (free : s.engine.inFlight = none) (boundary : Bool) : (s.grantPoint boundary).CreditLaw := by
  rcases State.grantPoint_outcome (fun q r mem => (room.requests q r mem).1) boundary with
    ⟨r, candidate, e⟩ | ⟨p, affine, r, rest, chosen, queue, e⟩ | ⟨-, ⟨-, e⟩ | ⟨-, e⟩⟩ <;> rw [e]
  · obtain ⟨mem, -⟩ := State.monitorCandidate_spec candidate
    obtain ⟨x, there, -, -, granted⟩ := State.grant_candidate room.entries mem
    rw [granted]
    have flies : (s.monitorGranted x).engine.inFlight = some (.monitor x.profile) := Engine.inFlight_begin _ _ _
    exact State.creditLaw_of_free (fun p => by rw [flies]; exact nofun) c.sound
  · have self := s.portPoint_self p affine r rest
    have flies : (s.portPoint p affine r rest).engine.inFlight = some (.port p) := by
      rw [s.portPoint_engine]; exact Engine.inFlight_begin _ _ _
    refine ⟨fun q => ?_, fun q x later port list => ?_⟩
    · by_cases same : q = p
      · subst same
        exact (c.sound_refill q).of_same (by rw [self]) (by rw [self])
      · rw [s.portPoint_other affine r rest same]
        exact c.sound_refill q
    · obtain rfl : p = q := by rw [flies] at port; simpa using port
      rw [self] at list
      obtain ⟨rfl, -⟩ := List.cons.inj list
      refine PortState.pays_of_credit (by rw [self]; exact chosen.serves.2) ?_
      exact State.lawful_of_unmoved (room.requests p r (by rw [queue]; exact List.mem_cons_self)).2 rfl rfl rfl rfl id
  · exact State.creditLaw_of_free (fun p => by change s.engine.inFlight ≠ _; rw [free]; exact nofun) c.sound
  · have rest := s.refill_rest
    refine State.creditLaw_of_free (fun p => ?_) fun p => ?_
    · change s.refill.engine.inFlight ≠ _
      rw [rest.1]
      change s.engine.inFlight ≠ _
      rw [free]
      exact nofun
    · change (s.refill.port p).CreditSound
      rw [rest.2 p]
      exact c.sound_refill p

theorem enterDown (room : s.RoomLaw) : s.enterDown.CreditLaw := by
  obtain ⟨-, -, engine⟩ := s.enterDown_queues
  obtain ⟨ports, -⟩ := room.giveBack
  refine State.creditLaw_of_free (fun p => by rw [engine]; exact nofun) fun p => ?_
  rw [s.enterDown_port]
  refine (c.sound p).of_same ?_ ?_
  · rw [PortState.post_credit]; exact (ports p).2.2.1
  · rw [PortState.post_weight]; exact (ports p).2.2.2

omit c in
theorem finish (sound : ∀ p, (t.port p).CreditSound) : t.finish.CreditLaw :=
  State.creditLaw_of_free (fun p => by rw [t.finish_engine]; exact nofun)
    fun p => (sound p).of_same (t.finish_credit p) (t.portsWork_finish.weight p)

omit c in
/-- The port whose request is in flight can pay for one more result. -/
theorem pays_one {ps : PortState} {r : Request} (pays : ps.Pays r) (lawful : r.lawful) :
    -15 ≤ ps.credit - 1 := by
  obtain ⟨contiguous, interleaved⟩ := pays
  cases run : r.run with
  | contiguous =>
    have := contiguous run
    have := (lawful.owes run).1
    omega
  | interleaved =>
    have := interleaved run
    omega

theorem sound_written (room : s.RoomLaw) {r : Request} (flies : s.flight = some r) (record : ResultRecord) (value : Int)
    (q : Port) : ((s.written r record value).port q).CreditSound := by
  rcases room.flight_cases flies with ⟨p, rest, inFlight, list, source, lawful, -⟩ | ⟨-, source⟩
  · obtain ⟨-, -, -, credit, weight⟩ := s.written_port source record value q
    by_cases same : q = p
    · subst same
      obtain ⟨low, high, least, most⟩ := c.sound q
      have one := pays_one (c.pays q r rest inFlight list) lawful
      rw [if_pos rfl] at credit
      unfold PortState.CreditSound
      rw [credit, weight]
      exact ⟨one, by omega, least, most⟩
    · rw [if_neg same, Int.sub_zero] at credit
      exact (c.sound q).of_same credit weight
  · rw [State.written_of_monitor source]
    exact c.sound q

theorem deliver (room : s.RoomLaw) {r : Request} (flies : s.flight = some r) (formed : Formed) :
    (s.deliver r formed).CreditLaw := by
  obtain ⟨record, value, e⟩ := s.deliver_eq r formed
  obtain ⟨engine, -, -, queue⟩ := s.written_rest r record value
  have sound := c.sound_written room flies record value
  rw [e]
  rcases (s.written r record value).endTurn_cases r value with ⟨-, e⟩ | ⟨-, -, e⟩ | ⟨-, run, e⟩ <;> rw [e]
  · exact State.CreditLaw.finish sound
  · refine State.creditLaw_of_free (fun p => nofun) fun p => ?_
    unfold State.rotateFlight State.modSource
    split
    · rw [State.modEngine_port, State.port_modPort]
      split
      next e => subst e; exact sound _
      · exact sound p
    · exact sound p
  · have ports := (s.written r record value).modFlight_ports (·.after value)
    have moved : ((s.written r record value).modFlight (·.after value)).engine.inFlight = s.engine.inFlight := by
      rw [State.engine_modFlight, engine]
    refine ⟨fun p => ?_, fun p x later port list => ?_⟩
    · change (((s.written r record value).modFlight (·.after value)).port p).CreditSound
      rw [ports p]
      exact sound p
    · change (Engine.begin _ _ _).inFlight = _ at port
      rw [Engine.inFlight_begin, moved] at port
      change (((s.written r record value).modFlight (·.after value)).port p).queue = _ at list
      rcases room.flight_cases flies with ⟨q, rest, inFlight, line, source, lawful, -⟩ | ⟨elsewhere, -⟩
      · obtain rfl : q = p := by rw [inFlight] at port; simpa using port
        have flown : (s.written r record value).engine.inFlight = some (.port q) := by rw [engine]; exact inFlight
        simp only [State.modFlight, flown, State.port_modPort_self, queue, line, modHead] at list
        obtain ⟨rfl, -⟩ := List.cons.inj list
        have paid := c.pays q r rest inFlight line
        obtain ⟨-, -, -, credit, -⟩ := s.written_port source record value q
        have next := (lawful.owes run).2.1
        refine ⟨fun _ => ?_, fun other => ?_⟩
        · change _ ≤ (((s.written r record value).modFlight (·.after value)).port q).credit
          rw [ports q]
          change ((r.count - r.nextDelivered : Nat) : Int) - 15 ≤ ((s.written r record value).port q).credit
          rw [credit, if_pos rfl, next]
          have := paid.1 run
          have := (lawful.owes run).1
          omega
        · change r.run = .interleaved at other
          rw [run] at other
          cases other
      · exact absurd port (elsewhere p)

theorem completeZero (room : s.RoomLaw) {r : Request} (flies : s.flight = some r) (value : Int) (overload : Bool) :
    (s.completeZero r value overload).CreditLaw := by
  let flags : ResultFlags := { ResultFlags.clear with last := true, overrange := overload, zero := true }
  refine State.CreditLaw.finish fun q => ?_
  have posted := State.noticesOnly_postOwner
    ((s.writeToRing r (r.resultRecord 1 flags value)).modProfile r.profile fun profile =>
      { profile with record := some ((s.writeToRing r (r.resultRecord 1 flags value)).monitor.freshRecord value) })
    ((s.writeToRing r (r.resultRecord 1 flags value)).profile r.profile).owner (.offsetUpdated r.profile r.source)
  have windowed := (s.writeToRing r (r.resultRecord 1 flags value)).noticesOnly_postWindow r value
  have sound := c.sound_written room flies (r.resultRecord 1 flags value) value q
  have same : (s.written r (r.resultRecord 1 flags value) value).port q = _ := windowed.ports q
  rw [same] at sound
  change (State.port (State.postOwner _ _ _) q).CreditSound
  rw [posted.ports q]
  exact sound

theorem step (room : s.RoomLaw) (w : WorkStep s t) : t.CreditLaw := by
  cases w with
  | stands stand => exact c.of_same room stand.queue stand.credit stand.flight
  | terminates reason ends => exact c.terminate room reason ends
  | marks n =>
    unfold State.markFinal
    split
    · exact c.modFlight room fun _ => ⟨rfl, rfl, rfl⟩
    · exact c
  | resets p =>
    have ended := c.terminate room .portReset (Request.isFrom p)
    have elsewhere := (room.resets p).2
    have port : ∀ q, ((s.terminate .portReset (Request.isFrom p)).modPort p (·.cleared)).port q =
        if q = p then ((s.terminate .portReset (Request.isFrom p)).port p).cleared
        else (s.terminate .portReset (Request.isFrom p)).port q := fun q => State.port_modPort _ _ _ _
    refine ⟨fun q => ?_, fun q r rest flies list => ?_⟩
    · rw [port q]
      split
      · obtain ⟨-, -, least, most⟩ := ended.sound p
        refine ⟨?_, le_rfl, least, most⟩
        change -15 ≤ (((s.terminate .portReset (Request.isFrom p)).port p).weight : Int)
        omega
      · exact ended.sound q
    · have ne : q ≠ p := fun same => elsewhere (same ▸ flies)
      rw [port q, if_neg ne] at list ⊢
      exact ended.pays q r rest flies list
  | weighs q w least most =>
    have port : ∀ x, (s.modPort q (·.withWeight w)).port x = if x = q then (s.port q).withWeight w else s.port x :=
      fun x => State.port_modPort _ _ _ _
    refine ⟨fun x => ?_, fun x r rest flies list => ?_⟩
    · rw [port x]
      split
      · obtain ⟨low, -, -, -⟩ := c.sound q
        refine ⟨?_, min_le_right _ _, least, most⟩
        change -15 ≤ min (s.port q).credit (w : Int)
        omega
      · exact c.sound x
    · rw [port x] at list ⊢
      split at list
      next e =>
        subst e
        rw [if_pos rfl]
        obtain ⟨contiguous, interleaved⟩ := c.pays x r rest flies list
        have lawful := (room.requests x r (by rw [show (s.port x).queue = r :: rest from list]; exact List.mem_cons_self)).2
        refine ⟨fun run => ?_, fun run => ?_⟩
        · change _ ≤ min (s.port x).credit (w : Int)
          have := contiguous run
          have := (lawful.1 run).2
          omega
        · change 1 ≤ min (s.port x).credit (w : Int)
          have := interleaved run
          omega
      next other =>
        rw [if_neg other]
        exact c.pays x r rest flies list
  | enqueues p tag w =>
    have port := s.queue_enqueue p (newRequest p tag w)
    refine c.of_heads room (fun q => by rw [port q]; exact ⟨rfl, rfl⟩) (fun p flies => flies) fun q r rest _ list _ => ?_
    exact ⟨r, rest ++ if q = p then [newRequest p tag w] else [], by rw [port q, list]; rfl, rfl, rfl⟩
  | samples | zeros => exact c.of_same room (fun _ => rfl) (fun _ => ⟨rfl, rfl⟩) rfl
  | grants boundary free => exact c.grantPoint room free boundary
  | downs => exact c.enterDown room
  | delivers r formed flies => exact c.deliver room flies formed
  | completes r value overload flies => exact c.completeZero room flies value overload
  | sampled => exact State.CreditLaw.finish c.sound

theorem sameCore (room : s.RoomLaw) (same : s.SameCore t) : t.CreditLaw := c.step room (.stands same.workStands)

end State.CreditLaw

/-- Both laws through every act. -/
theorem State.CreditLaw.acts {s t : State} {i : Instr} (law : s.RoomLaw ∧ s.CreditLaw) (act : Acts s i t) :
    t.RoomLaw ∧ t.CreditLaw :=
  act.works.keeps (P := fun s => s.RoomLaw ∧ s.CreditLaw) (fun _ _ w ⟨h, c⟩ => ⟨h.step w, c.step h w⟩) law

theorem State.CreditLaw.resetWith (straps : Straps) : (State.resetWith straps).CreditLaw := by
  refine State.creditLaw_of_free (fun p => nofun) fun p => ?_
  rw [State.port_resetWith]
  exact ⟨by decide, by decide, by decide, by decide⟩

end Sys2Proof.Machine
end

section
/-! PROOF. Ring places and credits. -/

namespace Sys2Proof.Proofs
open Sys2Proof Sys2Proof.Machine

/-- Settles O58: each step of the converter's work keeps the room of the request in flight, and what its port can pay. -/
theorem ringRoomAndCreditsAreKept : Obligations.RingRoomAndCreditsAreKept := by
  refine ⟨fun s t room run => ?_, fun s t room credits run => ?_⟩
  · rw [State.ringsHoldRoom_iff] at room ⊢
    exact step_keeps (P := State.RoomLaw) (fun _ _ same h => h.sameCore same) State.RoomLaw.resetWith
      (fun _ _ _ h act => act.works.keeps (fun _ _ => State.RoomLaw.step) h) room run
  · rw [State.ringsHoldRoom_iff] at room
    rw [State.creditLaw_iff] at credits ⊢
    exact (step_keeps (P := fun s => s.RoomLaw ∧ s.CreditLaw)
      (fun _ _ same ⟨h, c⟩ => ⟨h.sameCore same, c.sameCore h same⟩) (fun straps => ⟨.resetWith straps, .resetWith straps⟩)
      (fun _ _ _ law act => State.CreditLaw.acts law act) ⟨room, credits⟩ run).2

end Sys2Proof.Proofs
end

section
/-! SUPPORT. The excitation outputs through every act: each output changes by a few kinds of step (R132 to R143), and those
that the request in flight needs stay READY (R60). -/

namespace Sys2Proof.Machine

/-! ## The steps of one output -/

/-- Two outputs with the same state, timers and trip count: their sources of demand may differ. -/
structure OutputState.SameState (old new : OutputState) : Prop where
  state : new.state = old.state
  warmUp : new.warmUpTimer = old.warmUpTimer
  linger : new.lingerTimer = old.lingerTimer
  holdOff : new.holdOffTimer = old.holdOffTimer
  dwell : new.dwellTimer = old.dwellTimer
  count : new.tripCount = old.tripCount

/-- One change of an output, with whether the engine is DOWN beside it. -/
inductive OutputStep : OutputState × Bool → OutputState × Bool → Prop
  | judged (o new : OutputState) (down : Bool) : o.SameState new → OutputStep (o, down) (new.judgedFrom o down, down)
  | ready (o : OutputState) (down : Bool) : o.state = .warming → OutputStep (o, down) (o.becomeReady, down)
  | lingered (o : OutputState) (down : Bool) : o.state = .linger →
      OutputStep (o, down) (o.switchOff.warmIfDemanded down, down)
  | heldOff (o : OutputState) (down : Bool) : o.state = .tripped →
      OutputStep (o, down) ({ o with state := .off, holdOffTimer := .stopped }.warmIfDemanded down, down)
  | dwelt (o : OutputState) (down : Bool) : o.state = .ready → OutputStep (o, down) ({ o with tripCount := 0, dwellTimer := .stopped }, down)
  | cleared (o : OutputState) (down : Bool) : o.state = .lockedOut → OutputStep (o, down) (o.cleared down, down)
  | tripped (o : OutputState) (down : Bool) : o.switchedOn = true → OutputStep (o, down) (o.trip, down)
  | timed (o : OutputState) (down : Bool) (warmUpTime lingerTime : Nat) :
      OutputStep (o, down) ({ o with warmUpTime, lingerTime }, down)
  | downs (o : OutputState) (down : Bool) : OutputStep (o, down) (o.forceOff, true)
  | starts (o : OutputState) : OutputStep (o, true) (o.warmIfDemanded false, false)

/-- From `s` to `t` each output changes by steps. -/
def State.Excites (s t : State) : Prop :=
  ∀ o, Relation.ReflTransGen OutputStep (s.output o, s.isDown) (t.output o, t.isDown)

/-! ## The soundness of an output through its steps -/

namespace OutputState

variable {o : OutputState} {down : Bool}

/-- The soundness of an output with a given state: what stands in that state, clause by clause. -/
theorem sound_off (state : o.state = .off) (warmUp : o.warmUpTimer = .stopped) (linger : o.lingerTimer = .stopped)
    (holdOff : o.holdOffTimer = .stopped) (dwell : o.dwellTimer = .stopped) (count : o.tripCount < 3)
    (demand : down = false → o.demand = false) : o.sound down := by
  have below : o.tripCount ≤ 3 ∧ o.tripCount ≠ 3 := by omega
  simpa [OutputState.sound, state, warmUp, linger, holdOff, dwell, below] using demand

theorem sound_warming (state : o.state = .warming) (warmUp : o.warmUpTimer ≠ .stopped) (linger : o.lingerTimer = .stopped)
    (holdOff : o.holdOffTimer = .stopped) (dwell : o.dwellTimer = .stopped) (count : o.tripCount < 3)
    (demand : o.demand = true) (up : down = false) : o.sound down := by
  have below : o.tripCount ≤ 3 ∧ o.tripCount ≠ 3 := by omega
  simp [OutputState.sound, state, warmUp, linger, holdOff, dwell, below, demand, up]

theorem sound_ready (state : o.state = .ready) (warmUp : o.warmUpTimer = .stopped) (linger : o.lingerTimer = .stopped)
    (holdOff : o.holdOffTimer = .stopped) (count : o.tripCount < 3) (demand : o.demand = true) (up : down = false) :
    o.sound down := by
  have below : o.tripCount ≤ 3 ∧ o.tripCount ≠ 3 := by omega
  simp [OutputState.sound, state, warmUp, linger, holdOff, below, demand, up]

theorem sound_linger (state : o.state = .linger) (warmUp : o.warmUpTimer = .stopped) (linger : o.lingerTimer ≠ .stopped)
    (holdOff : o.holdOffTimer = .stopped) (dwell : o.dwellTimer = .stopped) (count : o.tripCount < 3)
    (demand : o.demand = false) (up : down = false) : o.sound down := by
  have below : o.tripCount ≤ 3 ∧ o.tripCount ≠ 3 := by omega
  simp [OutputState.sound, state, warmUp, linger, holdOff, dwell, below, demand, up]

theorem sound_tripped (state : o.state = .tripped) (warmUp : o.warmUpTimer = .stopped) (linger : o.lingerTimer = .stopped)
    (holdOff : o.holdOffTimer ≠ .stopped) (dwell : o.dwellTimer = .stopped) (count : o.tripCount < 3) : o.sound down := by
  have below : o.tripCount ≤ 3 ∧ o.tripCount ≠ 3 := by omega
  simp [OutputState.sound, state, warmUp, linger, holdOff, dwell, below]

theorem sound_lockedOut (state : o.state = .lockedOut) (warmUp : o.warmUpTimer = .stopped) (linger : o.lingerTimer = .stopped)
    (holdOff : o.holdOffTimer = .stopped) (dwell : o.dwellTimer = .stopped) (count : o.tripCount = 3) : o.sound down := by
  simp [OutputState.sound, state, warmUp, linger, holdOff, dwell, count]

/-- What a sound output has in each state. -/
structure Parts (o : OutputState) (down : Bool) : Prop where
  warmUp : o.state ≠ .warming → o.warmUpTimer = .stopped
  warming : o.state = .warming → o.warmUpTimer ≠ .stopped
  linger : o.state ≠ .linger → o.lingerTimer = .stopped
  lingering : o.state = .linger → o.lingerTimer ≠ .stopped
  holdOff : o.state ≠ .tripped → o.holdOffTimer = .stopped
  holding : o.state = .tripped → o.holdOffTimer ≠ .stopped
  dwell : o.state ≠ .ready → o.dwellTimer = .stopped
  count : o.state ≠ .lockedOut → o.tripCount < 3
  locked : o.state = .lockedOut → o.tripCount = 3
  inDown : down = true → o.state = .off ∨ o.state = .tripped ∨ o.state = .lockedOut
  wanted : o.state = .warming ∨ o.state = .ready → o.demand = true
  unwanted : o.state = .linger → o.demand = false
  idle : o.state = .off → down = false → o.demand = false

theorem sound.parts (h : o.sound down) : o.Parts down := by
  obtain ⟨warmUp, linger, holdOff, dwell, count, locked, inDown, wanted, unwanted, idle⟩ := h
  refine ⟨fun ne => ?_, warmUp.2, fun ne => ?_, linger.2, fun ne => ?_, holdOff.2, fun ne => ?_, fun ne => ?_, locked.2, inDown,
    wanted, unwanted, idle⟩
  · exact not_not.1 (mt warmUp.1 ne)
  · exact not_not.1 (mt linger.1 ne)
  · exact not_not.1 (mt holdOff.1 ne)
  · exact not_not.1 (mt dwell ne)
  · have := mt locked.1 ne
    omega

theorem Parts.up (h : o.Parts down) (on : o.state = .warming ∨ o.state = .ready ∨ o.state = .linger) : down = false := by
  cases down with
  | false => rfl
  | true => rcases h.inDown rfl with state | state | state <;> rw [state] at on <;> simp at on

/-- An output's warming where it is offered its demand (R136). -/
theorem sound_warmIfDemanded (state : o.state = .off) (warmUp : o.warmUpTimer = .stopped) (linger : o.lingerTimer = .stopped)
    (holdOff : o.holdOffTimer = .stopped) (dwell : o.dwellTimer = .stopped) (count : o.tripCount < 3) :
    (o.warmIfDemanded down).sound down := by
  unfold OutputState.warmIfDemanded
  split
  next warms =>
    obtain ⟨-, demand, up⟩ := warms
    exact sound_warming rfl nofun linger holdOff dwell count demand (by simpa using up)
  next stays =>
    refine sound_off state warmUp linger holdOff dwell count fun up => ?_
    rw [← Bool.not_eq_true]
    exact fun demand => stays ⟨state, demand, by rw [up]; rfl⟩

theorem sound_switchOff (holdOff : o.holdOffTimer = .stopped) (count : o.tripCount < 3)
    (demand : down = false → o.demand = false) : o.switchOff.sound down :=
  sound_off rfl rfl rfl holdOff rfl count demand

/-- A change of demand moves a sound output to a sound one (R136, R137). -/
theorem sound_judgedFrom {new : OutputState} (same : o.SameState new) (h : o.sound down) : (new.judgedFrom o down).sound down := by
  obtain ⟨state, warmUp, linger, holdOff, dwell, count⟩ := same
  unfold OutputState.judgedFrom
  split
  next demand =>
    unfold OutputState.sound
    rw [state, warmUp, linger, holdOff, dwell, count, demand]
    exact h
  next changed =>
    have parts := h.parts
    have few : o.state ≠ .lockedOut → new.tripCount < 3 := fun ne => by rw [count]; exact parts.count ne
    have flipped : new.demand = !o.demand := by
      cases a : new.demand <;> cases b : o.demand <;> simp_all
    cases was : o.state with
    | off =>
      have idle := fun demand => sound_warmIfDemanded (down := down) (o := new) (state.trans was)
        (warmUp.trans (parts.warmUp (by simp [was]))) (linger.trans (parts.linger (by simp [was])))
        (holdOff.trans (parts.holdOff (by simp [was]))) (dwell.trans (parts.dwell (by simp [was]))) demand
      have moved : new.move down = new.warmIfDemanded down := by
        unfold OutputState.move OutputState.warmIfDemanded
        cases demand : new.demand <;> simp [state, was]
      rw [moved]
      exact idle (few (by simp [was]))
    | warming =>
      have demand : new.demand = false := by rw [flipped, parts.wanted (.inl was)]; rfl
      have moved : new.move down = new.switchOff := by simp [OutputState.move, state, was, demand]
      rw [moved]
      exact sound_switchOff (holdOff.trans (parts.holdOff (by simp [was]))) (few (by simp [was])) fun _ => demand
    | ready =>
      have demand : new.demand = false := by rw [flipped, parts.wanted (.inr was)]; rfl
      have moved : new.move down = new.leaveReady := by simp [OutputState.move, state, was, demand]
      have hold := holdOff.trans (parts.holdOff (by simp [was]))
      rw [moved]
      unfold OutputState.leaveReady
      split
      · exact sound_linger rfl (warmUp.trans (parts.warmUp (by simp [was]))) nofun hold rfl (few (by simp [was])) demand
          (parts.up (.inr (.inl was)))
      · exact sound_switchOff hold (few (by simp [was])) fun _ => demand
    | linger =>
      have demand : new.demand = true := by rw [flipped, parts.unwanted was]; rfl
      have moved : new.move down = new.becomeReady := by simp [OutputState.move, state, was, demand]
      rw [moved]
      exact sound_ready rfl rfl rfl (holdOff.trans (parts.holdOff (by simp [was]))) (few (by simp [was])) demand
        (parts.up (.inr (.inr was)))
    | tripped =>
      rw [new.move_faulted down (.inl (state.trans was))]
      exact sound_tripped (state.trans was) (warmUp.trans (parts.warmUp (by simp [was])))
        (linger.trans (parts.linger (by simp [was]))) (by rw [holdOff]; exact parts.holding was)
        (dwell.trans (parts.dwell (by simp [was]))) (few (by simp [was]))
    | lockedOut =>
      rw [new.move_faulted down (.inr (state.trans was))]
      exact sound_lockedOut (state.trans was) (warmUp.trans (parts.warmUp (by simp [was])))
        (linger.trans (parts.linger (by simp [was]))) (holdOff.trans (parts.holdOff (by simp [was])))
        (dwell.trans (parts.dwell (by simp [was]))) (count.trans (parts.locked was))

/-- Every step keeps an output sound. -/
theorem sound_step {x y : OutputState × Bool} (step : OutputStep x y) (h : x.1.sound x.2) : y.1.sound y.2 := by
  cases step with
  | judged o new down same => exact sound_judgedFrom same h
  | ready o down warming =>
    have parts : o.Parts down := h.parts
    exact sound_ready rfl rfl rfl (parts.holdOff (by simp [warming])) (parts.count (by simp [warming]))
      (parts.wanted (.inl warming)) (parts.up (.inl warming))
  | lingered o down linger =>
    have parts : o.Parts down := h.parts
    exact sound_warmIfDemanded rfl rfl rfl (parts.holdOff (by simp [linger])) rfl (parts.count (by simp [linger]))
  | heldOff o down tripped =>
    have parts : o.Parts down := h.parts
    exact sound_warmIfDemanded rfl (parts.warmUp (by simp [tripped])) (parts.linger (by simp [tripped])) rfl
      (parts.dwell (by simp [tripped])) (parts.count (by simp [tripped]))
  | dwelt o down ready =>
    have parts : o.Parts down := h.parts
    exact sound_ready ready (parts.warmUp (by simp [ready])) (parts.linger (by simp [ready])) (parts.holdOff (by simp [ready]))
      (Nat.zero_lt_succ 2) (parts.wanted (.inr ready)) (parts.up (.inr (.inl ready)))
  | cleared o down locked =>
    have parts : o.Parts down := h.parts
    exact sound_warmIfDemanded rfl (parts.warmUp (by simp [locked])) (parts.linger (by simp [locked]))
      (parts.holdOff (by simp [locked])) (parts.dwell (by simp [locked])) (Nat.zero_lt_succ 2)
  | tripped o down on =>
    have parts : o.Parts down := h.parts
    have states : o.state = .warming ∨ o.state = .ready ∨ o.state = .linger := by
      simpa [OutputState.switchedOn, or_assoc] using on
    have few := parts.count (by rcases states with s | s | s <;> simp [s])
    have hold := parts.holdOff (by rcases states with s | s | s <;> simp [s])
    unfold OutputState.trip
    dsimp only
    split
    next low => exact sound_tripped rfl rfl rfl nofun rfl low
    next high =>
      refine sound_lockedOut rfl rfl rfl hold rfl ?_
      change ¬ o.tripCount + 1 < 3 at high
      change o.tripCount + 1 = 3
      omega
  | timed o down => exact h
  | downs o down =>
    have parts : o.Parts down := h.parts
    rw [o.forceOff_eq_inDown]
    unfold OutputState.inDown
    cases was : o.state with
    | warming | ready | linger =>
      exact sound_switchOff (parts.holdOff (by simp [was])) (parts.count (by simp [was])) nofun
    | off =>
      exact sound_off was (parts.warmUp (by simp [was])) (parts.linger (by simp [was])) (parts.holdOff (by simp [was]))
        (parts.dwell (by simp [was])) (parts.count (by simp [was])) nofun
    | tripped =>
      exact sound_tripped was (parts.warmUp (by simp [was])) (parts.linger (by simp [was])) (parts.holding was)
        (parts.dwell (by simp [was])) (parts.count (by simp [was]))
    | lockedOut =>
      exact sound_lockedOut was (parts.warmUp (by simp [was])) (parts.linger (by simp [was])) (parts.holdOff (by simp [was]))
        (parts.dwell (by simp [was])) (parts.locked was)
  | starts o =>
    have parts : o.Parts true := h.parts
    rcases parts.inDown rfl with was | was | was
    · exact sound_warmIfDemanded was (parts.warmUp (by simp [was])) (parts.linger (by simp [was]))
        (parts.holdOff (by simp [was])) (parts.dwell (by simp [was])) (parts.count (by simp [was]))
    · rw [o.warmIfDemanded_other false (by simp [was])]
      exact sound_tripped was (parts.warmUp (by simp [was])) (parts.linger (by simp [was])) (parts.holding was)
        (parts.dwell (by simp [was])) (parts.count (by simp [was]))
    · rw [o.warmIfDemanded_other false (by simp [was])]
      exact sound_lockedOut was (parts.warmUp (by simp [was])) (parts.linger (by simp [was])) (parts.holdOff (by simp [was]))
        (parts.dwell (by simp [was])) (parts.locked was)

end OutputState

/-! ## The outputs through the acts -/

namespace State.Excites

variable {s t u : State}

theorem of_same (outputs : ∀ o, t.output o = s.output o) (down : t.isDown = s.isDown) : s.Excites t := by
  intro o
  rw [outputs o, down]

theorem refl (s : State) : s.Excites s := fun _ => .refl

theorem trans (h : s.Excites t) (k : t.Excites u) : s.Excites u := fun o => (h o).trans (k o)

theorem sound (h : s.Excites t) (law : s.ExcitationSound) : t.ExcitationSound := by
  intro o
  refine Relation.ReflTransGen.head_induction_on
    (motive := fun x _ => x.1.sound x.2 → (t.output o).sound t.isDown) (h o) id ?_ (law o)
  exact fun step _ ih hx => ih (OutputState.sound_step step hx)

theorem of_noticesOnly (h : s.NoticesOnly t) : s.Excites t :=
  of_same (fun o => by simp only [State.output, h.outputs]) (by simp only [State.isDown, h.engine])

theorem modOutput (s : State) (o : OutputId) {f : OutputState → OutputState}
    (step : OutputStep (s.output o, s.isDown) (f (s.output o), s.isDown)) : s.Excites (s.modOutput o f) := by
  intro q
  have down : (s.modOutput o f).isDown = s.isDown := rfl
  rw [down, State.output_modOutput]
  split
  next e => subst e; exact .single step
  · exact .refl

theorem handOverDemand (s : State) {f : OutputState → OutputState} (same : ∀ out, OutputState.SameState out (f out)) :
    s.Excites (s.handOverDemand f) := by
  intro o
  have down : (s.handOverDemand f).isDown = s.isDown := rfl
  rw [down, s.output_handOverDemand]
  obtain ⟨state, warmUp, linger, holdOff, dwell, count⟩ := same (s.output o)
  exact .single (.judged _ _ _ ⟨state, warmUp, linger, holdOff, dwell, count⟩)

theorem refreshDemand (s : State) : s.Excites s.refreshDemand := handOverDemand s fun _ => ⟨rfl, rfl, rfl, rfl, rfl, rfl⟩

theorem terminate (s : State) (reason : Reason) (ends : Request → Bool) : s.Excites (s.terminate reason ends) := by
  refine of_same (fun o => by simp only [State.output, s.terminate_outputs]) ?_
  unfold State.isDown
  rw [s.terminate_engine]
  split <;> rfl

theorem finish (s : State) : s.Excites s.finish := by
  let dropped := ((s.modEngine (·.noFlight)).drop (·.isInFlight)).completeRetires (s.live.filter (·.isInFlight))
  have retired := State.retiresOnly_completeRetires ((s.modEngine (·.noFlight)).drop (·.isInFlight))
    (s.live.filter (·.isInFlight))
  have same : s.Excites dropped :=
    of_same (fun o => congrArg (·.get o) retired.outputs) (by unfold State.isDown; rw [show dropped.engine = _ from retired.engine]; rfl)
  exact same.trans (refreshDemand dropped)

theorem modFlight (s : State) (f : Request → Request) : s.Excites (s.modFlight f) := by
  unfold State.modFlight
  split
  · exact .refl s
  · exact of_same (fun _ => rfl) rfl
  · exact of_same (fun _ => rfl) rfl

theorem modSource (s : State) (r : Request) (f : PortState → PortState) : s.Excites (s.modSource r f) := by
  unfold State.modSource
  split
  · exact of_same (fun _ => rfl) rfl
  · exact .refl s

theorem giveBack (s : State) : s.Excites s.giveBack := by
  rcases s.giveBack_cases with ⟨-, e⟩ | ⟨r, -, -, e⟩ | ⟨r, -, -, e⟩ <;> rw [e]
  · exact .refl s
  · exact (terminate s .retired _).trans (refreshDemand _)
  · exact (modSource s r _).trans (modFlight _ _)

theorem enterDown (s : State) : s.Excites s.enterDown := by
  refine (giveBack s).trans fun o => .single ?_
  have output : s.enterDown.output o = (s.giveBack.output o).forceOff := by cases o <;> rfl
  have down : s.enterDown.isDown = true := rfl
  rw [output, down]
  exact .downs _ _

theorem begin_isDown (e : Engine) (kind : Kind) (profile : Profile) : (e.begin kind profile).state = e.state :=
  (e.load_parts (firstSetup kind profile)).2.1

theorem grant (s : State) (f : Flight) : s.Excites (s.grant f) := by
  refine of_same (fun o => by simp only [State.output, (s.grant_rest f).2.1]) ?_
  unfold State.isDown
  cases h : (s.modEngine fun e => { e with inFlight := some f }).flight with
  | none => rw [s.grant_none f h]
  | some r => rw [s.grant_engine f r h, begin_isDown]

theorem grantPoint (s : State) (boundary : Bool) : s.Excites (s.grantPoint boundary) := by
  have rest := s.refill_rest.1
  have refilled : s.Excites s.refill := of_same (fun o => by rw [rest]; rfl) (by rw [rest]; rfl)
  rcases s.grantPoint_cases boundary with ⟨r, -, e⟩ | ⟨-, ⟨-, e⟩ | ⟨-, ⟨p, -, e⟩ | ⟨-, ⟨p, -, e⟩ | ⟨-, e⟩⟩⟩⟩ <;> rw [e]
  · exact grant s _
  · exact of_same (fun _ => rfl) rfl
  · exact refilled.trans (grant (s.refill.modArbiter _) (.port p))
  · exact refilled.trans (grant (s.refill.modArbiter _) (.port p))
  · exact refilled.trans (of_same (fun _ => rfl) rfl)

theorem kick (s : State) : s.Excites s.kick := by
  rcases s.kick_cases with ⟨-, e⟩ | ⟨-, e⟩ <;> rw [e]
  · exact .refl s
  · exact grantPoint s false

theorem freed (s : State) (boundary : Bool) : s.Excites (s.freed boundary) := by
  rcases s.freed_cases boundary with ⟨-, e⟩ | ⟨-, e⟩ | ⟨-, e⟩ <;> rw [e]
  · exact grantPoint s boundary
  · exact enterDown s
  · exact .refl s

theorem afterTerminations (s : State) (abandoned : Bool) : s.Excites (s.afterTerminations abandoned) := by
  unfold State.afterTerminations
  split
  · exact freed s false
  · exact kick s

theorem placeSample (s : State) : s.Excites s.placeSample := by
  unfold State.placeSample
  split
  · exact .refl s
  · exact (of_same (t := s.place 0 .measure) (fun _ => rfl) rfl).trans (refreshDemand _)

theorem completeSample (s : State) (value : Int) : s.Excites (s.completeSample value) := by
  let sampled := s.modMonitor fun m => { m with temperature := value, valid := true }
  have passed : s.Excites sampled.ageingPass :=
    of_same (fun o => congrArg (·.get o) sampled.ageingPass_outputs)
      (congrArg (fun e : Engine => decide (e.state = .down)) sampled.ageingPass_engine)
  exact passed.trans (finish _)

theorem endTurn (s : State) (r : Request) (value : Int) : s.Excites (s.endTurn r value) := by
  rcases s.endTurn_cases r value with ⟨-, e⟩ | ⟨-, -, e⟩ | ⟨-, -, e⟩ <;> rw [e]
  · exact finish s
  · exact (modSource s r _).trans (of_same (fun _ => rfl) rfl)
  · refine (modFlight s _).trans (of_same (fun _ => rfl) ?_)
    exact congrArg (fun st : EngineState => decide (st = .down)) (begin_isDown _ _ _)

theorem deliver (s : State) (r : Request) (formed : Formed) : s.Excites (s.deliver r formed) :=
  ((modSource s r _).trans (of_noticesOnly (State.noticesOnly_postWindow _ _ _))).trans (endTurn _ r _)

theorem writeRecord (s : State) (r : Request) (value : Int) : s.Excites (s.writeRecord r value) :=
  (of_same (s := s) (t := s.modProfile r.profile _) (fun _ => rfl) rfl).trans (of_noticesOnly (State.noticesOnly_postOwner _ _ _))

theorem completeZero (s : State) (r : Request) (value : Int) (overload : Bool) : s.Excites (s.completeZero r value overload) :=
  ((modSource s r _).trans (writeRecord _ r value)).trans (finish _)

theorem useOutput (s : State) (r : Request) (step : OpStep) (l : LoadedSetup) (raw : Int) (overload : Bool) :
    s.Excites (s.useOutput r step l raw overload) := by
  cases step with
  | settling | chopPlusSettling | chopMinusSettling | zeroSettling | chopPlusOutput => exact of_same (fun _ => rfl) rfl
  | output =>
    cases source : r.source with
    | monitor =>
      simp only [State.useOutput, State.useResult, source]
      exact completeSample s _
    | port p =>
      simp only [State.useOutput, State.useResult, source]
      exact deliver s r _
  | chopMinusOutput =>
    simp only [State.useOutput, State.chopOutput]
    split
    · exact deliver s r _
    · exact .refl s
  | zeroAveraging =>
    simp only [State.useOutput, State.averageOutput]
    split
    · exact of_same (fun _ => rfl) rfl
    · exact completeZero s r _ _

theorem afterPeriod (s : State) : s.Excites s.afterPeriod := by
  unfold State.afterPeriod
  split
  · exact enterDown s
  · split
    · exact freed s true
    · exact .refl s

theorem endPeriod (s : State) (raw : Int) (overload : Bool) : s.Excites (s.endPeriod raw overload) := by
  unfold State.endPeriod
  split
  next r step l _ _ _ =>
    have counted : s.Excites (s.modEngine (·.countPeriod l overload)) := of_same (fun _ => rfl) rfl
    exact (counted.trans (useOutput _ r step l raw _)).trans (afterPeriod _)
  · exact .refl s

theorem disown (s : State) (owner : Option Source) : s.Excites (s.disown owner) := by
  unfold State.disown
  split
  · exact of_same (fun _ => rfl) rfl
  · exact .refl s

theorem party (s : State) (supervisor : Port) (offer : Option Offer) (offerTimer : Timer) :
    s.Excites { s with supervisor, offer, offerTimer } :=
  of_same (s := s) (t := { s with supervisor, offer, offerTimer }) (fun _ => rfl) rfl

theorem withdrawFor (s : State) (p : Port) : s.Excites (s.withdrawFor p) := by
  unfold State.withdrawFor
  split
  · exact .refl s
  · split
    · exact .refl s
    · exact (party s s.supervisor none .stopped).trans (of_noticesOnly (State.noticesOnly_post _ _ _))

theorem markFinal (s : State) (n : Fin 32) : s.Excites (s.markFinal n) := by
  unfold State.markFinal
  split
  · exact modFlight s _
  · exact .refl s

end State.Excites

theorem State.noticesOnly_withdrawOther (s : State) (p q : Port) : s.NoticesOnly (s.withdrawOther p q) := by
  unfold State.withdrawOther
  split
  · exact .refl s
  · split
    · exact s.noticesOnly_post _ _
    · exact .refl s

theorem OutputState.sameState_vote (o : OutputState) (p : Port) (on : Bool) : o.SameState (o.vote p on) :=
  ⟨rfl, rfl, rfl, rfl, rfl, rfl⟩

theorem Acts.excites {s t : State} {i : Instr} (act : Acts s i t) : s.Excites t := by
  cases act with
  | idle => exact .refl s
  | portReset p =>
    have ended : s.Excites (s.resetEnded p) :=
      (((State.Excites.terminate s .portReset (Request.isFrom p)).trans
        (.of_same (t := State.modPort _ p (·.cleared)) (fun _ => rfl) rfl)).trans (.withdrawFor _ p)).trans
          (.handOverDemand _ fun out => out.sameState_vote p false)
    rw [s.resetPort_eq]
    refine State.Excites.trans (t := s.resetFreed p) ?_ (.of_same (fun _ => rfl) rfl)
    unfold State.resetFreed
    split
    · exact ended.trans (.freed _ false)
    · exact ended
  | alertConfig | claim | write | share | retireNow | readNotices | setQuota | setWeight | setAffinity | setAllowance
    | setCalPolicy => exact .of_same (fun _ => rfl) rfl
  | retireBusy p n =>
    rw [s.retireBusy_eq]
    have marked : s.Excites (s.retireMarked n) :=
      (State.Excites.of_same (s := s) (t := s.modProfile n fun profile => { profile with state := .retiring }) (fun _ => rfl)
        rfl).trans (.markFinal _ n)
    exact ((marked.trans (.terminate _ .retired (Request.endsAtRetire n))).trans (.refreshDemand _)).trans (.kick _)
  | release p n =>
    exact (State.Excites.of_same (s := s) (t := s.modProfile n fun _ => .default) (fun _ => rfl) rfl).trans (.disown _ _)
  | submit p f w =>
    rw [s.submit_eq]
    exact ((State.Excites.of_same (s := s) (t := s.enqueue p (newRequest p f.tag w)) (fun _ => rfl) rfl).trans
      (.refreshDemand _)).trans (.kick _)
  | cancel p tag =>
    rw [s.cancel_eq]
    exact ((State.Excites.terminate s _ _).trans (.refreshDemand _)).trans (.afterTerminations _ _)
  | fetch p b n => exact (State.Excites.of_same (s := s) (t := s.modPort p (·.fetched n)) (fun _ => rfl) rfl).trans (.kick _)
  | exciteVote p o b on => exact .modOutput s o (.judged _ _ _ (OutputState.sameState_vote _ _ _))
  | setCombine p q o x y combine => exact .modOutput s o (.judged _ _ _ ⟨rfl, rfl, rfl, rfl, rfl, rfl⟩)
  | engineStart p down =>
    have was : s.isDown = true := by simp [State.isDown, down]
    intro o
    have output : s.startEngine.output o = (s.output o).warmIfDemanded false := by cases o <;> rfl
    have up : s.startEngine.isDown = false := rfl
    rw [was, output, up]
    exact .single (.starts _)
  | haltNow => exact .enterDown s
  | haltLater p running =>
    refine .of_same (fun _ => rfl) ?_
    have up : s.isDown = false := by simp [State.isDown, running]
    rw [up]
    rfl
  | setExciteTiming p o x y => exact .modOutput s o (.timed _ _ _ _)
  | clearLockout p o locked => exact .modOutput s o (.cleared _ _ locked)
  | forceRelease p n =>
    rw [s.forceRelease_eq]
    have ended : s.Excites ((s.erase n).terminate .revoked (Request.names n)) :=
      (State.Excites.of_same (s := s) (t := s.erase n) (fun _ => rfl) rfl).trans (.terminate _ _ _)
    exact (((ended.trans (.disown _ _)).trans (.of_noticesOnly (State.noticesOnly_postOwner _ _ _))).trans
      (.refreshDemand _)).trans (.afterTerminations (s.forceEnded n) _)
  | makeOffer p q =>
    exact (State.Excites.of_noticesOnly ((s.noticesOnly_withdrawOther p q).trans
      (State.noticesOnly_post _ q (.offer p)))).trans (.of_same (fun _ => rfl) rfl)
  | handOver p =>
    exact (State.Excites.party s p none .stopped).trans (.of_noticesOnly (State.noticesOnly_postAll _ (.supervisor p)))
  | enterRunning starting =>
    rw [s.enterRunning_eq]
    have up : s.isDown = false := by simp [State.isDown, starting]
    have running : s.Excites s.enteringRunning.restartInterval := .of_same (fun _ => rfl) (by rw [up]; rfl)
    exact (running.trans (.placeSample _)).trans (.kick _)
  | interval =>
    exact ((State.Excites.of_same (s := s) (t := s.restartInterval) (fun _ => rfl) rfl).trans (.placeSample _)).trans (.kick _)
  | periodEnd raw overload => exact .endPeriod s raw overload
  | warmUp o warming =>
    exact ((State.Excites.modOutput s o (f := (·.becomeReady)) (.ready _ _ warming)).trans
      (.of_noticesOnly (State.noticesOnly_postAll _ _))).trans (.kick _)
  | linger o linger => exact .modOutput s o (.lingered _ _ linger)
  | holdOff o tripped => exact .modOutput s o (.heldOff _ _ tripped)
  | dwell o ready => exact .modOutput s o (.dwelt _ _ ready)
  | trip o on =>
    rw [s.trip_eq]
    exact ((((State.Excites.modOutput s o (f := (·.trip)) (.tripped _ _ on)).trans
      (.terminate _ .excitationFault (s.needs o))).trans (.refreshDemand _)).trans
        (.of_noticesOnly (State.noticesOnly_postTrip _ o))).trans (.afterTerminations (s.tripEnded o) _)
  | offerLapse o =>
    exact (State.Excites.party s s.supervisor none .stopped).trans (.of_noticesOnly (State.noticesOnly_post _ _ _))

theorem State.ExcitationSound.sameCore {s t : State} (same : s.SameCore t) (h : s.ExcitationSound) : t.ExcitationSound :=
  State.Excites.sound (.of_same same.output (by simp only [State.isDown, same.engine])) h

theorem State.ExcitationSound.resetWith (straps : Straps) : (State.resetWith straps).ExcitationSound := by
  intro o
  rw [State.output_resetWith]
  exact OutputState.sound_off rfl rfl rfl rfl rfl (by decide) nofun

end Sys2Proof.Machine
end

section
/-! SUPPORT. The outputs that the request in flight needs, through every act (R60). -/

namespace Sys2Proof.Machine

/-- A step is one act between states that differ at the interfaces alone, or a device reset. -/
theorem acts_of_step {s t : State} (run : step s = .next t) :
    (∃ i s' u, s.SameCore s' ∧ Acts s' i u ∧ u.SameCore t) ∨ ∃ straps, (State.resetWith straps).SameCore t := by
  unfold step at run
  split at run
  · cases run
    exact .inl ⟨.startTimerExpiry, s, s, .refl s, .idle _, .refl s⟩
  next i rest _ =>
    by_cases noReset : i.isDeviceReset = false
    · obtain ⟨s', u, first, acts, last⟩ := acts_of_exec noReset run
      exact .inl ⟨_, s', u, (s.sameCore_pending rest).trans first, acts, last⟩
    · cases i with
      | deviceReset straps =>
        cases run
        exact .inr ⟨straps, State.sameCore_pending _ _⟩
      | _ => exact absurd rfl noReset

/-- A law that rests on others: what a step leads to from states that have them all. -/
theorem step_leads {P Q : State → Prop} (core : ∀ s t : State, s.SameCore t → P s → P t)
    (after : ∀ s t : State, s.SameCore t → Q s → Q t) (reset : ∀ straps, Q (State.resetWith straps))
    (acts : ∀ s i t, P s → Acts s i t → Q t) {s t : State} (law : P s) (run : step s = .next t) : Q t := by
  rcases acts_of_step run with ⟨i, s', u, first, act, last⟩ | ⟨straps, same⟩
  · exact after u t last (acts s' i u (core s s' first law) act)
  · exact after _ t same (reset straps)

/-- The profile of the request in flight. -/
def State.flightProfile (s : State) : Option (Fin 32) := s.flight.map (·.profile)

theorem State.flightProfile_eq (s : State) : s.flightProfile =
    match s.engine.inFlight with
    | none => none
    | some (.port p) => ((s.port p).queue.map Request.profile).head?
    | some (.monitor n) => (s.monitor.queue.map Request.profile).find? (· = n) := by
  unfold State.flightProfile State.flight
  cases s.engine.inFlight with
  | none => rfl
  | some f =>
    cases f with
    | port p => exact List.head?_map.symm
    | monitor n => exact (List.find?_map (f := Request.profile) (p := fun m => decide (m = n))).symm

theorem State.flightExcited_iff (s : State) : s.FlightExcited ↔
    ∀ n, s.flightProfile = some n → ∀ o, (s.profile n).need.get o = true → (s.output o).state = .ready := by
  simp only [State.FlightExcited, State.flightProfile, Option.map_eq_some_iff, forall_exists_index, and_imp,
    forall_apply_eq_imp_iff₂]

theorem State.flightProfile_congr {s t : State} (queue : ∀ q, (t.port q).queue.map Request.profile = (s.port q).queue.map Request.profile)
    (monitor : t.monitor.queue.map Request.profile = s.monitor.queue.map Request.profile)
    (flight : t.engine.inFlight = s.engine.inFlight) : t.flightProfile = s.flightProfile := by
  simp only [State.flightProfile_eq, queue, monitor, flight]

theorem State.flight_terminate (s : State) (reason : Reason) (ends : Request → Bool) :
    (s.terminate reason ends).flight = if s.flightEnds ends then none else s.flight := by
  have engine := s.terminate_engine reason ends
  split
  next ended =>
    rw [if_pos ended] at engine
    exact State.flight_free (by rw [engine]; rfl)
  next stays =>
    rw [if_neg stays] at engine
    have kept : ∀ r, s.flight = some r → (!ends r) = true := by
      intro r flies
      rw [State.flightEnds, flies] at stays
      simpa using stays
    cases inFlight : s.engine.inFlight with
    | none => rw [State.flight_free inFlight, State.flight_free (by rw [engine, inFlight])]
    | some f =>
      cases f with
      | port p =>
        rw [State.flight_port inFlight] at kept ⊢
        rw [State.flight_port (p := p) (by rw [engine, inFlight]), s.terminate_queue]
        cases list : (s.port p).queue with
        | nil => rfl
        | cons r rest => rw [List.filter_cons, if_pos (kept r (by rw [list]; rfl))]; rfl
      | monitor n =>
        rw [State.flight_monitor inFlight] at kept ⊢
        rw [State.flight_monitor (n := n) (by rw [engine, inFlight]), s.terminate_monitor, List.find?_filter]
        cases found : s.monitor.queue.find? (·.profile = n) with
        | none =>
          rw [List.find?_eq_none] at found ⊢
          intro r mem
          have := found r mem
          simp only [decide_eq_true_eq] at this
          simp [this]
        | some r =>
          rw [List.find?_eq_some_iff_append] at found ⊢
          obtain ⟨here, before, after, list, others⟩ := found
          refine ⟨?_, before, after, list, fun x mem => ?_⟩
          · rw [decide_eq_true_eq]
            exact ⟨kept r (by rw [List.find?_eq_some_iff_append]; exact ⟨here, before, after, list, others⟩), here⟩
          · have := others x mem
            rw [Bool.not_eq_true'] at this ⊢
            simp [this]

/-- The request in flight of `t` is that of `s`, needs nothing more, and what it needs of the READY outputs is READY still. -/
def State.FlightStays (s t : State) : Prop :=
  ∀ n, t.flightProfile = some n → s.flightProfile = some n ∧ ∀ o, (t.profile n).need.get o = true →
    (s.profile n).need.get o = true ∧ ((s.output o).state = .ready → (t.output o).state = .ready)

namespace State.FlightStays

variable {s t u : State}

theorem excited (h : s.FlightStays t) (law : s.FlightExcited) : t.FlightExcited := by
  rw [State.flightExcited_iff] at law ⊢
  intro n flies o need
  obtain ⟨was, parts⟩ := h n flies
  obtain ⟨needed, ready⟩ := parts o need
  exact ready (law n was o needed)

theorem refl (s : State) : s.FlightStays s := fun _ flies => ⟨flies, fun _ need => ⟨need, id⟩⟩

theorem trans (h : s.FlightStays t) (k : t.FlightStays u) : s.FlightStays u := by
  intro n flies
  obtain ⟨later, parts⟩ := k n flies
  obtain ⟨was, before⟩ := h n later
  refine ⟨was, fun o need => ?_⟩
  obtain ⟨needed, ready⟩ := parts o need
  obtain ⟨first, soon⟩ := before o needed
  exact ⟨first, ready ∘ soon⟩

theorem of_free (free : t.engine.inFlight = none) : s.FlightStays t := by
  intro n flies
  rw [State.flightProfile, State.flight_free free] at flies
  cases flies

/-- Outputs that are READY stay so, and nothing else that the law reads moves. -/
theorem of_parts (queue : ∀ q, (t.port q).queue.map Request.profile = (s.port q).queue.map Request.profile)
    (monitor : t.monitor.queue.map Request.profile = s.monitor.queue.map Request.profile)
    (flight : t.engine.inFlight = s.engine.inFlight) (need : ∀ n, (t.profile n).need = (s.profile n).need)
    (ready : ∀ o, (s.output o).state = .ready → (t.output o).state = .ready) : s.FlightStays t := by
  intro n flies
  rw [State.flightProfile_congr queue monitor flight] at flies
  exact ⟨flies, fun o needs => ⟨by rwa [← need n], ready o⟩⟩

theorem of_same (queue : ∀ q, (t.port q).queue = (s.port q).queue) (monitor : t.monitor.queue = s.monitor.queue)
    (flight : t.engine.inFlight = s.engine.inFlight) (need : ∀ n, (t.profile n).need = (s.profile n).need)
    (outputs : ∀ o, t.output o = s.output o) : s.FlightStays t :=
  of_parts (fun q => by rw [queue q]) (by rw [monitor]) flight need fun o => by rw [outputs o]; exact id

theorem of_noticesOnly (h : s.NoticesOnly t) : s.FlightStays t :=
  of_same h.queue (by rw [h.monitor]) (by rw [h.engine]) (fun n => by rw [h.profile n]) fun o => by
    simp only [State.output, h.outputs]

theorem modPort (s : State) (p : Port) {f : PortState → PortState}
    (queue : ∀ ps, (f ps).queue.map Request.profile = ps.queue.map Request.profile) : s.FlightStays (s.modPort p f) := by
  refine of_parts (fun q => ?_) rfl rfl (fun _ => rfl) fun _ => id
  rw [State.port_modPort]
  split
  next e => subst e; exact queue _
  · rfl

theorem modSource (s : State) (r : Request) {f : PortState → PortState}
    (queue : ∀ ps, (f ps).queue.map Request.profile = ps.queue.map Request.profile) : s.FlightStays (s.modSource r f) := by
  unfold State.modSource
  split
  · exact modPort s _ queue
  · exact refl s

theorem modProfile (s : State) (n : Fin 32) {f : Profile → Profile} (need : ∀ profile, (f profile).need = profile.need) :
    s.FlightStays (s.modProfile n f) := by
  refine of_same (fun _ => rfl) rfl rfl (fun m => ?_) fun _ => rfl
  rw [State.profile_modProfile]
  split
  next e => subst e; exact need _
  · rfl

theorem modEngine (s : State) {f : Engine → Engine} (flight : (f s.engine).inFlight = s.engine.inFlight) :
    s.FlightStays (s.modEngine f) :=
  of_same (fun _ => rfl) rfl flight (fun _ => rfl) fun _ => rfl

theorem modOutput (s : State) (o : OutputId) {f : OutputState → OutputState}
    (ready : (s.output o).state = .ready → (f (s.output o)).state = .ready) : s.FlightStays (s.modOutput o f) := by
  refine of_parts (fun _ => rfl) rfl rfl (fun _ => rfl) fun q => ?_
  rw [State.output_modOutput]
  split
  next e => subst e; exact ready
  · exact id

theorem modFlight (s : State) {f : Request → Request} (kept : ∀ r, (f r).profile = r.profile) :
    s.FlightStays (s.modFlight f) := by
  unfold State.modFlight
  split
  · exact refl s
  · refine modPort s _ fun ps => ?_
    cases ps.queue with
    | nil => rfl
    | cons r rest => simp [modHead, kept]
  next n _ =>
    refine of_parts (fun _ => rfl) ?_ rfl (fun _ => rfl) fun _ => id
    change (s.monitor.queue.map fun r => if r.profile = n then f r else r).map Request.profile = _
    rw [List.map_map]
    refine List.map_congr_left fun r _ => ?_
    simp only [Function.comp_apply]
    split
    · exact kept r
    · rfl

theorem terminate (s : State) (reason : Reason) (ends : Request → Bool) : s.FlightStays (s.terminate reason ends) := by
  intro n flies
  rw [State.flightProfile, s.flight_terminate] at flies
  split at flies
  · cases flies
  · refine ⟨flies, fun o need => ?_⟩
    rw [((s.quiet_terminate reason ends).1.profiles n).need] at need
    simp only [State.output, s.terminate_outputs]
    exact ⟨need, id⟩

end State.FlightStays

theorem State.requestsNeed_of_flight {s : State} {n : Fin 32} (flies : s.flightProfile = some n) {o : OutputId}
    (need : (s.profile n).need.get o = true) : s.requestsNeed o = true := by
  obtain ⟨r, flying, rfl⟩ := Option.map_eq_some_iff.1 flies
  exact List.any_eq_true.2 ⟨r, State.flight_mem_live flying, need⟩

/-- A READY output with demand stays READY when its demand is judged (R136, R137). -/
theorem OutputState.ready_judgedFrom {new old : OutputState} (down : Bool) (ready : new.state = .ready) (demand : new.demand = true) :
    (new.judgedFrom old down).state = .ready := by
  unfold OutputState.judgedFrom
  split
  · exact ready
  · simp [OutputState.move, ready, demand]

namespace State.FlightStays

theorem handOverDemand (s : State) {f : OutputState → OutputState} (same : ∀ out, OutputState.SameState out (f out)) :
    s.FlightStays (s.handOverDemand f) := by
  intro n flies
  refine ⟨flies, fun o need => ⟨need, fun ready => ?_⟩⟩
  have needed := State.requestsNeed_of_flight (s := s) flies need
  rw [s.output_handOverDemand]
  exact OutputState.ready_judgedFrom _ ((same _).state.trans ready) (by simp [OutputState.demand, needed])

theorem refreshDemand (s : State) : s.FlightStays s.refreshDemand := handOverDemand s fun _ => ⟨rfl, rfl, rfl, rfl, rfl, rfl⟩

/-- Votes and combine rules move no output that the request in flight needs: its demand from requests stands (R133). -/
theorem rejudgeOutput {s : State} (handed : s.DemandHandedOver) (o : OutputId) {f : OutputState → OutputState}
    (same : ∀ out, OutputState.SameState out (f out)) (demand : ∀ out, (f out).requestDemand = out.requestDemand) :
    s.FlightStays (s.rejudgeOutput o f) := by
  intro n flies
  refine ⟨flies, fun q need => ⟨need, fun ready => ?_⟩⟩
  have needed := State.requestsNeed_of_flight (s := s) flies need
  have output : (s.rejudgeOutput o f).output q = _ := s.output_modOutput o q _
  rw [output]
  split
  next e =>
    subst e
    refine OutputState.ready_judgedFrom _ ((same _).state.trans ready) ?_
    rw [OutputState.demand, demand, (s.demandHandedOver_iff.1 handed) q, needed, Bool.true_or]
  · exact ready

theorem finish (s : State) : s.FlightStays s.finish := of_free (by rw [s.finish_engine]; rfl)

theorem enterDown (s : State) : s.FlightStays s.enterDown := of_free (by rw [s.enterDown_queues.2.2]; rfl)

theorem postWindow (s : State) (r : Request) (value : Int) : s.FlightStays (s.postWindow r value) :=
  of_noticesOnly (State.noticesOnly_postWindow s r value)

theorem writeToRing (s : State) (r : Request) (record : ResultRecord) : s.FlightStays (s.writeToRing r record) := by
  refine modSource s r fun ps => ?_
  obtain ⟨-, -, -, queue, -⟩ := ps.writeResult_parts (r.run = .contiguous) record
  rw [PortState.charge, queue]

theorem endTurn (s : State) (r : Request) (value : Int) : s.FlightStays (s.endTurn r value) := by
  rcases s.endTurn_cases r value with ⟨-, e⟩ | ⟨-, -, e⟩ | ⟨-, -, e⟩ <;> rw [e]
  · exact finish s
  · exact of_free rfl
  · exact (modFlight s (f := (·.after value)) fun _ => rfl).trans (modEngine _ (Engine.inFlight_begin _ _ _))

theorem deliver (s : State) (r : Request) (formed : Formed) : s.FlightStays (s.deliver r formed) :=
  ((writeToRing s r _).trans (postWindow _ r _)).trans (endTurn _ r _)

theorem completeZero (s : State) (r : Request) (value : Int) (overload : Bool) :
    s.FlightStays (s.completeZero r value overload) := by
  unfold State.completeZero
  exact of_free (by rw [State.finish_engine]; rfl)

theorem completeSample (s : State) (value : Int) : s.FlightStays (s.completeSample value) := by
  unfold State.completeSample
  exact of_free (by rw [State.finish_engine]; rfl)

theorem useOutput (s : State) (r : Request) (step : OpStep) (l : LoadedSetup) (raw : Int) (overload : Bool) :
    s.FlightStays (s.useOutput r step l raw overload) := by
  cases step with
  | settling | chopPlusSettling | chopMinusSettling | zeroSettling | chopPlusOutput => exact modEngine s rfl
  | output =>
    simp only [State.useOutput, State.useResult]
    split
    · exact completeSample s _
    · exact deliver s r _
  | chopMinusOutput =>
    simp only [State.useOutput, State.chopOutput]
    split
    · exact deliver s r _
    · exact refl s
  | zeroAveraging =>
    simp only [State.useOutput, State.averageOutput]
    split
    · exact modEngine s rfl
    · exact completeZero s r _ _

/-- A place against a profile of the monitor joins the end of its queue. -/
theorem place {s : State} (one : s.OneInFlight) (n : Fin 32) (kind : Kind) : s.FlightStays (s.place n kind) := by
  have same : ∀ m, (s.place n kind).flightProfile = some m → s.flightProfile = some m := by
    intro m flies
    rw [State.flightProfile_eq] at flies ⊢
    have flight : (s.place n kind).engine.inFlight = s.engine.inFlight := rfl
    rw [flight] at flies
    cases inFlight : s.engine.inFlight with
    | none => rw [inFlight] at flies; cases flies
    | some f =>
      rw [inFlight] at flies
      cases f with
      | port p => exact flies
      | monitor k =>
        have queue : (s.place n kind).monitor.queue = s.monitor.queue ++ [monitorEntry n kind] := rfl
        simp only [queue, List.map_append, List.find?_append] at flies
        obtain ⟨r, mem, rfl⟩ := one.2.2.2.2 k inFlight
        have found : ((s.monitor.queue.map Request.profile).find? (· = r.profile)).isSome = true := by
          rw [List.find?_isSome]
          exact ⟨r.profile, List.mem_map_of_mem mem, by simp⟩
        obtain ⟨x, found⟩ := Option.isSome_iff_exists.1 found
        rw [found] at flies
        exact found.trans flies
  intro m flies
  refine ⟨same m flies, fun o need => ⟨?_, id⟩⟩
  rwa [((s.quiet_place n kind).1.profiles m).need] at need

theorem placeSample {s : State} (one : s.OneInFlight) : s.FlightStays s.placeSample := by
  unfold State.placeSample
  split
  · exact refl s
  · exact (place one 0 .measure).trans (refreshDemand _)

theorem enqueue {s : State} (one : s.OneInFlight) (p : Port) (r : Request) : s.FlightStays (s.enqueue p r) := by
  intro m flies
  have need : ((s.enqueue p r).profile m).need = (s.profile m).need := by
    rw [s.profile_enqueue]
  refine ⟨?_, fun o needs => ⟨by rwa [need] at needs, id⟩⟩
  rw [State.flightProfile_eq] at flies ⊢
  have flight : (s.enqueue p r).engine.inFlight = s.engine.inFlight := rfl
  rw [flight] at flies
  cases inFlight : s.engine.inFlight with
  | none => rw [inFlight] at flies; cases flies
  | some f =>
    rw [inFlight] at flies
    cases f with
    | monitor n => exact flies
    | port q =>
      have some := one.2.2.2.1 q inFlight
      simp only at flies ⊢
      rw [State.queue_enqueue] at flies
      cases list : (s.port q).queue with
      | nil => exact absurd list some
      | cons x rest => rw [list] at flies; exact flies

/-- A profile that no live request names may take other contents. -/
theorem contents {s : State} (counts : s.ReferencesCount) (n : Fin 32) (f : Profile → Profile) (none : (s.profile n).refCount = 0) :
    s.FlightStays (s.modProfile n f) := by
  intro m flies
  refine ⟨flies, fun o need => ⟨?_, id⟩⟩
  have other : m ≠ n := by
    rintro rfl
    have mine : s.flightProfile = some m := flies
    rw [State.flightProfile, Option.map_eq_some_iff] at mine
    obtain ⟨r, flying, rfl⟩ := mine
    have named := State.named_pos_of_mem (State.flight_mem_live flying)
    rw [State.named, ← counts.1, none] at named
    exact absurd named (Nat.lt_irrefl 0)
  rwa [State.profile_modProfile_other _ other] at need

theorem disown (s : State) (owner : Option Source) : s.FlightStays (s.disown owner) := by
  unfold State.disown
  split
  · exact modPort s _ fun _ => rfl
  · exact refl s

theorem party (s : State) (supervisor : Port) (offer : Option Offer) (offerTimer : Timer) :
    s.FlightStays { s with supervisor, offer, offerTimer } :=
  of_same (s := s) (t := { s with supervisor, offer, offerTimer }) (fun _ => rfl) rfl rfl (fun _ => rfl) fun _ => rfl

theorem withdrawFor (s : State) (p : Port) : s.FlightStays (s.withdrawFor p) := by
  unfold State.withdrawFor
  split
  · exact refl s
  · split
    · exact refl s
    · exact (party s s.supervisor none .stopped).trans (of_noticesOnly (State.noticesOnly_post _ _ _))

theorem markFinal (s : State) (n : Fin 32) : s.FlightStays (s.markFinal n) := by
  unfold State.markFinal
  split
  · exact modFlight s fun _ => rfl
  · exact refl s

end State.FlightStays

/-! ## Grant points -/

namespace State.FlightExcited

variable {s : State}

/-- A grant of a request whose outputs are READY. -/
theorem grant (h : s.FlightExcited) (f : Flight)
    (ready : ∀ n, (s.modEngine fun e => { e with inFlight := some f }).flightProfile = some n → s.needReady n = true) :
    (s.grant f).FlightExcited := by
  cases flies : (s.modEngine fun e => { e with inFlight := some f }).flight with
  | none => rw [s.grant_none f flies]; exact h
  | some r =>
    rw [s.grant_some f r flies]
    have held : (s.modEngine fun e => { e with inFlight := some f }).FlightExcited := by
      rw [State.flightExcited_iff]
      exact fun n flying => (s.needReady_iff n).1 (ready n flying)
    refine State.FlightStays.excited ?_ held
    refine .trans (.trans (.modFlight _ (f := fun r => { r with state := .inFlight }) fun _ => rfl)
      (.modSource _ r (f := fun ps => { ps with reservations := ps.reservations + r.reserves }) fun _ => rfl)) ?_
    exact State.FlightStays.modEngine _ (Engine.inFlight_begin _ _ _)

theorem grantPort (h : s.FlightExcited) {p : Port} (eligible : s.headEligible p = true) : (s.grant (.port p)).FlightExcited := by
  obtain ⟨r, rest, queue, -, eligible⟩ := State.headEligible_spec eligible
  obtain ⟨-, ready, -⟩ := (s.eligible_iff _ r).1 eligible
  refine h.grant _ fun n flies => ?_
  rw [State.flightProfile, State.flight_port (p := p) rfl] at flies
  change (s.port p).queue.head?.map (·.profile) = some n at flies
  rw [queue] at flies
  obtain rfl := Option.some.inj flies
  exact ready

theorem grantPoint (h : s.FlightExcited) (boundary : Bool) : (s.grantPoint boundary).FlightExcited := by
  have rest := s.refill_rest
  have stays : s.FlightStays s.refill :=
    .of_same (fun q => by rw [rest.2 q]) (by rw [rest.1]) (by rw [rest.1]) (fun _ => by rw [rest.1]; rfl)
      fun _ => by rw [rest.1]; rfl
  have refilled := stays.excited h
  have byPort : ∀ (a : Arbiter → Arbiter) p, s.refill.headEligible p = true →
      ((s.refill.modArbiter a).grant (.port p)).FlightExcited := fun a p eligible =>
    State.FlightExcited.grantPort (s := s.refill.modArbiter a)
      (State.FlightStays.excited (.of_same (fun _ => rfl) rfl rfl (fun _ => rfl) fun _ => rfl) refilled) eligible
  rcases s.grantPoint_cases boundary with ⟨r, found, e⟩ | ⟨-, ⟨-, e⟩ | ⟨-, ⟨p, found, e⟩ | ⟨-, ⟨p, found, e⟩ | ⟨-, e⟩⟩⟩⟩ <;> rw [e]
  · have eligible := List.find?_some found
    obtain ⟨-, -, ready, -⟩ := (s.monitorEligible_iff r).1 eligible
    refine h.grant _ fun n flies => ?_
    rw [State.flightProfile, State.flight_monitor (n := r.profile) rfl] at flies
    obtain ⟨x, found, rfl⟩ := Option.map_eq_some_iff.1 flies
    have same : x.profile = r.profile := by simpa using List.find?_some found
    rw [same]
    exact ready
  · exact State.FlightStays.excited (.modEngine s rfl) h
  · exact byPort _ p ((s.headEligible_refill p).trans (State.affinityChoice_some found).2.1.1)
  · exact byPort _ p ((s.headEligible_refill p).trans (State.turnChoice_some found).1.1)
  · exact State.FlightStays.excited (.modEngine _ rfl) refilled

theorem kick (h : s.FlightExcited) : s.kick.FlightExcited := by
  rcases s.kick_cases with ⟨-, e⟩ | ⟨-, e⟩ <;> rw [e]
  · exact h
  · exact h.grantPoint _

theorem freed (h : s.FlightExcited) (boundary : Bool) : (s.freed boundary).FlightExcited := by
  rcases s.freed_cases boundary with ⟨-, e⟩ | ⟨-, e⟩ | ⟨-, e⟩ <;> rw [e]
  · exact h.grantPoint _
  · exact (State.FlightStays.enterDown s).excited h
  · exact h

theorem afterTerminations (h : s.FlightExcited) (abandoned : Bool) : (s.afterTerminations abandoned).FlightExcited := by
  cases abandoned
  · exact h.kick
  · exact h.freed _

theorem afterPeriod (h : s.FlightExcited) : s.afterPeriod.FlightExcited := by
  unfold State.afterPeriod
  split
  · exact (State.FlightStays.enterDown _).excited h
  · split
    · exact h.freed _
    · exact h

theorem endPeriod (h : s.FlightExcited) (raw : Int) (overload : Bool) : (s.endPeriod raw overload).FlightExcited := by
  unfold State.endPeriod
  split
  next r step l _ _ _ =>
    have counted : s.FlightStays (s.modEngine (·.countPeriod l overload)) := .modEngine s (by rw [s.engine.countPeriod_eq])
    have used := State.FlightStays.excited (counted.trans (.useOutput _ r step l raw ((s.engine.countPeriod l overload).spanOverload l))) h
    exact used.afterPeriod
  · exact h

end State.FlightExcited

theorem State.FlightExcited.acts {s t : State} {i : Instr} (counts : s.ReferencesCount) (handed : s.DemandHandedOver)
    (one : s.OneInFlight) (h : s.FlightExcited) (act : Acts s i t) : t.FlightExcited := by
  have stays : ∀ {u : State}, s.FlightStays u → u.FlightExcited := fun stays => stays.excited h
  cases act with
  | idle => exact h
  | portReset p =>
    have ended : (s.resetEnded p).FlightExcited :=
      stays ((((State.FlightStays.terminate s .portReset (Request.isFrom p)).trans (.modPort _ p (f := (·.cleared)) fun _ => rfl)).trans
        (.withdrawFor _ p)).trans (.handOverDemand _ fun out => out.sameState_vote p false))
    rw [s.resetPort_eq]
    refine State.FlightStays.excited (s := s.resetFreed p) (.modPort _ p fun _ => rfl) ?_
    unfold State.resetFreed
    split
    · exact ended.freed _
    · exact ended
  | alertConfig | readNotices | setQuota | setWeight | setAllowance => exact stays (.modPort s _ fun _ => rfl)
  | claim p b n user free =>
    exact stays ((State.FlightStays.contents counts n (fun _ => .claimedBy p) (counts.2.1 n (.inl free))).trans
      (.modPort _ p (f := fun ps => { ps with owned := ps.owned + 1 }) fun _ => rfl))
  | write p f n w user code fields consistent state owner count => exact stays (.contents counts n _ count)
  | share | retireNow => exact stays (.modProfile s _ fun _ => rfl)
  | retireBusy p n =>
    rw [s.retireBusy_eq]
    have marked : s.FlightStays (s.retireMarked n) :=
      (State.FlightStays.modProfile s n (f := fun profile => { profile with state := .retiring }) fun _ => rfl).trans (.markFinal _ n)
    exact (stays ((marked.trans (.terminate _ .retired (Request.endsAtRetire n))).trans (.refreshDemand _))).kick
  | release p n user state owner count =>
    exact stays ((State.FlightStays.contents counts n (fun _ => .default) count).trans (.disown _ _))
  | submit p f w =>
    rw [s.submit_eq]
    exact (stays ((State.FlightStays.enqueue one p (newRequest p f.tag w)).trans (.refreshDemand _))).kick
  | cancel p tag =>
    rw [s.cancel_eq]
    exact (stays ((State.FlightStays.terminate s _ _).trans (.refreshDemand _))).afterTerminations _
  | fetch p b n =>
    refine (stays (.modPort s p fun ps => ?_)).kick
    unfold PortState.fetched PortState.rearm
    split <;> rfl
  | exciteVote p o b on => exact stays (.rejudgeOutput handed o (fun out => out.sameState_vote p on) fun _ => rfl)
  | setCombine p q o x y combine =>
    exact stays (.rejudgeOutput handed o (fun _ => ⟨rfl, rfl, rfl, rfl, rfl, rfl⟩) fun _ => rfl)
  | engineStart p down =>
    have leaving : s.FlightStays s.leavingDown :=
      (State.FlightStays.modEngine s rfl).trans (.of_noticesOnly (State.noticesOnly_postAll _ _))
    rw [s.startEngine_eq]
    refine stays (leaving.trans (.of_parts (fun _ => rfl) rfl rfl (fun _ => rfl) fun o ready => ?_))
    have warmed : ∀ out : OutputState, out.state = .ready → (out.warmIfDemanded false).state = .ready := fun out ready => by
      rw [out.warmIfDemanded_other false (by simp [ready])]
      exact ready
    cases o <;> exact warmed _ ready
  | haltNow => exact stays (.enterDown s)
  | haltLater => exact stays ((State.FlightStays.modEngine s rfl).trans (.of_noticesOnly (State.noticesOnly_postAll _ (.engine .halting))))
  | setAffinity => exact stays (.of_same (fun _ => rfl) rfl rfl (fun _ => rfl) fun _ => rfl)
  | setExciteTiming | dwell => exact stays (.modOutput s _ id)
  | clearLockout p o was => exact stays (.modOutput s o fun ready => absurd (was.symm.trans ready) nofun)
  | linger o was => exact stays (.modOutput s o fun ready => absurd (was.symm.trans ready) nofun)
  | holdOff o was => exact stays (.modOutput s o fun ready => absurd (was.symm.trans ready) nofun)
  | setCalPolicy => exact stays (.of_same (fun _ => rfl) rfl rfl (fun _ => rfl) fun _ => rfl)
  | forceRelease p n =>
    rw [s.forceRelease_eq]
    have erased : s.FlightStays (s.erase n) := by
      intro m flies
      refine ⟨flies, fun o need => ⟨?_, id⟩⟩
      have profile : (s.erase n).profile m = _ := s.profile_modProfile n m _
      rw [profile] at need
      split at need
      · cases o <;> cases need
      · exact need
    exact (stays ((((erased.trans (.terminate _ .revoked (Request.names n))).trans (.disown _ _)).trans
      (.of_noticesOnly (State.noticesOnly_postOwner _ _ _))).trans (.refreshDemand _))).afterTerminations _
  | makeOffer p q =>
    exact stays ((State.FlightStays.of_noticesOnly ((s.noticesOnly_withdrawOther p q).trans
      (State.noticesOnly_post _ q (.offer p)))).trans (.of_same (fun _ => rfl) rfl rfl (fun _ => rfl) fun _ => rfl))
  | handOver p => exact stays ((State.FlightStays.party s p none .stopped).trans (.of_noticesOnly (State.noticesOnly_postAll _ (.supervisor p))))
  | enterRunning =>
    rw [s.enterRunning_eq]
    have posted := State.noticesOnly_postAll (s.modEngine fun e => { e with state := .running, startTimer := .stopped }.settleBreak)
      (.engine .running)
    have entering : s.FlightStays s.enteringRunning := (State.FlightStays.modEngine s rfl).trans (.of_noticesOnly posted)
    have queues : s.enteringRunning.monitor.queue = s.monitor.queue := congrArg Monitor.queue posted.monitor
    have flight : s.enteringRunning.engine.inFlight = s.engine.inFlight :=
      (congrArg (fun e : Engine => e.inFlight) posted.engine :)
    have alone : s.enteringRunning.restartInterval.OneInFlight :=
      one.of_marks (fun q => congrArg (List.map Request.mark) (posted.queue q)) (congrArg (List.map Request.mark) queues) flight
    exact (stays ((entering.trans (.of_same (t := s.enteringRunning.restartInterval) (fun _ => rfl) rfl rfl (fun _ => rfl)
      fun _ => rfl)).trans (.placeSample alone))).kick
  | interval =>
    have alone : s.restartInterval.OneInFlight := one.of_marks (fun _ => rfl) rfl rfl
    exact (stays ((State.FlightStays.of_same (s := s) (t := s.restartInterval) (fun _ => rfl) rfl rfl (fun _ => rfl)
      fun _ => rfl).trans (.placeSample alone))).kick
  | periodEnd raw overload => exact h.endPeriod raw overload
  | warmUp o =>
    exact (stays ((State.FlightStays.modOutput s o (f := (·.becomeReady)) fun _ => rfl).trans
      (.of_noticesOnly (State.noticesOnly_postAll _ _)))).kick
  | trip o =>
    rw [s.trip_eq]
    have ended : ((s.modOutput o (·.trip)).terminate .excitationFault (s.needs o)).FlightExcited := by
      rw [State.flightExcited_iff] at h ⊢
      intro n flies q need
      rw [State.flightProfile, State.flight_terminate] at flies
      rw [(((s.modOutput o (·.trip)).quiet_terminate .excitationFault (s.needs o)).1.profiles n).need] at need
      split at flies
      · cases flies
      next stays =>
        have other : q ≠ o := by
          rintro rfl
          obtain ⟨r, flying, rfl⟩ := Option.map_eq_some_iff.1 flies
          exact stays (by rw [State.flightEnds, flying]; exact need)
        rw [State.output, State.terminate_outputs]
        change ((s.modOutput o (·.trip)).output q).state = .ready
        rw [State.output_modOutput, if_neg other]
        exact h n flies q need
    exact (((State.FlightStays.refreshDemand _).trans (.of_noticesOnly (State.noticesOnly_postTrip _ o))).excited ended).afterTerminations _
  | offerLapse o => exact stays ((State.FlightStays.party s s.supervisor none .stopped).trans (.of_noticesOnly (State.noticesOnly_post _ _ _)))

theorem State.FlightExcited.sameCore {s t : State} (same : s.SameCore t) (h : s.FlightExcited) : t.FlightExcited :=
  State.FlightStays.excited (.of_same same.queue (by rw [same.monitor]) (by rw [same.engine]) (fun n => by rw [same.profile])
    same.output) h

theorem State.FlightExcited.resetWith (straps : Straps) : (State.resetWith straps).FlightExcited := by
  intro r flies
  rw [State.flight_free rfl] at flies
  cases flies

end Sys2Proof.Machine
end

section
/-! PROOF. The excitation outputs. -/

namespace Sys2Proof.Proofs
open Sys2Proof Sys2Proof.Machine

/-- Settles O60: every act moves an output by the steps that keep it sound, and the outputs that the request in flight needs
have its demand, so that nothing but the end of the request moves them. -/
theorem excitationStaysInStep : Obligations.ExcitationStaysInStep := by
  have sound := @step_keeps State.ExcitationSound (fun _ _ => State.ExcitationSound.sameCore)
    State.ExcitationSound.resetWith fun _ _ _ law act => act.excites.sound law
  refine ⟨fun _ _ => sound, fun s t counts handed one _ excited run => ?_⟩
  exact step_leads (P := fun s => s.ReferencesCount ∧ s.DemandHandedOver ∧ s.OneInFlight ∧ s.FlightExcited)
    (fun _ _ same ⟨a, b, c, d⟩ => ⟨a.sameCore same, b.sameCore same,
      c.of_marks (fun q => by rw [same.queue q]) (by rw [same.monitor]) (by rw [same.engine]), d.sameCore same⟩)
    (fun _ _ => State.FlightExcited.sameCore) State.FlightExcited.resetWith (fun _ _ _ ⟨a, b, c, d⟩ act => d.acts a b c act)
    ⟨counts, handed, one, excited⟩ run

end Sys2Proof.Proofs
end

section
/-! SUPPORT. No eligible candidate waits at an idle converter: a grant point follows every act that makes one eligible, and
the other acts make none (R53, R54). -/

namespace Sys2Proof.Machine

/-! ## Grant points -/

namespace State.NoCandidateWaits

variable {s : State}

theorem of_busy (busy : s.engine.inFlight ≠ none) : s.NoCandidateWaits := fun _ free => absurd free busy

theorem of_stopped (stopped : s.engine.state ≠ .running) : s.NoCandidateWaits := fun running => absurd running stopped

/-- A grant point grants or leaves no eligible candidate. -/
theorem grantPoint (laws : s.RoomLaw ∧ s.CreditLaw) (boundary : Bool) : (s.grantPoint boundary).NoCandidateWaits := by
  obtain ⟨room, credits⟩ := laws
  rcases State.grantPoint_outcome (fun q r mem => (room.requests q r mem).1) boundary with
    ⟨r, candidate, e⟩ | ⟨p, affine, r, rest, -, -, e⟩ | ⟨noMonitor, ⟨noHead, e⟩ | ⟨unserved, e⟩⟩ <;> rw [e]
  · obtain ⟨mem, -⟩ := State.monitorCandidate_spec candidate
    obtain ⟨x, -, -, -, granted⟩ := State.grant_candidate room.entries mem
    rw [granted]
    refine of_busy ?_
    have flight : (s.monitorGranted x).engine.inFlight = _ := Engine.inFlight_begin _ _ _
    rw [flight]
    exact nofun
  · refine of_busy ?_
    rw [s.portPoint_engine, Engine.inFlight_begin]
    exact nofun
  · exact fun _ _ => ⟨fun _ mem => State.monitorCandidate_none noMonitor mem, noHead⟩
  · have noHead : ∀ q, s.headEligible q = false := by
      intro q
      rw [← Bool.not_eq_true]
      intro waits
      obtain ⟨x, eligible, credit⟩ := State.refill_serves (fun q => (credits.sound q).2.2.1) ⟨q, waits⟩
      exact unserved x ⟨eligible, credit⟩
    rw [State.refill_of_overdrawn fun q eligible => absurd (noHead q) (by simp [eligible])]
    refine fun _ _ => ⟨fun _ mem => State.monitorCandidate_none noMonitor mem, fun q => ?_⟩
    have same := s.headEligible_refill q
    rw [State.refill_of_overdrawn fun q eligible => absurd (noHead q) (by simp [eligible])] at same
    exact same.trans (noHead q)

theorem kick (laws : s.RoomLaw ∧ s.CreditLaw) : s.kick.NoCandidateWaits := by
  by_cases ends : s.IdleEnds
  · rw [State.kick_of_idleEnds ends]
    exact grantPoint laws false
  · rw [State.kick_of_stands ends]
    intro running free
    refine ⟨fun r mem => ?_, fun q => ?_⟩
    · cases candidate : s.monitorCandidate with
      | none => exact State.monitorCandidate_none candidate mem
      | some x => exact absurd ⟨running, free, .inl (by rw [candidate]; rfl)⟩ ends
    · rw [← Bool.not_eq_true]
      exact fun eligible => ends ⟨running, free, .inr ⟨q, eligible⟩⟩

theorem enterDown (s : State) : s.enterDown.NoCandidateWaits := of_stopped (by rw [s.enterDown_queues.2.2]; exact nofun)

theorem freed (laws : s.RoomLaw ∧ s.CreditLaw) (boundary : Bool) : (s.freed boundary).NoCandidateWaits := by
  rcases s.freed_cases boundary with ⟨-, e⟩ | ⟨-, e⟩ | ⟨stopped, e⟩ <;> rw [e]
  · exact grantPoint laws boundary
  · exact enterDown s
  · refine of_stopped fun running => ?_
    rw [running] at stopped
    rcases stopped with stopped | stopped <;> cases stopped

theorem afterTerminations (laws : s.RoomLaw ∧ s.CreditLaw) (abandoned : Bool) :
    (s.afterTerminations abandoned).NoCandidateWaits := by
  cases abandoned
  · exact kick laws
  · exact freed laws _

theorem afterPeriod (laws : s.RoomLaw ∧ s.CreditLaw) : s.afterPeriod.NoCandidateWaits := by
  unfold State.afterPeriod
  split
  · exact enterDown s
  · split
    · exact freed laws true
    next busy => exact of_busy (by simpa using busy)

end State.NoCandidateWaits

/-! ## Acts with no grant point -/

/-- Whatever is a candidate of `t` is one of `s`, and eligible in `s` where it is in `t`. -/
structure State.CandidatesStand (s t : State) : Prop where
  state : t.engine.state = s.engine.state
  flight : t.engine.inFlight = s.engine.inFlight
  valid : t.monitor.valid = s.monitor.valid
  entries : ∀ r ∈ t.monitor.queue, r ∈ s.monitor.queue
  heads : ∀ q r rest, (t.port q).queue = r :: rest →
    (∃ later, (s.port q).queue = r :: later) ∧ (t.port q).freePlaces = (s.port q).freePlaces
  need : ∀ r ∈ s.live, (t.profile r.profile).need = (s.profile r.profile).need
  ready : ∀ o, s.requestsNeed o = true → (t.output o).state = .ready → (s.output o).state = .ready

namespace State.CandidatesStand

variable {s t : State}

theorem noneWaits (h : s.CandidatesStand t) (law : s.NoCandidateWaits) : t.NoCandidateWaits := by
  intro running free
  obtain ⟨entries, heads⟩ := law (h.state ▸ running) (h.flight ▸ free)
  have ready : ∀ r ∈ s.live, t.needReady r.profile = true → s.needReady r.profile = true := by
    intro r mem
    rw [t.needReady_iff, s.needReady_iff, h.need r mem]
    exact fun ready o need => h.ready o (List.any_eq_true.2 ⟨r, mem, need⟩) (ready o need)
  refine ⟨fun r mem => ?_, fun q => ?_⟩
  · have before := h.entries r mem
    rw [← Bool.not_eq_true]
    intro eligible
    rw [State.monitorEligible_iff] at eligible
    obtain ⟨queued, -, readied, valid⟩ := eligible
    have was := entries r before
    rw [← Bool.not_eq_true, State.monitorEligible_iff] at was
    exact was ⟨queued, h.state ▸ running, ready r (State.mem_live.2 (.inr before)) readied, h.valid ▸ valid⟩
  · rw [← Bool.not_eq_true]
    intro eligible
    obtain ⟨r, rest, queue, queued, eligible⟩ := State.headEligible_spec eligible
    obtain ⟨⟨later, before⟩, places⟩ := h.heads q r rest queue
    rw [State.eligible_iff] at eligible
    obtain ⟨-, readied, valid, room⟩ := eligible
    have was := heads q
    rw [← Bool.not_eq_true, State.headEligible_cons before, State.eligible_iff] at was
    refine was ⟨queued, h.state ▸ running, ready r ?_ readied, h.valid ▸ valid, places ▸ room⟩
    exact State.mem_live.2 (.inl ⟨q, by rw [before]; exact List.mem_cons_self⟩)

/-- The outputs that live requests need, and what a candidate is judged by else, stand. -/
theorem of_same (queue : ∀ q, (t.port q).queue = (s.port q).queue ∧ (t.port q).freePlaces = (s.port q).freePlaces)
    (engine : t.engine = s.engine) (monitor : t.monitor.queue = s.monitor.queue ∧ t.monitor.valid = s.monitor.valid)
    (need : ∀ r ∈ s.live, (t.profile r.profile).need = (s.profile r.profile).need)
    (ready : ∀ o, s.requestsNeed o = true → (t.output o).state = .ready → (s.output o).state = .ready) :
    s.CandidatesStand t :=
  ⟨by rw [engine], by rw [engine], monitor.2, fun r mem => monitor.1 ▸ mem,
    fun q r rest list => ⟨⟨rest, by rw [← (queue q).1, list]⟩, (queue q).2⟩, need, ready⟩

theorem of_noticesOnly (h : s.NoticesOnly t) : s.CandidatesStand t :=
  of_same (fun q => by rw [h.ports q]; exact ⟨rfl, rfl⟩) h.engine (by rw [h.monitor]; exact ⟨rfl, rfl⟩)
    (fun r _ => by rw [h.profile]) fun o _ => by simp only [State.output, h.outputs]; exact id

theorem modPort (s : State) (p : Port) {f : PortState → PortState}
    (same : ∀ ps, (f ps).queue = ps.queue ∧ (f ps).freePlaces = ps.freePlaces) : s.CandidatesStand (s.modPort p f) := by
  refine of_same (fun q => ?_) rfl ⟨rfl, rfl⟩ (fun _ _ => rfl) fun _ _ => id
  rw [State.port_modPort]
  split
  next e => subst e; exact same _
  · exact ⟨rfl, rfl⟩

theorem modProfile (s : State) (n : Fin 32) {f : Profile → Profile}
    (need : (f (s.profile n)).need = (s.profile n).need ∨ s.named n = 0) : s.CandidatesStand (s.modProfile n f) := by
  refine of_same (fun _ => ⟨rfl, rfl⟩) rfl ⟨rfl, rfl⟩ (fun r mem => ?_) fun _ _ => id
  rw [State.profile_modProfile]
  split
  next e =>
    rcases need with need | none
    · rw [← e] at need
      rw [← e]
      exact need
    · have named := State.named_pos_of_mem mem
      rw [e, none] at named
      exact absurd named (Nat.lt_irrefl 0)
  · rfl

theorem modOutput (s : State) (o : OutputId) {f : OutputState → OutputState}
    (ready : s.requestsNeed o = true → (f (s.output o)).state = .ready → (s.output o).state = .ready) :
    s.CandidatesStand (s.modOutput o f) := by
  refine of_same (fun _ => ⟨rfl, rfl⟩) rfl ⟨rfl, rfl⟩ (fun _ _ => rfl) fun q => ?_
  rw [State.output_modOutput]
  split
  next e => subst e; exact ready
  · exact fun _ => id

theorem trans_noticesOnly {u : State} (h : s.CandidatesStand t) (k : t.NoticesOnly u) : s.CandidatesStand u :=
  ⟨by rw [k.engine, h.state], by rw [k.engine, h.flight], by rw [k.monitor, h.valid], by rw [k.monitor]; exact h.entries,
    fun q r rest list => by
      rw [k.queue] at list
      obtain ⟨later, places⟩ := h.heads q r rest list
      refine ⟨later, Eq.trans ?_ places⟩
      rw [k.ports q]
      rfl,
    fun r mem => by rw [k.profile, h.need r mem], fun o => by simp only [State.output, k.outputs]; exact h.ready o⟩

end State.CandidatesStand

theorem State.CandidatesStand.party (s : State) (supervisor : Port) (offer : Option Offer) (offerTimer : Timer) :
    s.CandidatesStand { s with supervisor, offer, offerTimer } :=
  .of_same (s := s) (t := { s with supervisor, offer, offerTimer }) (fun _ => ⟨rfl, rfl⟩) rfl ⟨rfl, rfl⟩ (fun _ _ => rfl)
    fun _ _ => id

/-- The withdrawal of an offer posts a notice; behind it, it is that of a party. -/
theorem State.withdrawFor_rest (s : State) (p : Port) :
    ({ s with offer := (s.withdrawFor p).offer, offerTimer := (s.withdrawFor p).offerTimer } : State).NoticesOnly
      (s.withdrawFor p) := by
  unfold State.withdrawFor
  split
  · exact .refl s
  · split
    · exact .refl s
    · exact State.noticesOnly_post { s with offer := none, offerTimer := .stopped } _ _

theorem OutputState.not_ready_warmIfDemanded {o : OutputState} {down : Bool} (off : o.state = .off) :
    (o.warmIfDemanded down).state ≠ .ready := by
  unfold OutputState.warmIfDemanded
  split
  · exact nofun
  · rw [off]; exact nofun

/-- An output that was demanded is READY after its demand is judged only where it was READY before (R136, R137). -/
theorem OutputState.ready_of_judgedFrom {new old : OutputState} {down : Bool} (demanded : old.demand = true)
    (same : new.state = old.state) (ready : (new.judgedFrom old down).state = .ready) : old.state = .ready := by
  unfold OutputState.judgedFrom at ready
  split at ready
  · exact same.symm.trans ready
  next lost =>
    have demand : new.demand = false := by rw [demanded] at lost; simpa using lost
    unfold OutputState.move at ready
    rw [same, demand] at ready
    cases was : old.state with
    | ready => rfl
    | warming => rw [was] at ready; cases ready
    | off | linger | tripped | lockedOut => rw [was] at ready; exact absurd (same.symm.trans ready) (by simp [was])

theorem OutputState.demand_of_requests {s : State} (handed : s.DemandHandedOver) {o : OutputId}
    (needed : s.requestsNeed o = true) : (s.output o).demand = true := by
  rw [OutputState.demand, (s.demandHandedOver_iff.1 handed) o, needed, Bool.true_or]

theorem State.CandidatesStand.rejudgeOutput {s : State} (handed : s.DemandHandedOver) (o : OutputId)
    {f : OutputState → OutputState} (same : ∀ out, (f out).state = out.state) : s.CandidatesStand (s.rejudgeOutput o f) :=
  .modOutput s o fun needed => OutputState.ready_of_judgedFrom (OutputState.demand_of_requests handed needed) (same _)

/-- What the end of a port's requests, as its reset makes it, leaves of the candidates where none of them was in flight. -/
theorem State.CandidatesStand.resetEnded {s : State} (room : s.RoomLaw) (handed : s.DemandHandedOver) (p : Port)
    (stays : s.flightEnds (Request.isFrom p) = false) : s.CandidatesStand (s.resetEnded p) := by
  let ended := s.terminate .portReset (Request.isFrom p)
  have engine : (s.resetEnded p).engine = s.engine := by
    rw [s.engine_resetEnded, s.terminate_engine, if_neg (by simp [stays])]
  have monitor : (s.resetEnded p).monitor = _ :=
    (State.monitor_withdrawFor (ended.modPort p (·.cleared)) p).trans (s.terminate_monitor .portReset (Request.isFrom p))
  have withdrawn := State.withdrawFor_rest (ended.modPort p (·.cleared)) p
  refine ⟨by rw [engine], by rw [engine], by rw [monitor], fun r mem => ?_, fun q r rest list => ?_, fun r _ => ?_,
    fun o needed ready => ?_⟩
  · rw [monitor] at mem
    exact List.mem_of_mem_filter mem
  · have port : (s.resetEnded p).port q = _ := withdrawn.ports q
    have places : ((s.resetEnded p).port q).freePlaces = ((ended.modPort p (·.cleared)).port q).freePlaces := by rw [port]; rfl
    have same : ((s.resetEnded p).port q).queue = ((ended.modPort p (·.cleared)).port q).queue := by rw [port]; rfl
    rw [same, State.port_modPort] at list
    rw [places, State.port_modPort]
    have queue := s.terminate_queue .portReset (Request.isFrom p) q
    split at list
    next e =>
      subst e
      have mem : r ∈ (ended.port q).queue := by
        change (ended.port q).queue = _ at list
        rw [list]
        exact List.mem_cons_self
      rw [queue, List.mem_filter] at mem
      have source := (room.requests q r mem.1).1
      simp [Request.isFrom, source] at mem
    next other =>
      rw [if_neg other]
      change (ended.port q).queue = _ at list
      have all : (s.port q).queue.filter (fun r => !Request.isFrom p r) = (s.port q).queue := by
        rw [List.filter_eq_self]
        intro x mem
        simp [Request.isFrom, (room.requests q x mem).1, other]
      rw [queue, all] at list
      refine ⟨⟨rest, list⟩, ?_⟩
      have ring := (s.portsWork_terminate .portReset (Request.isFrom p)).ring q
      have reservations := s.terminate_reservations .portReset (Request.isFrom p) q
      have kept : (ended.port q).reservations = (s.port q).reservations := by
        refine reservations.trans ?_
        cases flies : s.flight with
        | none => exact Nat.sub_zero _
        | some r =>
          rw [State.flightEnds, flies, Option.any_some] at stays
          simp [stays]
      change ringCapacity - (ended.port q).ring.length - (ended.port q).reservations = _
      rw [kept, ring]
      rfl
  · have kept : ((s.resetEnded p).profile r.profile).need = (ended.profile r.profile).need := by
      have same : (s.resetEnded p).profile r.profile = _ := withdrawn.profile r.profile
      rw [same]
      rfl
    rw [kept]
    exact ((s.quiet_terminate .portReset (Request.isFrom p)).1.profiles r.profile).need
  · have output : ((ended.modPort p (·.cleared)).withdrawFor p).output o = s.output o := by
      rw [State.output, withdrawn.outputs]
      exact congrArg (·.get o) (s.terminate_outputs .portReset (Request.isFrom p))
    unfold State.resetEnded at ready
    rw [State.output_handOverDemand, show ((s.terminate .portReset (Request.isFrom p)).modPort p (·.cleared)).withdrawFor p =
      (ended.modPort p (·.cleared)).withdrawFor p from rfl, output] at ready
    refine OutputState.ready_of_judgedFrom (OutputState.demand_of_requests handed needed) ?_ ready
    rfl

theorem State.NoCandidateWaits.acts {s t : State} {i : Instr} (counts : s.ReferencesCount) (handed : s.DemandHandedOver)
    (laws : s.RoomLaw ∧ s.CreditLaw) (h : s.NoCandidateWaits) (act : Acts s i t) : t.NoCandidateWaits := by
  have stands : ∀ {u : State}, s.CandidatesStand u → u.NoCandidateWaits := fun stands => stands.noneWaits h
  have worked : ∀ {u : State}, s.Works u → u.RoomLaw ∧ u.CreditLaw := fun works =>
    works.keeps (P := fun s => s.RoomLaw ∧ s.CreditLaw) (fun _ _ w ⟨room, credits⟩ => ⟨room.step w, credits.step room w⟩) laws
  have unnamed : ∀ {n}, (s.profile n).refCount = 0 → s.named n = 0 := fun none => by rw [State.named, ← counts.1, none]
  cases act with
  | idle => exact h
  | portReset p =>
    rw [s.resetPort_eq]
    refine State.CandidatesStand.noneWaits (.modPort _ p fun _ => ⟨rfl, rfl⟩) ?_
    unfold State.resetFreed
    split
    · exact .freed (worked (((State.Works.of_step (.resets p)).trans (.withdrawFor _ p)).trans
        (.of_stands (.handOverDemand _ _)))) false
    next stays => exact stands (.resetEnded laws.1 handed p (by simpa using stays))
  | alertConfig | readNotices | setQuota | setWeight | setAllowance => exact stands (.modPort s _ fun _ => ⟨rfl, rfl⟩)
  | claim p b n user free =>
    exact State.CandidatesStand.noneWaits (.modPort _ p fun _ => ⟨rfl, rfl⟩)
      (stands (.modProfile s n (f := fun _ => .claimedBy p) (.inr (unnamed (counts.2.1 n (.inl free))))))
  | write p f n w user code fields consistent state owner count => exact stands (.modProfile s n (.inr (unnamed count)))
  | share | retireNow => exact stands (.modProfile s _ (.inl rfl))
  | retireBusy p n user =>
    rw [s.retireBusy_eq]
    have marked : s.Works (s.retireMarked n) :=
      (State.Works.of_stands (.modProfile s n (f := fun profile => { profile with state := .retiring }) (.inl user))).trans
        (.of_step (.marks n))
    exact .kick (worked ((marked.trans (.of_step (.terminates .retired (Request.endsAtRetire n)))).trans (.refreshDemand _)))
  | release p n user state owner count =>
    have released := stands (.modProfile s n (f := fun _ => .default) (.inr (unnamed count)))
    exact State.CandidatesStand.noneWaits (.modPort _ p (f := fun ps => { ps with owned := ps.owned - 1 }) fun _ => ⟨rfl, rfl⟩)
      released
  | submit p f w fields =>
    rw [s.submit_eq]
    exact .kick (worked ((State.Works.of_step (.enqueues p f.tag w (allowed_of_fields fields))).trans (.refreshDemand _)))
  | cancel p tag =>
    rw [s.cancel_eq]
    exact .afterTerminations (worked ((State.Works.of_step (.terminates .cancelled (Request.isTagged p tag))).trans
      (.refreshDemand _))) _
  | fetch p b n =>
    refine .kick (worked (.of_stands (.modPort s p (f := (·.fetched n)) fun ps => ?_)))
    have shorter : (ps.ring.drop n).length ≤ ps.ring.length := by rw [List.length_drop]; omega
    unfold PortState.fetched PortState.rearm
    split <;> exact ⟨rfl, shorter, rfl, rfl, rfl⟩
  | exciteVote | setCombine => exact stands (.rejudgeOutput handed _ fun _ => rfl)
  | engineStart => exact .of_stopped nofun
  | haltNow => exact .enterDown s
  | haltLater =>
    refine .of_stopped ?_
    have posted := State.noticesOnly_postAll (s.modEngine fun e => { e with state := .halting }) (.engine .halting)
    have state : s.awaitPeriod.engine.state = .halting := (congrArg (fun e : Engine => e.state) posted.engine :)
    rw [state]
    exact nofun
  | setAffinity => exact stands (.of_same (fun _ => ⟨rfl, rfl⟩) rfl ⟨rfl, rfl⟩ (fun _ _ => rfl) fun _ _ => id)
  | setCalPolicy => exact stands (.of_same (fun _ => ⟨rfl, rfl⟩) rfl ⟨rfl, rfl⟩ (fun _ _ => rfl) fun _ _ => id)
  | setExciteTiming | dwell => exact stands (.modOutput s _ fun _ => id)
  | clearLockout | linger | holdOff => exact stands (.modOutput s _ fun _ ready => absurd ready (OutputState.not_ready_warmIfDemanded rfl))
  | forceRelease p n user =>
    rw [s.forceRelease_eq]
    have ended : s.Works ((s.erase n).terminate .revoked (Request.names n)) :=
      (State.Works.of_stands (t := s.erase n) (.modProfile s n (.inl user))).trans (.of_step (.terminates _ _))
    exact .afterTerminations (s := s.forceEnded n) (worked (((ended.trans (.disown _ _)).trans
      (.of_noticesOnly (State.noticesOnly_postOwner _ _ _))).trans (.refreshDemand _))) _
  | makeOffer p q =>
    have posted := (s.noticesOnly_withdrawOther p q).trans (State.noticesOnly_post _ q (.offer p))
    exact State.CandidatesStand.noneWaits (s := (s.withdrawOther p q).post q (.offer p))
      (.of_same (fun _ => ⟨rfl, rfl⟩) rfl ⟨rfl, rfl⟩ (fun _ _ => rfl) fun _ _ => id) (stands (.of_noticesOnly posted))
  | handOver p =>
    exact State.CandidatesStand.noneWaits (.of_noticesOnly (State.noticesOnly_postAll _ (.supervisor p)))
      (stands (.party s p none .stopped))
  | enterRunning =>
    rw [s.enterRunning_eq]
    have running : s.Works s.enteringRunning :=
      (State.Works.of_stands (.modEngine s (f := fun e => { e with state := .running, startTimer := .stopped }.settleBreak) rfl
        fun step now zero => ⟨step, now, zero⟩)).trans (.of_noticesOnly (State.noticesOnly_postAll _ _))
    exact .kick (worked ((running.trans (.of_stands (t := s.enteringRunning.restartInterval) (.modMonitor _ rfl))).trans
      (.placeSample _)))
  | interval =>
    exact .kick (worked ((State.Works.of_stands (t := s.restartInterval) (.modMonitor s rfl)).trans (.placeSample _)))
  | periodEnd raw overload =>
    unfold State.endPeriod
    split
    next r step l flight now _ =>
      have counted : s.Works (s.modEngine (·.countPeriod l overload)) :=
        .of_stands (.modEngine s (f := (·.countPeriod l overload)) rfl fun step now zero => ⟨step, now, zero⟩)
      exact .afterPeriod (worked (counted.trans (.useOutput _ r step l raw _ flight now)))
    · exact h
  | warmUp o =>
    exact .kick (worked ((State.Works.of_stands (.modOutput s o (·.becomeReady))).trans
      (.of_noticesOnly (State.noticesOnly_postAll _ _))))
  | trip o =>
    rw [s.trip_eq]
    exact .afterTerminations (s := s.tripEnded o) (worked ((((State.Works.of_stands (.modOutput s o (·.trip))).trans
      (.of_step (.terminates .excitationFault (s.needs o)))).trans (.refreshDemand _)).trans
        (.of_noticesOnly (State.noticesOnly_postTrip _ o)))) _
  | offerLapse o =>
    exact State.CandidatesStand.noneWaits (.of_noticesOnly (State.noticesOnly_post _ _ _)) (stands (.party s s.supervisor none .stopped))

theorem State.NoCandidateWaits.sameCore {s t : State} (same : s.SameCore t) (h : s.NoCandidateWaits) : t.NoCandidateWaits := by
  refine State.CandidatesStand.noneWaits (.of_same (fun q => ?_) same.engine (by rw [same.monitor]; exact ⟨rfl, rfl⟩)
    (fun r _ => by rw [same.profile]) fun o _ => by rw [same.output]; exact id) h
  rw [same.ports q]
  exact ⟨rfl, rfl⟩

theorem State.NoCandidateWaits.resetWith (straps : Straps) : (State.resetWith straps).NoCandidateWaits := .of_stopped nofun

end Sys2Proof.Machine
end

section
/-! PROOF. The monitor queue, the flight and the candidates. -/

namespace Sys2Proof.Proofs
open Sys2Proof Sys2Proof.Machine

/-- Settles O57: the monitor queue and the flight through every step of the converter's work; and every act that could make a
candidate eligible ends in a grant point, which leaves none waiting. -/
theorem monitorQueueAndFlightStayLawful : Obligations.MonitorQueueAndFlightStayLawful := by
  refine ⟨fun s t profiles queue run => ?_, fun s t profiles queue slots one run => ?_, fun s t lawful run => ?_⟩
  · refine step_leads (P := fun s => (s.profile 0).autoRecal = false ∧ s.MonitorQueueLawful)
      (fun _ _ same ⟨fixed, queue⟩ => ⟨by rw [same.profile]; exact fixed, queue.of_asks (by rw [same.monitor])⟩)
      (fun _ _ same queue => queue.of_asks (by rw [same.monitor])) State.MonitorQueueLawful.resetWith (fun s i t ⟨fixed, queue⟩ act => ?_)
      ⟨profiles.fixed, queue⟩ run
    obtain ⟨touched, deals, -⟩ := act.deals
    exact queue.deals fixed deals
  · have law : s.FlightLawful := ⟨one, queue, fun q => (slots.1 q).2.2.2.2.1, profiles.fixed⟩
    exact (step_keeps (fun _ _ => State.FlightLawful.sameCore) State.FlightLawful.resetWith (fun _ _ _ => State.FlightLawful.acts)
      law run).one
  · exact step_leads (P := fun s => s.ReferencesCount ∧ s.DemandHandedOver ∧ (s.RoomLaw ∧ s.CreditLaw) ∧ s.NoCandidateWaits)
      (fun _ _ same ⟨counts, handed, ⟨room, credits⟩, waits⟩ =>
        ⟨counts.sameCore same, handed.sameCore same, ⟨room.sameCore same, credits.sameCore room same⟩, waits.sameCore same⟩)
      (fun _ _ => State.NoCandidateWaits.sameCore) State.NoCandidateWaits.resetWith
      (fun _ _ _ ⟨counts, handed, laws, waits⟩ act => waits.acts counts handed laws act)
      ⟨lawful.references, lawful.demand, ⟨s.ringsHoldRoom_iff.1 lawful.rings, s.creditLaw_iff.1 lawful.credits⟩,
        lawful.noneWaits⟩ run

end Sys2Proof.Proofs
end

section
/-! SUPPORT. Offset records and ZEROs through every act (R4, R5, R40). -/

namespace Sys2Proof.Machine

/-! ## The steps of a ZERO in the monitor queue -/

/-- While a step of a ZERO is under way, the monitor entry in flight is a ZERO. -/
def State.ZeroEntries (s : State) : Prop :=
  ∀ r ∈ s.monitor.queue, r.state = .inFlight → ∀ step, s.engine.step = some step → step.ofZero = true → r.kind = .zero

theorem State.zeroEntries_of_elsewhere {s : State} (law : s.FlightLawful) (elsewhere : ∀ n, s.engine.inFlight ≠ some (.monitor n)) :
    s.ZeroEntries :=
  fun r mem state => absurd ((law.one.2.2.1 r mem).1 state) (elsewhere r.profile)

theorem State.zeroEntries_of_free {s : State} (law : s.FlightLawful) (free : s.engine.inFlight = none) : s.ZeroEntries :=
  State.zeroEntries_of_elsewhere law fun n => by rw [free]; exact nofun

theorem State.ZeroEntries.modFlight {s : State} (h : s.ZeroEntries) {f : Request → Request}
    (kept : ∀ r, (f r).state = r.state ∧ (f r).kind = r.kind) : (s.modFlight f).ZeroEntries := by
  intro r mem state step now zero
  rw [s.engine_modFlight] at now
  obtain ⟨x, before, same⟩ : ∃ x ∈ s.monitor.queue, r.state = x.state ∧ r.kind = x.kind := by
    unfold State.modFlight at mem
    split at mem
    · exact ⟨r, mem, rfl, rfl⟩
    · exact ⟨r, mem, rfl, rfl⟩
    · obtain ⟨x, before, rfl⟩ := List.mem_map.1 mem
      refine ⟨x, before, ?_⟩
      split
      · exact kept x
      · exact ⟨rfl, rfl⟩
  rw [same.2]
  exact h x before (same.1 ▸ state) step now zero

theorem State.ZeroEntries.terminate {s : State} (h : s.ZeroEntries) (law : s.FlightLawful) (reason : Reason)
    (ends : Request → Bool) : (s.terminate reason ends).ZeroEntries := by
  have engine := s.terminate_engine reason ends
  split at engine
  · exact State.zeroEntries_of_free (law.step (.terminates reason ends)) (by rw [engine]; rfl)
  · intro r mem state step now zero
    rw [s.terminate_monitor] at mem
    rw [engine] at now
    exact h r (List.mem_of_mem_filter mem) state step now zero

theorem State.ZeroEntries.place {s : State} (h : s.ZeroEntries) (n : Fin 32) (kind : Kind) : (s.place n kind).ZeroEntries := by
  intro r mem state
  change r ∈ s.monitor.queue ++ [monitorEntry n kind] at mem
  rcases List.mem_append.1 mem with mem | mem
  · exact h r mem state
  · rw [List.mem_singleton.1 mem] at state
    cases state

theorem State.ZeroEntries.grantPoint {s : State} (law : s.FlightLawful) (room : s.RoomLaw)
    (free : s.engine.inFlight = none) (boundary : Bool) : (s.grantPoint boundary).ZeroEntries := by
  have after := law.step (.grants boundary free)
  rcases State.grantPoint_outcome law.source boundary with
    ⟨r, candidate, e⟩ | ⟨p, affine, r, rest, -, -, e⟩ | ⟨-, ⟨-, e⟩ | ⟨-, e⟩⟩
  · obtain ⟨mem, -⟩ := State.monitorCandidate_spec candidate
    obtain ⟨x, there, same, -, granted⟩ := State.grant_candidate room.entries mem
    rw [e, granted]
    intro y mem state step now zero
    have kind := kind_of_begin (show ({ s.engine with inFlight := some (.monitor x.profile) }.begin x.kind _).step = _ from now) zero
    obtain ⟨z, before, rfl⟩ := List.mem_map.1 mem
    split at state
    next profile =>
      rw [if_pos profile]
      have z' := State.find_monitor law.monitorQueue before
      rw [profile, State.find_monitor law.monitorQueue there] at z'
      obtain rfl := Option.some.inj z'
      exact kind
    · rw [law.queued_of_free free (State.mem_live.2 (.inr before))] at state
      cases state
  · refine State.zeroEntries_of_elsewhere after fun n => ?_
    rw [e, s.portPoint_engine, Engine.inFlight_begin]
    exact nofun
  · exact State.zeroEntries_of_free after (by rw [e]; exact free)
  · refine State.zeroEntries_of_free after ?_
    rw [e]
    have engine : s.refill.goIdle.engine = s.refill.engine.settleBreak := rfl
    rw [engine, s.refill_rest.1]
    exact free

theorem State.ZeroEntries.deliver {s : State} (h : s.ZeroEntries) (law : s.FlightLawful) {r : Request}
    (flies : s.flight = some r) (formed : Formed) : (s.deliver r formed).ZeroEntries := by
  have after := law.step (.delivers r formed flies)
  obtain ⟨record, value, e⟩ := s.deliver_eq r formed
  obtain ⟨engine, monitor, -, -⟩ := s.written_rest r record value
  have written : (s.written r record value).ZeroEntries := by
    unfold State.ZeroEntries
    rw [engine, monitor]
    exact h
  rcases (s.written r record value).endTurn_cases r value with ⟨-, turn⟩ | ⟨-, -, turn⟩ | ⟨-, -, turn⟩
  · refine State.zeroEntries_of_free after ?_
    rw [e, turn, State.finish_engine]
    rfl
  · refine State.zeroEntries_of_free after ?_
    rw [e, turn]
    rfl
  · rw [e, turn]
    intro x mem state step now zero
    have marked := written.modFlight (f := (·.after value)) fun _ => ⟨rfl, rfl⟩
    have kind : r.kind = .zero := kind_of_begin (show (Engine.begin _ r.kind _).step = _ from now) zero
    unfold State.modFlight at mem
    have flight : (s.written r record value).engine.inFlight = s.engine.inFlight := by rw [engine]
    obtain ⟨y, before, same⟩ : ∃ y ∈ s.monitor.queue, x.state = y.state ∧ x.kind = y.kind := by
      rw [← monitor]
      split at mem
      · exact ⟨x, mem, rfl, rfl⟩
      · exact ⟨x, mem, rfl, rfl⟩
      · obtain ⟨y, before, rfl⟩ := List.mem_map.1 mem
        refine ⟨y, before, ?_⟩
        split <;> exact ⟨rfl, rfl⟩
    have mine := law.flight_of_state (State.mem_live.2 (.inr before)) (same.1 ▸ state)
    rw [flies] at mine
    obtain rfl := Option.some.inj mine
    exact same.2.trans kind

theorem State.ZeroEntries.step {s t : State} (w : WorkStep s t) (law : s.FlightLawful) (room : s.RoomLaw) (h : s.ZeroEntries) :
    t.ZeroEntries := by
  have after := law.step w
  cases w with
  | stands stand =>
    intro r mem state step now zero
    obtain ⟨before, was, ofZero⟩ := stand.step step now zero
    exact h r (stand.monitor ▸ mem) state before was ofZero
  | terminates reason ends => exact h.terminate law reason ends
  | marks n =>
    unfold State.markFinal
    split
    · exact h.modFlight fun _ => ⟨rfl, rfl⟩
    · exact h
  | resets p => exact h.terminate law .portReset (Request.isFrom p)
  | weighs | enqueues => exact h
  | samples | zeros => exact h.place _ _
  | grants boundary free => exact State.ZeroEntries.grantPoint law room free boundary
  | downs => exact State.zeroEntries_of_free after (by rw [s.enterDown_queues.2.2]; rfl)
  | delivers r formed flies => exact h.deliver law flies formed
  | completes | sampled => exact State.zeroEntries_of_free after (congrArg Engine.inFlight (State.finish_engine _))

/-! ## The live ZEROs -/

/-- Where the live requests after an act come from: they were live, or an accepted SUBMIT or a placement made them. -/
theorem State.Deals.origin {s t : State} {touched : Option (Fin 32)} (d : s.Deals touched t) {r : Request} (mem : r ∈ t.live) :
    (∃ x ∈ s.live, x.ask = r.ask) ∨
      (∃ p tag w, s.submitRefusal p tag w = none ∧ w.profile = r.profile ∧ w.kind = r.kind) ∨ r.kind = .measure ∨
      (s.profile r.profile).autoRecal = true := by
  have wound : ∀ {u v : State}, u.Winds v → r ∈ v.live → ∃ x ∈ u.live, x.ask = r.ask := fun w mem => mem_of_asks w.live mem
  cases d with
  | winds w => exact .inl (wound w mem)
  | lifecycle n f user count empty held w => exact .inl (wound (u := s.modProfile n f) w mem)
  | erases n user w => exact .inl (wound (u := s.erase n) ((State.winds_terminate _ _ _).trans w) mem)
  | submits p tag w accepted wind =>
    obtain ⟨x, there, same⟩ := wound wind mem
    rcases State.mem_live.1 there with ⟨q, queued⟩ | queued
    · rw [State.queue_enqueue] at queued
      rcases List.mem_append.1 queued with queued | queued
      · exact .inl ⟨x, State.mem_live.2 (.inl ⟨q, queued⟩), same⟩
      · split at queued
        · obtain rfl := List.mem_singleton.1 queued
          exact .inr (.inl ⟨p, tag, w, accepted, (congrArg Request.profile same :), (congrArg Request.kind same :)⟩)
        · cases queued
    · exact .inl ⟨x, State.mem_live.2 (.inr queued), same⟩
  | samples u before profiles queue none w =>
    obtain ⟨x, there, same⟩ := wound w mem
    rcases State.mem_live.1 there with ⟨q, queued⟩ | queued
    · obtain ⟨y, live, asks⟩ := mem_of_asks before.live (State.mem_live.2 (.inl ⟨q, queued⟩))
      exact .inl ⟨y, live, asks.trans same⟩
    · change x ∈ u.monitor.queue ++ [monitorEntry 0 .measure] at queued
      rcases List.mem_append.1 queued with queued | queued
      · obtain ⟨y, live, asks⟩ := mem_of_asks before.live (State.mem_live.2 (.inr queued))
        exact .inl ⟨y, live, asks.trans same⟩
      · obtain rfl := List.mem_singleton.1 queued
        exact .inr (.inr (.inl (congrArg Request.kind same.symm :)))
  | passes u before profiles queue w =>
    obtain ⟨x, there, same⟩ := wound w mem
    rcases State.mem_live.1 there with ⟨q, queued⟩ | queued
    · rw [u.ageingPass_port (·.queue) (fun _ _ _ _ => rfl) q] at queued
      obtain ⟨y, live, asks⟩ := mem_of_asks before.live (State.mem_live.2 (.inl ⟨q, queued⟩))
      exact .inl ⟨y, live, asks.trans same⟩
    · rw [u.ageingPass_monitor] at queued
      rcases List.mem_append.1 queued with queued | queued
      · obtain ⟨y, live, asks⟩ := mem_of_asks before.live (State.mem_live.2 (.inr queued))
        exact .inl ⟨y, live, asks.trans same⟩
      · rw [u.placedZeros_eq] at queued
        obtain ⟨n, qualified, rfl⟩ := List.mem_map.1 queued
        have qualifies := (List.mem_filter.1 (List.mem_of_mem_take qualified)).2
        simp only [State.qualifies, Bool.and_eq_true] at qualifies
        obtain ⟨⟨⟨⟨-, auto⟩, -⟩, -⟩, -⟩ := qualifies
        have profile : n = r.profile := (congrArg Request.profile same :)
        rw [← profile, ← profiles n]
        exact .inr (.inr (.inr auto))

/-- A profile with live requests keeps its method. -/
theorem Acts.method_stays {s t : State} {i : Instr} (act : Acts s i t) (counts : t.ReferencesCount) {n : Fin 32}
    (held : 0 < (t.profile n).refCount) : (t.profile n).method = (s.profile n).method := by
  rcases act.profile_cases n with ⟨same, -⟩ | ⟨-, ⟨p, -, e⟩ | ⟨w, -, -, none, e⟩ | ⟨p, set, -, -, e⟩ | e⟩
  · exact same.method
  · rw [e] at held; exact absurd held (Nat.lt_irrefl 0)
  · rw [e] at held
    exact absurd held (by rw [show ((s.profile n).written w).refCount = (s.profile n).refCount from rfl, none]; exact Nat.lt_irrefl 0)
  · rw [e]
  · rw [counts.2.1 n (.inl (by rw [e]; rfl))] at held; exact absurd held (Nat.lt_irrefl 0)

/-- What the records' law rests on. -/
structure State.RecordLaw (s : State) : Prop where
  counts : s.ReferencesCount
  profiles : s.ProfilesSound
  flight : s.FlightLawful
  room : s.RoomLaw
  zeros : s.ZeroEntries
  records : s.RecordsSound

theorem State.flight_zero {s : State} (flight : s.FlightLawful) (room : s.RoomLaw) (zeros : s.ZeroEntries) {r : Request} {step : OpStep}
    (flies : s.flight = some r) (now : s.engine.step = some step) (ofZero : step.ofZero = true) : r.kind = .zero := by
  rcases flight.flight_source flies with ⟨p, rest, inFlight, queue, -⟩ | ⟨-, mem, -, -⟩
  · obtain ⟨x, later, list, -, zero, -⟩ := room.flying p inFlight
    rw [queue] at list
    obtain ⟨rfl, rfl⟩ := List.cons.inj list
    exact zero step now ofZero
  · exact zeros r mem (flight.state_of_flight flies) step now ofZero

theorem State.ProfilesSound.stored {s : State} (h : s.ProfilesSound) {n : Fin 32} (auto : (s.profile n).autoRecal = true) :
    n ≠ 0 ∧ (s.profile n).method = .stored := by
  have user : n ≠ 0 := by
    rintro rfl
    rw [h.fixed] at auto
    cases auto
  exact ⟨user, (h.1 n user).2.2.2 auto⟩

/-- A ZERO is accepted against a STORED profile of the submitting port (R40). -/
theorem State.stored_of_accepted {s : State} (h : s.ProfilesSound) {p : Port} {tag : Byte} {w : Submission}
    (accepted : s.submitRefusal p tag w = none) (kind : w.kind = .zero) :
    w.profile ≠ 0 ∧ (s.profile w.profile).method = .stored := by
  unfold State.submitRefusal at accepted
  split_ifs at accepted with _ _ _ foreign unstored
  have owner : (s.profile w.profile).ownedBy p = true := by simpa [kind] using foreign
  have method : (s.profile w.profile).method = .stored := by simpa [kind] using unstored
  refine ⟨fun fixed => ?_, method⟩
  have monitor : (s.profile 0).owner = some .monitor := (congrArg Profile.owner h.2 :)
  rw [fixed, Profile.ownedBy, monitor] at owner
  cases of_decide_eq_true owner

theorem State.RecordsSound.acts {s t : State} {i : Instr} (h : s.RecordLaw) (act : Acts s i t) : t.RecordsSound := by
  obtain ⟨counts, profiles, flight, room, zeros, stored, fixed, live, -⟩ := h
  have counted := counts.acts act
  obtain ⟨touched, deals, -⟩ := act.deals
  have recorded : ∀ n rec, (t.profile n).record = some rec → n ≠ 0 ∧ (t.profile n).state ≠ .free ∧ (t.profile n).method = .stored := by
    intro n rec record
    rcases act.profile_cases n with ⟨same, moved, lifecycle⟩ | ⟨user, ⟨p, -, e⟩ | ⟨w, -, -, -, e⟩ | ⟨p, set, -, taken, e⟩ | e⟩
    · rw [same.method]
      have idle : (t.profile n).state ≠ .free ↔ (s.profile n).state ≠ .free := not_congr lifecycle
      rw [idle]
      cases before : (s.profile n).record with
      | some old =>
        refine ⟨?_, stored n old before⟩
        rintro rfl
        rw [fixed] at before
        cases before
      | none =>
        obtain ⟨r, flies, averaging, rfl⟩ : ∃ r, s.flight = some r ∧ s.engine.step = some .zeroAveraging ∧ n = r.profile := by
          rcases moved with e | ⟨raw, overload, -, rfl⟩
          · rw [e, before] at record; cases record
          · by_contra others
            rw [s.record_endPeriod raw overload n (fun r flies now same => others ⟨r, flies, now, same⟩) before] at record
            cases record
        have mem := State.flight_mem_live flies
        obtain ⟨user, method⟩ := live r mem (State.flight_zero flight room zeros flies averaging rfl)
        refine ⟨user, fun free => ?_, method⟩
        have named := State.named_pos_of_mem mem
        rw [State.named, ← counts.1, counts.2.1 r.profile (.inl free)] at named
        exact absurd named (Nat.lt_irrefl 0)
    · rw [e] at record; cases record
    · rw [e] at record ⊢
      refine ⟨user, nofun, ?_⟩
      simp only [Profile.written] at record ⊢
      split at record
      next keeps =>
        simp only [Profile.keepsRecord, Bool.and_eq_true, decide_eq_true_eq] at keeps
        rw [← keeps.2]
        exact (stored n rec record).2
      · cases record
    · rw [e] at record ⊢
      exact ⟨user, taken, (stored n rec record).2⟩
    · rw [e] at record; cases record
  refine ⟨fun n rec record => (recorded n rec record).2, ?_, fun r mem kind => ?_, fun r step flies now ofZero => ?_⟩
  · by_contra some
    obtain ⟨rec, record⟩ := Option.ne_none_iff_exists'.1 some
    exact (recorded 0 rec record).1 rfl
  · have held : 0 < (t.profile r.profile).refCount := by
      rw [counted.1]
      exact State.named_pos_of_mem mem
    rw [act.method_stays counted held]
    rcases deals.origin mem with ⟨x, there, same⟩ | ⟨p, tag, w, accepted, profile, zero⟩ | measure | auto
    · have profile : x.profile = r.profile := (congrArg Request.profile same :)
      have zero : x.kind = r.kind := (congrArg Request.kind same :)
      rw [← profile]
      exact live x there (zero.trans kind)
    · rw [← profile]
      rw [← zero] at kind
      exact State.stored_of_accepted profiles accepted kind
    · rw [measure] at kind; cases kind
    · exact profiles.stored auto
  · have works := act.works.keeps (P := fun s => s.FlightLawful ∧ s.RoomLaw ∧ s.ZeroEntries)
      (fun _ _ w ⟨flight, room, zeros⟩ => ⟨flight.step w, room.step w, zeros.step w flight room⟩) ⟨flight, room, zeros⟩
    obtain ⟨flight, room, zeros⟩ := works
    exact State.flight_zero flight room zeros flies now ofZero

theorem State.zeroEntries_of_lawful {s : State} (flight : s.FlightLawful) (records : s.RecordsSound) : s.ZeroEntries :=
  fun r mem state step now zero => records.2.2.2 r step (flight.flight_of_state (State.mem_live.2 (.inr mem)) state) now zero

theorem State.flight_sameCore {s t : State} (same : s.SameCore t) : t.flight = s.flight := by
  unfold State.flight
  simp only [same.engine, same.queue, same.monitor]

theorem State.RecordsSound.sameCore {s t : State} (same : s.SameCore t) (h : s.RecordsSound) : t.RecordsSound := by
  have live : t.live = s.live := by
    have queue := same.queue
    simp only [State.live, same.monitor]
    exact congrArg (· ++ _) (congrArg₂ (· ++ ·) (congrArg₂ (· ++ ·) (queue .a) (queue .b)) (queue .c))
  unfold State.RecordsSound
  simp only [same.profile, live, State.flight_sameCore same, same.engine]
  exact h

theorem State.RecordsSound.resetWith (straps : Straps) : (State.resetWith straps).RecordsSound := by
  refine ⟨fun n rec record => ?_, ?_, fun r mem => ?_, fun r step flies => ?_⟩
  · rw [State.profile_resetWith] at record
    split at record <;> cases record
  · rw [State.profile_resetWith]; rfl
  · rw [State.live_resetWith] at mem; cases mem
  · rw [State.flight_free rfl] at flies; cases flies

theorem State.RetiringHeld.sameCore {s t : State} (same : s.SameCore t) (h : s.RetiringHeld) : t.RetiringHeld := by
  unfold State.RetiringHeld
  simp only [same.profile]
  exact h

end Sys2Proof.Machine
end

section
/-! PROOF. Profiles stay consistent. -/

namespace Sys2Proof.Proofs
open Sys2Proof Sys2Proof.Machine

/-- Settles O54: contents, owners and lifecycle states move by their own commands; a profile with live requests keeps its
method, and a record is made by a ZERO alone, whose profile is a STORED user profile. -/
theorem profilesStayConsistent : Obligations.ProfilesStayConsistent := by
  refine ⟨fun s t law run => ?_, fun s t counts law run => ?_, fun s t counts law run => ?_, fun s t lawful run => ?_⟩
  · exact step_keeps (fun _ _ => State.ProfilesSound.sameCore) State.ProfilesSound.resetWith
      (fun _ _ _ => State.ProfilesSound.acts) law run
  · exact step_leads (P := fun s => s.ReferencesCount ∧ s.OwnersSound)
      (fun _ _ same ⟨counts, law⟩ => ⟨counts.sameCore same, law.sameCore same⟩) (fun _ _ => State.OwnersSound.sameCore)
      State.OwnersSound.resetWith (fun _ _ _ ⟨counts, law⟩ act => law.acts counts act) ⟨counts, law⟩ run
  · refine step_leads (P := fun s => s.ReferencesCount ∧ s.RetiringHeld)
      (fun _ _ same ⟨counts, law⟩ => ⟨counts.sameCore same, law.sameCore same⟩) (fun _ _ => State.RetiringHeld.sameCore)
      State.RetiringHeld.resetWith (fun s i t ⟨counts, law⟩ act => ?_) ⟨counts, law⟩ run
    obtain ⟨touched, deals, -⟩ := act.deals
    exact law.deals deals
  · have room := s.ringsHoldRoom_iff.1 lawful.rings
    have flight : s.FlightLawful :=
      ⟨lawful.oneInFlight, lawful.monitorQueue, fun q r mem => (room.requests q r mem).1, lawful.profiles.fixed⟩
    exact step_leads (P := State.RecordLaw)
      (fun _ _ same ⟨counts, profiles, flight, room, zeros, records⟩ =>
        ⟨counts.sameCore same, profiles.sameCore same, flight.sameCore same, room.sameCore same,
          zeros.step (.stands same.workStands) flight room, records.sameCore same⟩)
      (fun _ _ => State.RecordsSound.sameCore) State.RecordsSound.resetWith (fun _ _ _ law act => State.RecordsSound.acts law act)
      ⟨lawful.references, lawful.profiles, flight, room, State.zeroEntries_of_lawful flight lawful.records, lawful.records⟩ run

end Sys2Proof.Proofs
end

section
/-! SUPPORT. Ring records, offset values and held sums through every act (R4, R67, R112, R113). -/

namespace Sys2Proof.Machine

/-! ## The values and flags of results -/

theorem inResultRange_iff (v : Int) : outputInRange v = true ↔ InResultRange v := by
  unfold outputInRange outputLimit InResultRange
  exact decide_eq_true_iff

theorem clampResult_range (v : Int) : InResultRange (clampResult v) := by
  unfold clampResult clampTo outputLimit InResultRange
  split
  · omega
  · split <;> omega

theorem clampTemperature_range (v : Int) : InResultRange (clampTemperature v) := by
  unfold clampTemperature clampTo temperatureLow temperatureHigh InResultRange
  split
  · omega
  · split <;> omega

/-- A formed result before its window and end are judged: its value in range, at most one offset flag, no other of R113. -/
structure Formed.Sound (f : Formed) : Prop where
  value : InResultRange f.value
  offset : ¬ (f.flags.offsetStale = true ∧ f.flags.offsetAbsent = true)
  windowLow : f.flags.windowLow = false
  windowHigh : f.flags.windowHigh = false
  zero : f.flags.zero = false

theorem formUnchopped_sound (n : Fin 32) (profile : Profile) (raw : Int) (overload : Bool) :
    (formUnchopped n profile raw overload).Sound := by
  unfold formUnchopped
  split
  · exact ⟨clampTemperature_range _, nofun, rfl, rfl, rfl⟩
  · refine ⟨clampResult_range _, ?_, ?_, ?_, ?_⟩ <;> unfold formClamped offsetCorrected <;> split <;>
      simp [ResultFlags.clear]

theorem formChopped_sound (plus minus : Int) (overload : Bool) : (formChopped plus minus overload).Sound :=
  ⟨clampResult_range _, nofun, rfl, rfl, rfl⟩

/-- A value lies on one side of a window. -/
theorem Formed.Sound.judged {f : Formed} (h : f.Sound) (window : Option Window) (last : Bool) :
    InResultRange (f.judgeWindow window).value ∧ ({ (f.judgeWindow window).flags with last } : ResultFlags).allowed := by
  obtain ⟨value, offset, low, high, zero⟩ := h
  cases window with
  | none => exact ⟨value, offset, fun both => by simp [Formed.judgeWindow, low] at both, fun z => absurd (zero.symm.trans z) nofun⟩
  | some w =>
    refine ⟨value, offset, fun both => ?_, fun z => absurd (zero.symm.trans z) nofun⟩
    simp only [Formed.judgeWindow, decide_eq_true_eq] at both
    have same := both.1.symm.trans both.2
    cases same

theorem zeroAverage_range {sum raw : Int} (low : -(3 * 4194303) ≤ sum) (high : sum ≤ 3 * 4194303) (range : InResultRange raw) :
    InResultRange (zeroAverage (sum + raw)) := by
  unfold InResultRange zeroAverage at *
  rcases Int.le_total 0 (sum + raw) with up | down
  · rw [Int.tdiv_eq_ediv_of_nonneg up]
    omega
  · rw [← Int.neg_neg (sum + raw), Int.neg_tdiv, Int.tdiv_eq_ediv_of_nonneg (by omega)]
    omega

/-! ## Rings -/

/-- What one act makes of a ring and its next sequence number. -/
inductive RingStep (sound : Prop) (s t : PortState) : Prop
  | stands : t.ring = s.ring → t.nextSeq = s.nextSeq → RingStep sound s t
  | drops (n : Nat) : t.ring = s.ring.drop n → t.nextSeq = s.nextSeq → RingStep sound s t
  | empties : t.ring = [] → RingStep sound s t
  | writes (record : ResultRecord) : t.ring = s.ring ++ [{ record with sequence := s.nextSeq }] → t.nextSeq = s.nextSeq + 1 →
      (sound → InResultRange record.value ∧ record.flags.allowed) → RingStep sound s t

theorem RingStep.then {sound : Prop} {a b c : PortState} (h : RingStep sound a b) (ring : c.ring = b.ring)
    (nextSeq : c.nextSeq = b.nextSeq) : RingStep sound a c := by
  cases h with
  | stands r n => exact .stands (ring.trans r) (nextSeq.trans n)
  | drops k r n => exact .drops k (ring.trans r) (nextSeq.trans n)
  | empties r => exact .empties (ring.trans r)
  | writes record r n k => exact .writes record (ring.trans r) (nextSeq.trans n) k

theorem RingStep.writeToRing {sound : Prop} (s : State) (r : Request) (record : ResultRecord)
    (good : sound → InResultRange record.value ∧ record.flags.allowed) (q : Port) :
    RingStep sound (s.port q) ((s.writeToRing r record).port q) := by
  unfold State.writeToRing State.modSource
  split
  · rw [State.port_modPort]
    split
    next e =>
      subst e
      obtain ⟨ring, nextSeq, -⟩ := (s.port q).writeResult_parts (r.run = .contiguous) record
      exact .writes record ring nextSeq good
    · exact .stands rfl rfl
  · exact .stands rfl rfl

theorem RingStep.deliver {sound : Prop} (s : State) (r : Request) {formed : Formed} (good : formed.Sound) (q : Port) :
    RingStep sound (s.port q) ((s.deliver r formed).port q) := by
  have rest := (State.quiet_postWindow (s.writeToRing r (r.resultRecord r.nextDelivered
    { (formed.judgeWindow r.window).flags with last := r.endsAt r.nextDelivered } (formed.judgeWindow r.window).value)) r
      (formed.judgeWindow r.window).value).trans (State.quiet_endTurn _ r (formed.judgeWindow r.window).value)
  exact (RingStep.writeToRing s r _ (fun _ => good.judged r.window (r.endsAt r.nextDelivered)) q).then (rest.2.ring q) (rest.2.nextSeq q)

/-- The sum of a ZERO's outputs so far. -/
def Engine.SumSound (e : Engine) : Prop :=
  ∀ sum number overload, e.held = .average sum number overload →
    number ≤ 3 ∧ -(number * 4194303 : Int) ≤ sum ∧ sum ≤ number * 4194303

theorem Engine.SumSound.averaged {e : Engine} (h : e.SumSound) : e.held.averaged.2.1 ≤ 3 ∧
    -(e.held.averaged.2.1 * 4194303 : Int) ≤ e.held.averaged.1 ∧ e.held.averaged.1 ≤ e.held.averaged.2.1 * 4194303 := by
  cases held : e.held with
  | average sum number overload => exact h sum number overload held
  | none | plus => simp [Held.averaged]

theorem Engine.SumSound.fourth {e : Engine} (h : e.SumSound) {raw : Int} (range : InResultRange raw)
    (four : ¬ e.held.averaged.2.1 + 1 < 4) : InResultRange (zeroAverage (e.held.averaged.1 + raw)) := by
  obtain ⟨most, low, high⟩ := h.averaged
  have three : e.held.averaged.2.1 = 3 := by omega
  rw [three] at low high
  exact zeroAverage_range low high range

theorem State.ring_writeRecord (s : State) (r : Request) (value : Int) (q : Port) :
    ((s.writeRecord r value).port q).ring = (s.port q).ring ∧ ((s.writeRecord r value).port q).nextSeq = (s.port q).nextSeq := by
  have posted := State.noticesOnly_postOwner
    (s.modProfile r.profile fun profile => { profile with record := some (s.monitor.freshRecord value) })
    (s.profile r.profile).owner (.offsetUpdated r.profile r.source)
  unfold State.writeRecord
  rw [posted.ports q]
  exact ⟨rfl, rfl⟩

theorem RingStep.useOutput (s : State) (r : Request) (step : OpStep) (l : LoadedSetup) {raw : Int} (overload : Bool)
    (range : InResultRange raw) (q : Port) :
    RingStep s.engine.SumSound (s.port q) ((s.useOutput r step l raw overload).port q) := by
  cases step with
  | settling | chopPlusSettling | chopMinusSettling | zeroSettling | chopPlusOutput => exact .stands rfl rfl
  | output =>
    simp only [State.useOutput, State.useResult]
    split
    · have finished := State.quiet_finish
        (s.modMonitor fun m => { m with
          temperature := (formUnchopped r.profile (s.profile r.profile) raw overload).value, valid := true }).ageingPass
      exact .stands ((finished.2.ring q).trans ((State.portsWork_ageingPass _).ring q))
        ((finished.2.nextSeq q).trans ((State.portsWork_ageingPass _).nextSeq q))
    · exact .deliver s r (formUnchopped_sound _ _ _ _) q
  | chopMinusOutput =>
    simp only [State.useOutput, State.chopOutput]
    split
    · exact .deliver s r (formChopped_sound _ _ _) q
    · exact .stands rfl rfl
  | zeroAveraging =>
    simp only [State.useOutput, State.averageOutput]
    split
    · exact .stands rfl rfl
    next four =>
      unfold State.completeZero
      have rest := State.quiet_finish ((s.writeToRing r (r.resultRecord 1
        { ResultFlags.clear with last := true, overrange := s.engine.held.averaged.2.2 || overload, zero := true }
          (zeroAverage (s.engine.held.averaged.1 + raw)))).writeRecord r (zeroAverage (s.engine.held.averaged.1 + raw)))
      refine (RingStep.writeToRing s r _ (fun sums => ⟨sums.fourth range four, ?_⟩) q).then
        ((rest.2.ring q).trans (State.ring_writeRecord _ r _ q).1) ((rest.2.nextSeq q).trans (State.ring_writeRecord _ r _ q).2)
      exact ⟨nofun, nofun, fun _ => ⟨rfl, rfl, rfl, rfl, rfl⟩⟩

theorem Acts.ring_step {s t : State} {i : Instr} (act : Acts s i t) (q : Port) :
    RingStep s.engine.SumSound (s.port q) (t.port q) := by
  by_cases moved : (t.port q).ring ≠ (s.port q).ring ∨ (t.port q).nextSeq ≠ (s.port q).nextSeq
  · rcases act.ring_frame q moved with ⟨raw, overload, rfl⟩ | ⟨b, rfl⟩ | rfl
    · cases act with
      | idle => exact .stands rfl rfl
      | periodEnd raw overload _ range =>
        unfold State.endPeriod
        split
        next r step l _ _ _ =>
          have after := State.quiet_afterPeriod
            ((s.modEngine (·.countPeriod l overload)).useOutput r step l raw ((s.engine.countPeriod l overload).spanOverload l))
          have used := RingStep.useOutput (s.modEngine (·.countPeriod l overload)) r step l
            ((s.engine.countPeriod l overload).spanOverload l) ((inResultRange_iff raw).1 range) q
          exact used.then (after.2.ring q) (after.2.nextSeq q)
        · exact .stands rfl rfl
    · cases act with
      | idle => exact .stands rfl rfl
      | fetch p b n =>
        have kicked := State.quiet_kick (s.modPort q (·.fetched n))
        refine RingStep.then (.drops n ?_ ?_) (kicked.2.ring q) (kicked.2.nextSeq q) <;> rw [State.port_modPort_self] <;>
          unfold PortState.fetched PortState.rearm <;> split <;> rfl
    · cases act with
      | idle => exact .stands rfl rfl
      | portReset =>
        refine .empties ?_
        rw [s.resetPort_eq, State.port_modPort_self]
        refine ((s.portsWork_resetFreed q).ring q).trans ?_
        rw [State.port_modPort_self]
        rfl
  · rw [not_or, not_not, not_not] at moved
    exact .stands moved.1 moved.2

/-! ## Sequence numbers -/

theorem sequences_step {sound : Prop} {a b : PortState} (step : RingStep sound a b)
    (law : ∀ (k : Nat) (r : ResultRecord), a.ring[k]? = some r → r.sequence + BitVec.ofNat 16 (a.ring.length - k) = a.nextSeq)
    (k : Nat) (r : ResultRecord) (here : b.ring[k]? = some r) :
    r.sequence + BitVec.ofNat 16 (b.ring.length - k) = b.nextSeq := by
  cases step with
  | stands ring nextSeq =>
    rw [ring] at here ⊢
    rw [nextSeq]
    exact law k r here
  | drops n ring nextSeq =>
    rw [ring, List.getElem?_drop] at here
    rw [ring, nextSeq, List.length_drop, Nat.sub_sub]
    exact law (n + k) r here
  | empties ring => rw [ring] at here; cases here
  | writes record ring nextSeq =>
    rw [ring] at here ⊢
    rw [nextSeq, List.length_append, List.length_singleton]
    rcases Nat.lt_trichotomy k a.ring.length with below | rfl | above
    · rw [List.getElem?_append_left below] at here
      have next : a.ring.length + 1 - k = (a.ring.length - k) + 1 := by omega
      rw [next, ← law k r here, BitVec.ofNat_add, ← BitVec.add_assoc]
      rfl
    · rw [List.getElem?_append_right (Nat.le_refl _), Nat.sub_self] at here
      obtain rfl := Option.some.inj here
      rw [Nat.add_sub_cancel_left]
      rfl
    · rw [List.getElem?_eq_none (by rw [List.length_append, List.length_singleton]; omega)] at here
      cases here

theorem State.SequencesRun.acts {s t : State} {i : Instr} (h : s.SequencesRun) (act : Acts s i t) : t.SequencesRun :=
  fun p => sequences_step (act.ring_step p) (h p)

theorem State.SequencesRun.sameCore {s t : State} (same : s.SameCore t) (h : s.SequencesRun) : t.SequencesRun := by
  intro p
  rw [same.ports p]
  exact h p

theorem State.SequencesRun.resetWith (straps : Straps) : (State.resetWith straps).SequencesRun := by
  intro p k r here
  rw [State.port_resetWith] at here
  cases here

/-! ## Ranges -/

theorem Engine.SumSound.step {x y : Engine × Timer} (step : ConverterStep x y) (h : x.1.SumSound) : y.1.SumSound := by
  cases step with
  | frees | abandons | grants | resumes | swaps | downs => exact nofun
  | idles | counts | advances | starts | runs | restarts | sets | halts => exact h
  | averages e i raw overload range more =>
    have sums : e.SumSound := h
    obtain ⟨-, low, high⟩ := sums.averaged
    obtain ⟨least, most⟩ := (inResultRange_iff raw).1 range
    intro sum number before held
    injection held with sum number
    subst sum number
    refine ⟨by omega, ?_, ?_⟩ <;> push_cast <;> omega

theorem State.record_value_useOutput {s : State} (sums : s.engine.SumSound) (r : Request) (step : OpStep) (l : LoadedSetup)
    {raw : Int} (overload : Bool) (range : InResultRange raw) (n : Fin 32) {rec : OffsetRecord}
    (record : ((s.useOutput r step l raw overload).profile n).record = some rec) :
    InResultRange rec.value ∨ ∃ old, (s.profile n).record = some old ∧ rec.value = old.value := by
  have written : ∀ x, (s.writeToRing r x).profile n = s.profile n := fun x => by
    rw [State.writeToRing, State.modSource]
    split <;> rfl
  have delivered : ∀ formed, ((s.deliver r formed).profile n).record = some rec →
      InResultRange rec.value ∨ ∃ old, (s.profile n).record = some old ∧ rec.value = old.value := by
    intro formed record
    have same : ((s.deliver r formed).profile n).record = (s.profile n).record :=
      ((((State.quiet_postWindow _ r _).trans (State.quiet_endTurn _ r _)).2.record n).trans (congrArg Profile.record (written _)) :)
    exact .inr ⟨rec, by rw [← same]; exact record, rfl⟩
  cases step with
  | settling | chopPlusSettling | chopMinusSettling | zeroSettling | chopPlusOutput => exact .inr ⟨rec, record, rfl⟩
  | output =>
    simp only [State.useOutput, State.useResult] at record
    split at record
    · rw [State.completeSample, ((State.quiet_finish _).2.record n), State.ageingPass_profile] at record
      obtain ⟨old, was, rfl⟩ := Option.map_eq_some_iff.1 record
      exact .inr ⟨old, was, rfl⟩
    · exact delivered _ record
  | chopMinusOutput =>
    simp only [State.useOutput, State.chopOutput] at record
    split at record
    · exact delivered _ record
    · exact .inr ⟨rec, record, rfl⟩
  | zeroAveraging =>
    simp only [State.useOutput, State.averageOutput] at record
    split at record
    · exact .inr ⟨rec, record, rfl⟩
    next four =>
      rw [State.completeZero, ((State.quiet_finish _).2.record n), State.writeRecord_profile] at record
      split at record
      · obtain rfl := Option.some.inj record
        exact .inl (sums.fourth range four)
      · rw [written] at record
        exact .inr ⟨rec, record, rfl⟩

theorem State.record_value_endPeriod {s : State} (sums : s.engine.SumSound) {raw : Int} {overload : Bool}
    (range : InResultRange raw) (n : Fin 32) {rec : OffsetRecord}
    (record : ((s.endPeriod raw overload).profile n).record = some rec) :
    InResultRange rec.value ∨ ∃ old, (s.profile n).record = some old ∧ rec.value = old.value := by
  unfold State.endPeriod at record
  split at record
  next r step l _ _ _ =>
    rw [(State.quiet_afterPeriod _).2.record n] at record
    exact State.record_value_useOutput (s := s.modEngine (·.countPeriod l overload)) sums r step l _ range n record
  · exact .inr ⟨rec, record, rfl⟩

/-- A period that ends is one whose output the converter can produce (log 6). -/
theorem Acts.period_range {s t : State} {raw : Int} {overload : Bool} (act : Acts s (.outputPeriodEnd raw overload) t) :
    t = s ∨ outputInRange raw = true := by
  cases act with
  | idle => exact .inl rfl
  | periodEnd _ _ _ range => exact .inr range

/-- What an act makes of an offset record's value. -/
theorem Acts.record_value {s t : State} {i : Instr} (act : Acts s i t) (sums : s.engine.SumSound) (n : Fin 32)
    {r : OffsetRecord} (record : (t.profile n).record = some r) :
    InResultRange r.value ∨ ∃ old, (s.profile n).record = some old ∧ r.value = old.value := by
  by_cases stands : t.profile n = s.profile n
  · exact .inr ⟨r, by rw [← stands]; exact record, rfl⟩
  rcases act.profile_cases n with ⟨-, e | ⟨raw, overload, rfl, rfl⟩, -⟩ | ⟨-, ⟨p, -, e⟩ | ⟨w, -, -, -, e⟩ | ⟨p, set, -, -, e⟩ | e⟩
  · exact .inr ⟨r, by rw [← e]; exact record, rfl⟩
  · rcases act.period_range with same | range
    · exact absurd (by rw [same]) stands
    · exact State.record_value_endPeriod sums ((inResultRange_iff raw).1 range) n record
  · rw [e] at record; cases record
  · rw [e] at record
    simp only [Profile.written] at record
    split at record
    · exact .inr ⟨r, record, rfl⟩
    · cases record
  · rw [e] at record; exact .inr ⟨r, record, rfl⟩
  · rw [e] at record; cases record

theorem State.ResultsSound.acts {s t : State} {i : Instr} (h : s.ResultsSound) (act : Acts s i t) : t.ResultsSound := by
  obtain ⟨rings, records, sums⟩ := h
  have summed : t.engine.SumSound := act.converts.keeps (P := fun x => x.1.SumSound) (fun _ _ => Engine.SumSound.step) sums
  refine ⟨fun p r mem => ?_, fun n r record => ?_, summed⟩
  · cases act.ring_step p with
    | stands ring => exact rings p r (ring ▸ mem)
    | drops n ring => exact rings p r (List.mem_of_mem_drop (ring ▸ mem))
    | empties ring => rw [ring] at mem; cases mem
    | writes record ring _ good =>
      rw [ring] at mem
      rcases List.mem_append.1 mem with mem | mem
      · exact rings p r mem
      · rw [List.mem_singleton.1 mem]
        exact good sums
  · rcases act.record_value sums n record with range | ⟨old, was, same⟩
    · exact range
    · rw [same]
      exact records n old was

theorem State.ResultsSound.sameCore {s t : State} (same : s.SameCore t) (h : s.ResultsSound) : t.ResultsSound := by
  obtain ⟨rings, records, sums⟩ := h
  refine ⟨fun p r mem => ?_, fun n r record => ?_, by rw [same.engine]; exact sums⟩
  · rw [same.ports p] at mem
    exact rings p r mem
  · rw [same.profile] at record
    exact records n r record

theorem State.ResultsSound.resetWith (straps : Straps) : (State.resetWith straps).ResultsSound := by
  refine ⟨fun p r mem => ?_, fun n r record => ?_, nofun⟩
  · rw [State.port_resetWith] at mem; cases mem
  · rw [State.profile_resetWith] at record
    split at record <;> cases record

end Sys2Proof.Machine
end

section
/-! PROOF. Ring records. -/

namespace Sys2Proof.Proofs
open Sys2Proof Sys2Proof.Machine

/-- Settles O53: one act drops records from a ring's front, empties it, or writes one at its end under the next number; every
value is clamped, or the average of four outputs in range. -/
theorem ringRecordsStayConsecutiveAndInRange : Obligations.RingRecordsStayConsecutiveAndInRange :=
  ⟨fun _ _ => step_keeps (fun _ _ => State.SequencesRun.sameCore) State.SequencesRun.resetWith
      fun _ _ _ => State.SequencesRun.acts,
    fun _ _ => step_keeps (fun _ _ => State.ResultsSound.sameCore) State.ResultsSound.resetWith
      fun _ _ _ => State.ResultsSound.acts⟩

end Sys2Proof.Proofs
end

section
/-! SUPPORT. The port interfaces: what every command's own rule answers (R161, R178), and what the acts leave of holders and
transactions (R159, R165). -/

namespace Sys2Proof.Machine

/-! ## Answers -/

/-- An answer fits a response frame, and a refusal leaves the state, with an empty payload or the tag of a SUBMIT. -/
structure Answer.Framed (a : Answer) (s : State) (tag : List Byte) : Prop where
  fits : a.payload.length ≤ 60
  refused : a.status ≠ .ok → a.state = s ∧ (a.payload = [] ∨ a.payload = tag)

namespace Answer

variable {s u : State} {status : Status} {payload tag : List Byte}

theorem framed_refuse : (Answer.refuse s status).Framed s tag := ⟨Nat.zero_le _, fun _ => ⟨rfl, .inl rfl⟩⟩

theorem framed_accept (fits : payload.length ≤ 60) : (Answer.accept u payload).Framed s tag := ⟨fits, fun ne => absurd rfl ne⟩

end Answer

theorem ResultRecord.bytes_length (r : ResultRecord) : r.bytes.length = 9 := rfl

theorem Notice.bytes_length (n : Notice) : n.bytes.length = 5 := by cases n <;> rfl

theorem flatMap_length {α : Type} {f : α → List Byte} {k : Nat} (each : ∀ x, (f x).length = k) (l : List α) :
    (l.flatMap f).length = l.length * k := by
  induction l with
  | nil => simp
  | cons x rest ih => rw [List.flatMap_cons, List.length_append, ih, each, List.length_cons, Nat.succ_mul, Nat.add_comm]

theorem profileBytes_length (n : Fin 32) (profile : Profile) : (profileBytes n profile).length = 22 := by
  unfold profileBytes contentBytes recordBytes
  cases profile.record <;> rfl

theorem State.statusBytes_length (s : State) (p : Port) : (s.statusBytes p).length = 18 := rfl

section

open Answer

variable (s : State) (p : Port) (b x y : Byte) (tag : List Byte)

theorem alertConfig_framed : (alertConfig p b s).Framed s tag := by
  unfold alertConfig
  split
  · exact framed_refuse
  · exact framed_accept (by simp)

theorem profileClaim_framed : (profileClaim p b s).Framed s tag := by
  unfold profileClaim
  repeat' split
  iterate 3 exact framed_refuse
  exact framed_accept (by simp)

theorem profileWrite_framed (f : WriteFields) : (profileWrite p f s).Framed s tag := by
  unfold profileWrite
  repeat' split
  iterate 4 exact framed_refuse
  · exact framed_accept (by simp)
  · exact framed_refuse

theorem profileRead_framed : (profileRead b s).Framed s tag := by
  unfold profileRead
  split
  · exact framed_refuse
  · exact framed_accept (by rw [profileBytes_length]; decide)

theorem profileShare_framed : (profileShare p b x s).Framed s tag := by
  unfold profileShare
  repeat' split
  iterate 2 exact framed_refuse
  · exact framed_accept (by simp)
  · exact framed_refuse

theorem profileRetire_framed : (profileRetire p b s).Framed s tag := by
  unfold profileRetire
  repeat' split
  iterate 4 exact framed_refuse
  exact framed_accept (by simp)

theorem profileRelease_framed : (profileRelease p b s).Framed s tag := by
  unfold profileRelease
  repeat' split
  iterate 5 exact framed_refuse
  exact framed_accept (by simp)

theorem forceRelease_framed : (forceRelease b s).Framed s tag := by
  unfold forceRelease
  repeat' split
  iterate 2 exact framed_refuse
  exact framed_accept (by simp)

theorem submit_framed (f : SubmitFields) : (submit p f s).Framed s [f.tag] := by
  unfold submit
  split
  · exact ⟨by simp, fun _ => ⟨rfl, .inr rfl⟩⟩
  · split
    · exact ⟨by simp, fun _ => ⟨rfl, .inr rfl⟩⟩
    · exact framed_accept (by simp)

theorem cancel_framed : (cancel p b s).Framed s tag := by
  unfold cancel
  split
  · exact framed_refuse
  · exact framed_accept (by simp)

theorem query_framed : (query p b s).Framed s tag := by
  unfold query
  split
  · exact framed_refuse
  · exact framed_accept (by simp [unsigned16, bytes16])

theorem numberField_le {b : Byte} {highest k : Nat} (h : numberField b highest = some k) : k ≤ highest := by
  unfold numberField at h
  split at h
  next bounds =>
    obtain rfl := Option.some.inj h
    exact bounds.2
  · cases h

/-- Six result records of 9 bytes with their count. -/
theorem fetch_framed : (fetch p b s).Framed s tag := by
  unfold fetch
  split
  · exact framed_refuse
  next k field =>
    have most := numberField_le field
    have taken := (s.port p).ring.length_take_le k
    refine framed_accept ?_
    rw [List.length_cons, flatMap_length ResultRecord.bytes_length]
    omega

/-- Eight notice records of 5 bytes with the lost flag and their count. -/
theorem readNotices_framed : (readNotices p b s).Framed s tag := by
  unfold readNotices
  split
  · exact framed_refuse
  next k field =>
    have most := numberField_le field
    have taken := (s.port p).notices.length_take_le k
    refine framed_accept ?_
    rw [List.length_append, flatMap_length Notice.bytes_length]
    simp only [List.length_cons, List.length_nil]
    omega

theorem exciteVote_framed : (exciteVote p b x s).Framed s tag := by
  unfold exciteVote
  split
  · exact framed_accept (by simp)
  · exact framed_refuse

theorem setCombine_framed : (setCombine b x y s).Framed s tag := by
  unfold setCombine
  split
  · exact framed_accept (by simp)
  · exact framed_refuse

theorem setExciteTiming_framed : (setExciteTiming b x y s).Framed s tag := by
  unfold setExciteTiming
  repeat' split
  iterate 2 exact framed_refuse
  exact framed_accept (by simp)

theorem clearLockout_framed : (clearLockout b s).Framed s tag := by
  unfold clearLockout
  repeat' split
  · exact framed_refuse
  · exact framed_accept (by simp)
  · exact framed_refuse

theorem engineStart_framed : (engineStart s).Framed s tag := by
  unfold engineStart
  split
  · exact framed_accept (by simp)
  · exact framed_refuse

theorem engineHalt_framed : (engineHalt s).Framed s tag := by
  unfold engineHalt
  repeat' split
  iterate 2 exact framed_refuse
  iterate 3 exact framed_accept (by simp)

theorem setQuota_framed : (setQuota b x y s).Framed s tag := by
  unfold setQuota
  repeat' split
  iterate 5 exact framed_refuse
  exact framed_accept (by simp)

theorem setWeight_framed : (setWeight b x s).Framed s tag := by
  unfold setWeight
  repeat' split
  iterate 2 exact framed_refuse
  exact framed_accept (by simp)

theorem setAffinity_framed : (setAffinity b s).Framed s tag := by
  unfold setAffinity
  split
  · exact framed_refuse
  · exact framed_accept (by simp)

theorem setAllowance_framed : (setAllowance b x s).Framed s tag := by
  unfold setAllowance
  repeat' split
  iterate 2 exact framed_refuse
  exact framed_accept (by simp)

theorem setCalPolicy_framed (d : BitVec 16) : (setCalPolicy b x d s).Framed s tag := by
  unfold setCalPolicy
  split
  · exact framed_refuse
  · exact framed_accept (by simp [bytes16])

theorem handoverOffer_framed : (handoverOffer p b s).Framed s tag := by
  unfold handoverOffer
  repeat' split
  iterate 2 exact framed_refuse
  exact framed_accept (by simp)

theorem handoverAccept_framed : (handoverAccept p s).Framed s tag := by
  unfold handoverAccept
  repeat' split
  · exact framed_refuse
  · exact framed_accept (by simp)
  · exact framed_refuse

end

/-- The payload that a refusal of a command may carry: the tag of a SUBMIT (R180). -/
def refusalTag : Instr → List Byte
  | .submit _ f => [f.tag]
  | _ => []

theorem refusalTag_of_parts {i : Instr} {p : Port} {code : CommandCode} {payload : List Byte}
    (parts : commandParts i = some (p, code, payload)) : refusalTag i = [] ∨ code = .submit ∧ refusalTag i = payload.take 1 := by
  cases i with
  | submit => cases parts; exact .inr ⟨rfl, rfl⟩
  | _ => exact .inl rfl

theorem ownRule_framed (i : Instr) (s : State) : (ownRule i s).Framed s (refusalTag i) := by
  cases i with
  | status p => exact Answer.framed_accept (by rw [s.statusBytes_length]; decide)
  | portReset p => exact Answer.framed_accept (Nat.zero_le _)
  | alertConfig p b => exact alertConfig_framed s p b _
  | profileClaim p b => exact profileClaim_framed s p b _
  | profileWrite p f => exact profileWrite_framed s p _ f
  | profileRead p b => exact profileRead_framed s b _
  | profileShare p b x => exact profileShare_framed s p b x _
  | profileRetire p b => exact profileRetire_framed s p b _
  | profileRelease p b => exact profileRelease_framed s p b _
  | submit p f => exact submit_framed s p f
  | cancel p b => exact cancel_framed s p b _
  | query p b => exact query_framed s p b _
  | fetch p b => exact fetch_framed s p b _
  | readNotices p b => exact readNotices_framed s p b _
  | exciteVote p b x => exact exciteVote_framed s p b x _
  | engineStart p => exact engineStart_framed s _
  | engineHalt p => exact engineHalt_framed s _
  | setQuota p b x y => exact setQuota_framed s b x y _
  | setWeight p b x => exact setWeight_framed s b x _
  | setAffinity p b => exact setAffinity_framed s b _
  | setAllowance p b x => exact setAllowance_framed s b x _
  | setCombine p b x y => exact setCombine_framed s b x y _
  | setExciteTiming p b x y => exact setExciteTiming_framed s b x y _
  | clearLockout p b => exact clearLockout_framed s b _
  | setCalPolicy p x y d => exact setCalPolicy_framed s x y _ d
  | forceRelease p b => exact forceRelease_framed s b _
  | handoverOffer p b => exact handoverOffer_framed s p b _
  | handoverAccept p => exact handoverAccept_framed s p _
  | nop | frameError | unknownCommand | emptyTransaction | busTimeout | deviceReset | startTimerExpiry
  | intervalTimerExpiry | outputPeriodEnd | warmUpExpiry | lingerExpiry | holdOffExpiry | readyDwellExpiry
  | overcurrentTrip | offerLapse | transactionOpen => exact Answer.framed_accept (Nat.zero_le _)

/-! ## What the acts leave of the interfaces -/

/-- Every port's holder and transaction and the commands that wait stand. -/
structure State.InterfacesStand (s t : State) : Prop where
  transaction : ∀ q, (t.port q).transaction = (s.port q).transaction
  holder : ∀ q, (t.port q).holder = (s.port q).holder
  pending : t.pending = s.pending

namespace State.InterfacesStand

variable {s t u : State}

theorem refl (s : State) : s.InterfacesStand s := ⟨fun _ => rfl, fun _ => rfl, rfl⟩

theorem trans (h : s.InterfacesStand t) (k : t.InterfacesStand u) : s.InterfacesStand u :=
  ⟨fun q => (k.transaction q).trans (h.transaction q), fun q => (k.holder q).trans (h.holder q), k.pending.trans h.pending⟩

theorem of_keeps (h : s.Keeps t) : s.InterfacesStand t := ⟨fun q => (h.ports q).transaction, fun q => (h.ports q).holder, h.pending⟩

theorem of_quiet (h : s.Quiet t) : s.InterfacesStand t := of_keeps h.1

theorem modPort (s : State) (p : Port) {f : PortState → PortState}
    (same : ∀ ps, (f ps).transaction = ps.transaction ∧ (f ps).holder = ps.holder) : s.InterfacesStand (s.modPort p f) := by
  refine ⟨fun q => ?_, fun q => ?_, rfl⟩ <;> rw [State.port_modPort] <;> split
  next e => subst e; exact (same _).1
  · rfl
  next e => subst e; exact (same _).2
  · rfl

theorem of_ports (ports : ∀ q, t.port q = s.port q) (pending : t.pending = s.pending) : s.InterfacesStand t :=
  ⟨fun q => by rw [ports q], fun q => by rw [ports q], pending⟩

theorem withdrawFor (s : State) (p : Port) : s.InterfacesStand (s.withdrawFor p) := by
  unfold State.withdrawFor
  split
  · exact refl s
  · split
    · exact refl s
    · exact (of_ports (s := s) (t := { s with offer := none, offerTimer := .stopped }) (fun _ => rfl) rfl).trans
        (of_quiet (State.quiet_post _ _ _))

theorem disown (s : State) (owner : Option Source) : s.InterfacesStand (s.disown owner) := by
  unfold State.disown
  split
  · exact modPort s _ fun _ => ⟨rfl, rfl⟩
  · exact refl s

end State.InterfacesStand

theorem Acts.interfaces {s t : State} {i : Instr} (act : Acts s i t) : s.InterfacesStand t := by
  cases act with
  | idle => exact .refl s
  | portReset p =>
    have ended : s.InterfacesStand (s.resetEnded p) :=
      (((State.InterfacesStand.of_quiet (s.quiet_terminate .portReset (Request.isFrom p))).trans
        (.modPort _ p (f := (·.cleared)) fun _ => ⟨rfl, rfl⟩)).trans (.withdrawFor _ p)).trans (.of_ports (fun _ => rfl) rfl)
    rw [s.resetPort_eq]
    refine State.InterfacesStand.trans (t := s.resetFreed p) ?_ (.modPort _ p fun _ => ⟨rfl, rfl⟩)
    unfold State.resetFreed
    split
    · exact ended.trans (.of_quiet (State.quiet_freed _ _))
    · exact ended
  | alertConfig | readNotices | setQuota | setWeight | setAllowance => exact .modPort s _ fun _ => ⟨rfl, rfl⟩
  | claim p b n =>
    exact (State.InterfacesStand.of_ports (s := s) (t := s.modProfile n fun _ => .claimedBy p) (fun _ => rfl) rfl).trans
      (.modPort _ p (f := fun ps => { ps with owned := ps.owned + 1 }) fun _ => ⟨rfl, rfl⟩)
  | write | share | retireNow | setAffinity | setCalPolicy | exciteVote | setCombine | setExciteTiming | clearLockout | linger
    | holdOff | dwell => exact .of_ports (fun _ => rfl) rfl
  | retireBusy p n => exact .of_quiet (s.quiet_retireBusy n)
  | release p n =>
    exact (State.InterfacesStand.of_ports (s := s) (t := s.modProfile n fun _ => .default) (fun _ => rfl) rfl).trans (.disown _ _)
  | submit p f w => exact .of_quiet (s.quiet_submit p f.tag w)
  | cancel p tag => exact .of_quiet (s.quiet_cancel p tag)
  | fetch p b n =>
    refine (State.InterfacesStand.modPort s p (f := (·.fetched n)) fun ps => ?_).trans (.of_quiet (State.quiet_kick _))
    unfold PortState.fetched PortState.rearm
    split <;> exact ⟨rfl, rfl⟩
  | engineStart => exact .of_quiet s.quiet_startEngine
  | haltNow => exact .of_quiet s.quiet_enterDown
  | haltLater => exact .of_quiet (.trans (s.quiet_modEngine _) (State.quiet_postAll _ (.engine .halting)))
  | forceRelease p n =>
    rw [s.forceRelease_eq]
    have ended : s.InterfacesStand ((s.erase n).terminate .revoked (Request.names n)) :=
      (State.InterfacesStand.of_ports (s := s) (t := s.erase n) (fun _ => rfl) rfl).trans (.of_quiet (State.quiet_terminate _ _ _))
    exact (ended.trans (.disown _ _)).trans (.of_quiet (((State.quiet_postOwner _ _ _).trans (State.quiet_refreshDemand _)).trans
      (State.quiet_afterTerminations _ _)))
  | makeOffer p q =>
    have posted := (s.noticesOnly_withdrawOther p q).trans (State.noticesOnly_post _ q (.offer p))
    exact ⟨fun x => by rw [show (s.makeOffer p q).port x = _ from posted.ports x],
      fun x => by rw [show (s.makeOffer p q).port x = _ from posted.ports x], (congrArg State.pending posted.rest :)⟩
  | handOver p =>
    exact (State.InterfacesStand.of_ports (s := s) (t := { s with supervisor := p, offer := none, offerTimer := .stopped })
      (fun _ => rfl) rfl).trans (.of_quiet (State.quiet_postAll _ (.supervisor p)))
  | enterRunning => exact .of_quiet s.quiet_enterRunning
  | interval => exact .of_quiet s.quiet_placeAndKick
  | periodEnd raw overload => exact .of_keeps (s.keeps_endPeriod raw overload)
  | warmUp o => exact .of_quiet ((s.quiet_warmedUp o).trans (State.quiet_kick _))
  | trip o => exact .of_quiet (s.quiet_trip o)
  | offerLapse o =>
    exact (State.InterfacesStand.of_ports (s := s) (t := { s with offer := none, offerTimer := .stopped }) (fun _ => rfl)
      rfl).trans (.of_quiet (State.quiet_post _ _ _))

/-! ## Rows and openings -/

theorem Response.make_sound (status : Status) (code : Byte) {payload : List Byte} (fits : payload.length ≤ 60) :
    (Response.make status code payload).sound := ⟨rfl, fits⟩

theorem State.closedAt_interfaces (s : State) (p q : Port) : ((s.closedAt p).port q).holder = (s.port q).holder ∧
    ((s.closedAt p).port q).transaction = if q = p then .closed else (s.port q).transaction := by
  unfold State.closedAt State.port
  rw [PerPort.get_set]
  split
  next e => subst e; exact ⟨rfl, rfl⟩
  · exact ⟨rfl, rfl⟩

theorem State.answered_interfaces (s : State) (p q : Port) (status : Status) (code : Byte) (payload : List Byte) :
    ((s.answered p status code payload).port q).holder = (if q = p then .make status code payload else (s.port q).holder) ∧
    ((s.answered p status code payload).port q).transaction = if q = p then .closed else (s.port q).transaction := by
  unfold State.answered State.port
  rw [PerPort.get_set]
  split
  next e => subst e; exact ⟨rfl, rfl⟩
  · exact ⟨rfl, rfl⟩

theorem State.respond_interfaces (s : State) (p q : Port) (status : Status) (code : Byte) (payload : List Byte) :
    ((s.respond p status code payload).port q).holder = (if q = p then .make status code payload else (s.port q).holder) ∧
    ((s.respond p status code payload).port q).transaction = (s.port q).transaction := by
  unfold State.respond
  rw [State.port_modPort]
  split
  next e => subst e; exact ⟨rfl, rfl⟩
  · exact ⟨rfl, rfl⟩

/-- What the close of a port's transaction makes of the interfaces: its own port's holder may take a response that fits, and
its transaction is closed; other ports' stand. -/
structure State.ClosesInterface (s t : State) (p : Port) : Prop where
  other : ∀ q, q ≠ p → (t.port q).holder = (s.port q).holder ∧ (t.port q).transaction = (s.port q).transaction
  holder : (t.port p).holder = (s.port p).holder ∨
    ∃ status code payload, (t.port p).holder = .make status code payload ∧ payload.length ≤ 60
  transaction : (t.port p).transaction = (s.port p).transaction ∨ (t.port p).transaction = .closed
  pending : t.pending = s.pending

theorem Row.interfaces {s t : State} {p : Port} {i : Instr} (row : Row s p i t) : s.ClosesInterface t p := by
  cases row with
  | stands => exact ⟨fun _ _ => ⟨rfl, rfl⟩, .inl rfl, .inl rfl, rfl⟩
  | closes =>
    have closed := s.closedAt_interfaces p
    refine ⟨fun q other => ?_, .inl (closed p).1, .inr ((closed p).2.trans (if_pos rfl)), rfl⟩
    exact ⟨(closed q).1, (closed q).2.trans (if_neg other)⟩
  | refuses status code =>
    have answered := fun q => s.answered_interfaces p q status code []
    refine ⟨fun q other => ?_, .inr ⟨status, code, [], (answered p).1.trans (if_pos rfl), Nat.zero_le _⟩,
      .inr ((answered p).2.trans (if_pos rfl)), rfl⟩
    exact ⟨(answered q).1.trans (if_neg other), (answered q).2.trans (if_neg other)⟩
  | takes code payload =>
    have closed := s.closedAt_interfaces p
    have stands := (acts_ownRule i (s.closedAt p)).interfaces
    have responds := fun q => (ownRule i (s.closedAt p)).state.respond_interfaces p q (ownRule i (s.closedAt p)).status
      code.byte (ownRule i (s.closedAt p)).payload
    refine ⟨fun q other => ?_, .inr ⟨_, _, _, (responds p).1.trans (if_pos rfl), (ownRule_framed i _).fits⟩, .inr ?_, ?_⟩
    · exact ⟨((responds q).1.trans (if_neg other)).trans ((stands.holder q).trans (closed q).1),
        ((responds q).2.trans (stands.transaction q)).trans ((closed q).2.trans (if_neg other))⟩
    · exact ((responds p).2.trans (stands.transaction p)).trans ((closed p).2.trans (if_pos rfl))
    · exact stands.pending

theorem State.Opens.interfaces {u t : State} {p : Port} (opens : u.Opens t p) : t.pending = u.pending ∧
    (∀ q, (t.port q).holder = (u.port q).holder ∧ (q ≠ p → (t.port q).transaction = (u.port q).transaction)) ∧
    ((t.port p).transaction = (u.port p).transaction ∨
      ∃ opened, (t.port p).transaction = .opened opened ∧ opened.latched = (u.port p).holder) := by
  rcases opens with rfl | ⟨read, received, acknowledged, timer, rfl⟩
  · exact ⟨rfl, fun _ => ⟨rfl, fun _ => rfl⟩, .inl rfl⟩
  · let opened : OpenTransaction := { read, received, latched := (u.port p).holder, acknowledged }
    have port : ∀ q, (u.openTransaction p read received acknowledged).port q =
        if q = p then { u.port p with transaction := .opened opened } else u.port q := fun q => u.port_modPort p q _
    refine ⟨rfl, fun q => ?_, .inr ⟨opened, ?_, rfl⟩⟩
    · change ((u.openTransaction p read received acknowledged).port q).holder = _ ∧
        (q ≠ p → ((u.openTransaction p read received acknowledged).port q).transaction = _)
      rw [port]
      split
      next e => subst e; exact ⟨rfl, fun ne => absurd rfl ne⟩
      · exact ⟨rfl, fun _ => rfl⟩
    · change ((u.openTransaction p read received acknowledged).port p).transaction = _
      rw [port, if_pos rfl]

theorem State.HoldersSound.closes {s t : State} {p : Port} (h : s.HoldersSound) (closes : s.ClosesInterface t p) :
    t.HoldersSound := by
  intro q
  by_cases same : q = p
  · subst same
    refine ⟨?_, fun opened now => ?_⟩
    · rcases closes.holder with e | ⟨status, code, payload, e, fits⟩ <;> rw [e]
      · exact (h q).1
      · exact Response.make_sound status code fits
    · rcases closes.transaction with e | e <;> rw [e] at now
      · exact (h q).2 opened now
      · cases now
  · rw [(closes.other q same).1, (closes.other q same).2]
    exact h q

theorem State.HoldersSound.opens {u t : State} {p : Port} (h : u.HoldersSound) (opens : u.Opens t p) : t.HoldersSound := by
  obtain ⟨-, stands, opened⟩ := opens.interfaces
  intro q
  rw [(stands q).1]
  refine ⟨(h q).1, fun x now => ?_⟩
  by_cases same : q = p
  · subst same
    rcases opened with e | ⟨y, e, latched⟩ <;> rw [e] at now
    · exact (h q).2 x now
    · cases now
      rw [latched]
      exact (h q).1
  · rw [(stands q).2 same] at now
    exact (h q).2 x now

theorem State.HoldersSound.of_interfaces {s t : State} (h : s.HoldersSound) (stands : s.InterfacesStand t) : t.HoldersSound := by
  intro q
  rw [stands.holder, stands.transaction]
  exact h q

theorem State.HoldersSound.resetWith (straps : Straps) : (State.resetWith straps).HoldersSound := by
  intro p
  rw [State.port_resetWith]
  exact ⟨⟨rfl, Nat.zero_le _⟩, nofun⟩

/-- The response that a refused command leaves (R161, R178). -/
theorem State.take_refusal {s : State} {p : Port} {code : CommandCode} {i : Instr}
    (refused : ((s.take p code (ownRule i)).port p).holder.status ≠ .ok) :
    s.take p code (ownRule i) = s.answered p ((s.take p code (ownRule i)).port p).holder.status code.byte
        ((s.take p code (ownRule i)).port p).holder.payload ∧
      (((s.take p code (ownRule i)).port p).holder.payload = [] ∨
        ((s.take p code (ownRule i)).port p).holder.payload = refusalTag i) := by
  have read : ∀ status payload, s.take p code (ownRule i) = s.answered p status code.byte payload →
      payload = [] ∨ payload = refusalTag i →
      s.take p code (ownRule i) = s.answered p ((s.take p code (ownRule i)).port p).holder.status code.byte
          ((s.take p code (ownRule i)).port p).holder.payload ∧
        (((s.take p code (ownRule i)).port p).holder.payload = [] ∨
          ((s.take p code (ownRule i)).port p).holder.payload = refusalTag i) := by
    intro status payload taken carries
    have holder := (s.answered_interfaces p p status code.byte payload).1.trans (if_pos rfl)
    rw [taken, holder]
    exact ⟨rfl, carries⟩
  by_cases only : code.supervisorOnly = true ∧ s.supervisor ≠ p
  · exact read _ _ (s.take_notSupervisor p code _ only.1 only.2) (.inl rfl)
  · have allowed : code.supervisorOnly = false ∨ s.supervisor = p := by
      cases rights : code.supervisorOnly with
      | false => exact .inl rfl
      | true => exact .inr (not_not.1 fun other => only ⟨rights, other⟩)
    have taken := s.take_allowed p code (ownRule i) allowed
    have status : ((s.take p code (ownRule i)).port p).holder.status = (ownRule i (s.closeTransaction p)).status := by
      rw [taken, (State.respond_interfaces _ p p _ _ _).1, if_pos rfl]
      rfl
    rw [status] at refused
    obtain ⟨state, carries⟩ := (ownRule_framed i (s.closeTransaction p)).refused refused
    exact read _ _ (s.take_refused p code _ allowed state) carries

end Sys2Proof.Machine
end

section
/-! PROOF. The port interfaces. -/

namespace Sys2Proof.Proofs
open Sys2Proof Sys2Proof.Machine

/-- Settles O10: a response is placed with its CRC and a payload that fits, and an opening latches what is held. -/
theorem holdersKeepSoundResponses : Obligations.HoldersKeepSoundResponses := by
  intro s t law run
  unfold step at run
  split at run
  · cases run; exact law
  next i rest _ =>
    have start : State.HoldersSound { s with pending := rest } := law
    by_cases noReset : i.isDeviceReset = false
    · rcases exec_cases noReset run with ⟨p, -, -, row⟩ | ⟨-, -, act⟩ | ⟨p, u, -, row, opens⟩
      · exact start.closes row.interfaces
      · exact start.of_interfaces act.interfaces
      · exact (start.closes row.interfaces).opens opens
    · cases i with
      | deviceReset straps =>
        cases run
        exact State.HoldersSound.resetWith straps
      | _ => exact absurd rfl noReset

/-- Settles O9: a row and an opening touch the interface of their own port alone, and an event inside the ET316 none. -/
theorem otherPortsInterfacesStand : Obligations.OtherPortsInterfacesStand := by
  intro i s t q run elsewhere noReset
  rcases exec_cases noReset run with ⟨p, port, -, row⟩ | ⟨-, -, act⟩ | ⟨p, u, port, row, opens⟩
  · exact row.interfaces.other q fun e => elsewhere (by rw [port, e])
  · exact ⟨act.interfaces.holder q, act.interfaces.transaction q⟩
  · have other : q ≠ p := fun e => elsewhere (by rw [port, e])
    obtain ⟨-, stands, -⟩ := opens.interfaces
    obtain ⟨holder, transaction⟩ := row.interfaces.other q other
    exact ⟨(stands q).1.trans holder, ((stands q).2 other).trans transaction⟩

/-- Settles O11: a refusal answers on the state with the transaction closed. -/
theorem refusedCommandsChangeNothing : Obligations.RefusedCommandsChangeNothing := by
  intro i p code payload s t parts awaits acts run refused
  rw [exec_eq_take parts acts awaits] at run
  cases run
  obtain ⟨state, carries⟩ := State.take_refusal refused
  refine ⟨state, ?_⟩
  rcases refusalTag_of_parts parts with none | ⟨submit, tag⟩
  · rw [none, or_self] at carries
    exact .inl carries
  · rw [tag] at carries
    exact carries.imp_right fun e => ⟨submit, e⟩

/-- Settles O1: by the definition of `step`. -/
theorem stepTakesTheFrontCommand : Obligations.StepTakesTheFrontCommand := by
  refine ⟨fun _ _ _ => rfl, fun s empty => ?_⟩
  unfold step
  rw [empty]

end Sys2Proof.Proofs
end

section
/-! SUPPORT. Frames: the CRC-8 tells any changed byte (R162), and what the judgement makes of a framed transaction (R163,
R168). -/

namespace Sys2Proof.Machine

/-! ## The CRC-8 (R162) -/

/-- A bit taken from a register that the byte is added to leaves the byte, shifted on, added to the register without it. -/
theorem crcBit_xor (x b : Byte) (i : Nat) (low : i < 8) :
    crcBit (x ^^^ (b <<< i)) (b.getLsbD (7 - i)) = crcBit x false ^^^ (b <<< (i + 1)) := by
  have top : (b <<< i).msb = b.getLsbD (7 - i) := by
    rw [BitVec.msb_eq_getLsbD_last, BitVec.getLsbD_shiftLeft]
    simp
    omega
  unfold crcBit
  rw [BitVec.shiftLeft_xor_distrib, BitVec.msb_xor, top, ← BitVec.shiftLeft_add]
  cases x.msb <;> cases b.getLsbD (7 - i) <;> simp <;> ac_rfl

/-- Eight zero bits into the register. -/
def crcShift (register : Byte) : Byte := (List.range 8).foldl (fun r _ => crcBit r false) register

/-- A byte into the register is the byte added to it before eight zero bits. -/
theorem crcByte_eq (register byte : Byte) : crcByte register byte = crcShift (register ^^^ byte) := by
  have start : register = (register ^^^ byte) ^^^ (byte <<< 0) := by simp
  have last : byte <<< 8 = 0#8 := BitVec.shiftLeft_eq_zero (Nat.le_refl 8)
  generalize register ^^^ byte = x at start
  subst start
  have step := fun (y : Byte) (i : Nat) (low : i < 8) => crcBit_xor y byte i low
  simp only [crcByte, crcShift, List.range, List.range.loop, List.foldl_cons, List.foldl_nil]
  rw [show byte.getLsbD 7 = byte.getLsbD (7 - 0) from rfl, step x 0 (by omega), show byte.getLsbD 6 = byte.getLsbD (7 - 1) from rfl,
    step _ 1 (by omega), show byte.getLsbD 5 = byte.getLsbD (7 - 2) from rfl, step _ 2 (by omega),
    show byte.getLsbD 4 = byte.getLsbD (7 - 3) from rfl, step _ 3 (by omega), show byte.getLsbD 3 = byte.getLsbD (7 - 4) from rfl,
    step _ 4 (by omega), show byte.getLsbD 2 = byte.getLsbD (7 - 5) from rfl, step _ 5 (by omega),
    show byte.getLsbD 1 = byte.getLsbD (7 - 6) from rfl, step _ 6 (by omega), show byte.getLsbD 0 = byte.getLsbD (7 - 7) from rfl,
    step _ 7 (by omega), last, BitVec.xor_zero]

/-- The register before a zero bit, read off the register after it. -/
def uncrcBit (register : Byte) : Byte :=
  ((register ^^^ (if register.getLsbD 0 then 0x07#8 else 0x00#8)) >>> 1) ||| (if register.getLsbD 0 then 0x80#8 else 0x00#8)

theorem uncrcBit_crcBit : ∀ register : Byte, uncrcBit (crcBit register false) = register := by decide

theorem crcShift_injective {x y : Byte} (h : crcShift x = crcShift y) : x = y := by
  have bit : ∀ {x y : Byte}, crcBit x false = crcBit y false → x = y := fun {x y} e => by
    rw [← uncrcBit_crcBit x, e, uncrcBit_crcBit]
  simp only [crcShift, List.range, List.range.loop, List.foldl_cons, List.foldl_nil] at h
  exact bit (bit (bit (bit (bit (bit (bit (bit h)))))))

theorem crcByte_register {x y b : Byte} (h : crcByte x b = crcByte y b) : x = y := by
  rw [crcByte_eq, crcByte_eq] at h
  exact (BitVec.xor_left_inj _).1 (crcShift_injective h)

theorem crcByte_byte {x a b : Byte} (h : crcByte x a = crcByte x b) : a = b := by
  rw [crcByte_eq, crcByte_eq] at h
  exact (BitVec.xor_right_inj _).1 (crcShift_injective h)

theorem foldl_crcByte_register {x y : Byte} (bytes : List Byte) (h : bytes.foldl crcByte x = bytes.foldl crcByte y) : x = y := by
  induction bytes generalizing x y with
  | nil => exact h
  | cons b rest ih => exact crcByte_register (ih h)

/-- One changed byte changes the CRC. -/
theorem crc8_set {bytes : List Byte} {k : Nat} {b : Byte} (within : k < bytes.length) (changed : bytes[k]? ≠ some b) :
    crc8 (bytes.set k b) ≠ crc8 bytes := by
  unfold crc8
  generalize 0xFF#8 = register
  induction bytes generalizing k register with
  | nil => exact absurd within (Nat.not_lt_zero k)
  | cons c rest ih =>
    intro h
    cases k with
    | zero =>
      have same := crcByte_byte (foldl_crcByte_register rest h)
      exact changed (by rw [same]; rfl)
    | succ k => exact ih (Nat.lt_of_succ_lt_succ within) changed _ h

/-! ## Command bytes and payloads (R180) -/

theorem CommandCode.ofByte_byte (code : CommandCode) : CommandCode.ofByte code.byte = some code := by cases code <;> rfl

theorem CommandCode.byte_ne_fill (code : CommandCode) : code.byte ≠ 0xFF#8 := by cases code <;> decide

theorem CommandCode.payloadLength_le (code : CommandCode) : code.payloadLength ≤ 12 := by cases code <;> decide

theorem bytes24_append (v : BitVec 24) : (v.extractLsb' 16 8 ++ v.extractLsb' 8 8 ++ v.extractLsb' 0 8 : BitVec 24) = v := by
  refine BitVec.eq_of_getLsbD_eq fun i h => ?_
  simp only [BitVec.getLsbD_append, BitVec.getLsbD_extractLsb']
  split
  next low => simp [low]
  next high =>
    split
    next mid =>
      rw [show 8 + (i - 8) = i by omega]
      simp [mid]
    next top =>
      rw [show 16 + (i - 8 - 8) = i by omega]
      simp
      omega

theorem bytes16_append (v : BitVec 16) : (v.extractLsb' 8 8 ++ v.extractLsb' 0 8 : BitVec 16) = v := by
  refine BitVec.eq_of_getLsbD_eq fun i h => ?_
  simp only [BitVec.getLsbD_append, BitVec.getLsbD_extractLsb']
  split
  next low => simp [low]
  next high =>
    rw [show 8 + (i - 8) = i by omega]
    simp
    omega

theorem bytes24_of_append (x y z : Byte) : bytes24 (x ++ y ++ z : BitVec 24) = [x, y, z] := by
  have top : (x ++ y ++ z : BitVec 24).extractLsb' 16 8 = x := by
    refine BitVec.eq_of_getLsbD_eq fun i h => ?_
    simp only [BitVec.getLsbD_append, BitVec.getLsbD_extractLsb']
    simp [h, show ¬ 16 + i < 8 by omega, show ¬ 16 + i - 8 < 8 by omega, show 16 + i - 8 - 8 = i by omega]
  have mid : (x ++ y ++ z : BitVec 24).extractLsb' 8 8 = y := by
    refine BitVec.eq_of_getLsbD_eq fun i h => ?_
    simp only [BitVec.getLsbD_append, BitVec.getLsbD_extractLsb']
    simp [h]
  have low : (x ++ y ++ z : BitVec 24).extractLsb' 0 8 = z := by
    refine BitVec.eq_of_getLsbD_eq fun i h => ?_
    simp only [BitVec.getLsbD_append, BitVec.getLsbD_extractLsb']
    simp [h]
  rw [bytes24, top, mid, low]

theorem bytes16_of_append (x y : Byte) : bytes16 (x ++ y : BitVec 16) = [x, y] := by
  have top : (x ++ y : BitVec 16).extractLsb' 8 8 = x := by
    refine BitVec.eq_of_getLsbD_eq fun i h => ?_
    simp only [BitVec.getLsbD_append, BitVec.getLsbD_extractLsb']
    simp [h]
  have low : (x ++ y : BitVec 16).extractLsb' 0 8 = y := by
    refine BitVec.eq_of_getLsbD_eq fun i h => ?_
    simp only [BitVec.getLsbD_append, BitVec.getLsbD_extractLsb']
    simp [h]
  rw [bytes16, top, low]

/-- A payload reads as the command that its code and bytes spell. -/
theorem readPayload_of_parts {i : Instr} {p : Port} {code : CommandCode} {payload : List Byte}
    (parts : commandParts i = some (p, code, payload)) : readPayload p code payload = some i := by
  cases i with
  | submit q f =>
    cases parts
    simp only [readPayload, bytes24, List.cons_append, List.nil_append, bytes24_append]
  | setCalPolicy q x y d =>
    cases parts
    simp only [readPayload, bytes16, List.cons_append, List.nil_append, bytes16_append]
  | _ => cases parts <;> rfl

theorem length_of_readPayload {p : Port} {code : CommandCode} {payload : List Byte} {i : Instr}
    (reads : readPayload p code payload = some i) : payload.length = code.payloadLength := by
  unfold readPayload at reads
  split at reads <;> split at reads <;> cases reads <;> rfl

theorem parts_of_readPayload {p : Port} {code : CommandCode} {payload : List Byte} {i : Instr}
    (reads : readPayload p code payload = some i) : commandParts i = some (p, code, payload) := by
  unfold readPayload at reads
  split at reads <;> split at reads <;> cases reads
  all_goals first | rfl | simp only [commandParts, bytes24_of_append, bytes16_of_append, List.cons_append, List.nil_append]

/-! ## Fill bytes (R168) -/

theorem spiFrameBytes_fill (before : Nat) (bytes : List Byte) :
    spiFrameBytes (List.replicate before 0xFF#8 ++ bytes) = spiFrameBytes bytes := by
  have skipped : (List.replicate before 0xFF#8 ++ bytes).dropWhile (· == 0xFF#8) = bytes.dropWhile (· == 0xFF#8) :=
    List.dropWhile_append_of_pos fun b mem => by
      rw [(List.mem_replicate.1 mem).2]
      rfl
  unfold spiFrameBytes
  rw [skipped]

theorem frameBytes_spi {p : Port} (spi : p ≠ .c) (bytes : List Byte) : frameBytes p bytes = spiFrameBytes bytes := by
  cases p with
  | c => exact absurd rfl spi
  | _ => rfl

theorem judge_fill {p : Port} (spi : p ≠ .c) (before : Nat) (bytes : List Byte) :
    judge p (List.replicate before 0xFF#8 ++ bytes) = judge p bytes := by
  simp only [judge, frameBytes_spi spi, spiFrameBytes_fill]

theorem spiFrameBytes_of_ne_fill {code : Byte} (length : Byte) (rest : List Byte) (ne : code ≠ 0xFF#8) :
    spiFrameBytes (code :: length :: rest) =
      if length.toNat ≤ maxPayloadLength && (rest.drop (length.toNat + 1)).all (· == 0xFF#8) then
        code :: length :: rest.take (length.toNat + 1)
      else code :: length :: rest := by
  have stays : (code :: length :: rest).dropWhile (· == 0xFF#8) = code :: length :: rest :=
    List.dropWhile_cons_of_neg (by simpa using ne)
  unfold spiFrameBytes
  rw [stays]

/-- A transaction that has no fill to ignore behind its frame is judged with all its bytes. -/
theorem judge_whole {p : Port} {code length : Byte} {rest : List Byte} (ne : p ≠ .c → code ≠ 0xFF#8)
    (whole : p = .c ∨ 24 < length.toNat ∨ rest.length ≤ length.toNat + 1 ∨
      ∃ b ∈ rest.drop (length.toNat + 1), b ≠ 0xFF#8) :
    judge p (code :: length :: rest) = judgeFrame p (code :: length :: rest) := by
  by_cases spi : p = .c
  · subst spi
    rfl
  rw [judge, frameBytes_spi spi, spiFrameBytes_of_ne_fill length rest (ne spi)]
  split
  next trims =>
    simp only [Bool.and_eq_true, decide_eq_true_eq, List.all_eq_true, beq_iff_eq] at trims
    obtain ⟨low, fill⟩ := trims
    have low : length.toNat ≤ 24 := low
    obtain bad | long | short | ⟨b, mem, bad⟩ := whole
    · exact absurd bad spi
    · omega
    · rw [List.take_of_length_le short]
    · exact absurd (fill b mem) bad
  next => rfl

/-- Fill behind a frame is ignored on SPI. -/
theorem judge_trimmed {p : Port} {code length : Byte} {rest : List Byte} (spi : p ≠ .c) (ne : code ≠ 0xFF#8)
    (low : length.toNat ≤ 24) (fill : ∀ b ∈ rest.drop (length.toNat + 1), b = 0xFF#8) :
    judge p (code :: length :: rest) = judgeFrame p (code :: length :: rest.take (length.toNat + 1)) := by
  have trims : (decide (length.toNat ≤ maxPayloadLength) && (rest.drop (length.toNat + 1)).all (· == 0xFF#8)) = true := by
    simpa [maxPayloadLength, low] using fill
  rw [judge, frameBytes_spi spi, spiFrameBytes_of_ne_fill length rest ne, if_pos trims]

/-! ## The checks of a frame, one after the other (R163) -/

theorem judgeFrame_long (p : Port) {code length : Byte} {rest : List Byte} (long : 24 < length.toNat) :
    judgeFrame p (code :: length :: rest) = .frameError code := by
  have : maxPayloadLength < length.toNat := long
  simp [judgeFrame, this]

theorem judgeFrame_count (p : Port) {code length : Byte} {rest : List Byte} (count : rest.length ≠ length.toNat + 1) :
    judgeFrame p (code :: length :: rest) = .frameError code := by
  simp [judgeFrame, count]

/-- A frame of the right length is a FRAME_ERROR on a wrong CRC, and else what its code and payload spell. -/
theorem judgeFrame_sized (p : Port) {code length crc : Byte} {payload : List Byte} (low : length.toNat ≤ 24)
    (sized : payload.length = length.toNat) :
    judgeFrame p (code :: length :: (payload ++ [crc])) =
      if crc8 (code :: length :: payload) ≠ crc then .frameError code
      else match CommandCode.ofByte code with
        | none => .unknownCommand code
        | some c => match readPayload p c payload with
          | none => .frameError code
          | some i => .command i := by
  have notLong : ¬ maxPayloadLength < length.toNat := Nat.not_lt.2 low
  have count : (payload ++ [crc]).length = length.toNat + 1 := by simp [sized]
  have last : (payload ++ [crc]).getLastD 0 = crc := by simp
  rw [judgeFrame, if_neg notLong, if_neg (not_not.2 count), List.dropLast_concat, last] <;> rfl

/-- A frame whose code stands with another payload length is a FRAME_ERROR, whatever its CRC. -/
theorem judgeFrame_otherLength (p : Port) {length crc : Byte} {payload : List Byte} (c : CommandCode)
    (low : length.toNat ≤ 24) (sized : payload.length = length.toNat) (other : payload.length ≠ c.payloadLength) :
    judgeFrame p (c.byte :: length :: (payload ++ [crc])) = .frameError c.byte := by
  have unread : readPayload p c payload = none := by
    by_contra h
    obtain ⟨i, reads⟩ := Option.ne_none_iff_exists'.1 h
    exact other (length_of_readPayload reads)
  rw [judgeFrame_sized p low sized, CommandCode.ofByte_byte]
  simp [unread]

theorem unsigned8_toNat_of_lt {n : Nat} (low : n < 256) : (unsigned8 n).toNat = n := by
  simp only [unsigned8, BitVec.toNat_ofNat]
  exact Nat.mod_eq_of_lt low

theorem commandFrame_eq (code : CommandCode) (payload : List Byte) :
    commandFrame code payload =
      code.byte :: unsigned8 payload.length :: (payload ++ [crc8 (code.byte :: unsigned8 payload.length :: payload)]) := rfl

theorem commandFrame_length (code : CommandCode) (payload : List Byte) :
    (commandFrame code payload).length = payload.length + 3 := by
  simp [commandFrame]

theorem length_of_parts {i : Instr} {p : Port} {code : CommandCode} {payload : List Byte}
    (parts : commandParts i = some (p, code, payload)) : payload.length = code.payloadLength :=
  length_of_readPayload (readPayload_of_parts parts)

/-- The payload length of a command's frame as its length field spells it. -/
theorem lengthField_of_parts {i : Instr} {p : Port} {code : CommandCode} {payload : List Byte}
    (parts : commandParts i = some (p, code, payload)) :
    (unsigned8 payload.length).toNat = payload.length ∧ payload.length ≤ 24 := by
  have low := code.payloadLength_le
  have length := length_of_parts parts
  exact ⟨unsigned8_toNat_of_lt (by omega), by omega⟩

theorem judgeFrame_command {i : Instr} {p : Port} {code : CommandCode} {payload : List Byte}
    (parts : commandParts i = some (p, code, payload)) : judgeFrame p (commandFrame code payload) = .command i := by
  obtain ⟨field, low⟩ := lengthField_of_parts parts
  rw [commandFrame_eq, judgeFrame_sized p (by omega) field.symm, CommandCode.ofByte_byte]
  simp [readPayload_of_parts parts]

/-- A command's frame, with fill behind it on SPI, is judged to be the command. -/
theorem judge_command {i : Instr} {p : Port} {code : CommandCode} {payload behind : List Byte}
    (parts : commandParts i = some (p, code, payload)) (fill : behind = [] ∨ p ≠ .c ∧ ∀ b ∈ behind, b = 0xFF#8) :
    judge p (commandFrame code payload ++ behind) = .command i := by
  obtain ⟨field, low⟩ := lengthField_of_parts parts
  rw [← judgeFrame_command parts, commandFrame_eq]
  obtain rfl | ⟨spi, fill⟩ := fill
  · rw [List.append_nil]
    exact judge_whole (fun _ => code.byte_ne_fill) (.inr (.inr (.inl (by simp [field]))))
  · have size : (payload ++ [crc8 (code.byte :: unsigned8 payload.length :: payload)]).length =
        (unsigned8 payload.length).toNat + 1 := by simp [field]
    rw [List.cons_append, List.cons_append]
    refine (judge_trimmed spi code.byte_ne_fill (by omega) ?_).trans ?_
    · rw [← size, List.drop_left]
      exact fill
    · rw [← size, List.take_left]

/-! ## One changed byte -/

/-- A frame with another byte at the place of its CRC or of a byte the CRC is over, but the length field. -/
theorem judgeFrame_set {i : Instr} {p : Port} {code : CommandCode} {payload : List Byte} {k : Nat} {b : Byte}
    (parts : commandParts i = some (p, code, payload)) (within : k < (commandFrame code payload).length)
    (changed : (commandFrame code payload)[k]? ≠ some b) (place : k ≠ 1) (ne : p ≠ .c → k = 0 → b ≠ 0xFF#8) :
    judge p ((commandFrame code payload).set k b) = .frameError (((commandFrame code payload).set k b).headD 0) := by
  obtain ⟨field, low⟩ := lengthField_of_parts parts
  have damaged : ∀ (first crc : Byte) (bytes : List Byte), (p ≠ .c → first ≠ 0xFF#8) → bytes.length = payload.length →
      crc8 (first :: unsigned8 payload.length :: bytes) ≠ crc →
      judge p (first :: unsigned8 payload.length :: (bytes ++ [crc])) = .frameError first := by
    intro first crc bytes ne length wrong
    rw [judge_whole ne (.inr (.inr (.inl (by simp [field, length])))), judgeFrame_sized p (by omega) (by omega), if_pos wrong]
  rw [commandFrame_length] at within
  rw [commandFrame_eq] at changed ⊢
  obtain _ | _ | k := k
  · refine damaged b _ payload (fun spi => ne spi rfl) rfl ?_
    exact crc8_set (bytes := code.byte :: unsigned8 payload.length :: payload) (k := 0) (Nat.succ_pos _) changed
  · exact absurd rfl place
  · simp only [List.getElem?_cons_succ] at changed
    simp only [List.set_cons_succ, List.headD_cons]
    by_cases last : k = payload.length
    · subst last
      rw [List.set_append_right _ _ (Nat.le_refl _)]
      simp only [Nat.sub_self, List.set_cons_zero]
      refine damaged _ _ payload (fun _ => code.byte_ne_fill) rfl fun same => changed ?_
      simp [same]
    · have inside : k < payload.length := by omega
      rw [List.set_append_left _ _ inside]
      rw [List.getElem?_append_left inside] at changed
      refine damaged _ _ _ (fun _ => code.byte_ne_fill) (by simp) ?_
      exact crc8_set (bytes := code.byte :: unsigned8 payload.length :: payload) (k := k + 2)
        (by simpa using inside) (by simpa using changed)

/-- A frame with another length field: too long, too short for it, too long for it, or on SPI a shorter frame of a code
that stands with another payload length. -/
theorem judgeFrame_setLength {i : Instr} {p : Port} {code : CommandCode} {payload : List Byte} {b : Byte}
    (parts : commandParts i = some (p, code, payload)) (changed : unsigned8 payload.length ≠ b) :
    judge p ((commandFrame code payload).set 1 b) = .frameError code.byte := by
  obtain ⟨field, low⟩ := lengthField_of_parts parts
  have differs : b.toNat ≠ payload.length := fun same => changed (BitVec.eq_of_toNat_eq (by omega))
  have ne : p ≠ .c → code.byte ≠ 0xFF#8 := fun _ => code.byte_ne_fill
  rw [commandFrame_eq]
  simp only [List.set_cons_succ, List.set_cons_zero]
  generalize tail : payload ++ [crc8 (code.byte :: unsigned8 payload.length :: payload)] = rest
  have size : rest.length = payload.length + 1 := by simp [← tail]
  by_cases whole : p = .c ∨ 24 < b.toNat ∨ rest.length ≤ b.toNat + 1 ∨ ∃ x ∈ rest.drop (b.toNat + 1), x ≠ 0xFF#8
  · rw [judge_whole ne whole]
    exact judgeFrame_count p (by omega)
  · simp only [not_or, not_exists, not_and, not_not, Nat.not_lt, Nat.not_le] at whole
    obtain ⟨spi, short, longer, fill⟩ := whole
    have cut : (rest.take (b.toNat + 1)).length = b.toNat + 1 := by
      rw [List.length_take]
      omega
    obtain ⟨front, crc, split⟩ := (List.eq_nil_or_concat (rest.take (b.toNat + 1))).resolve_left fun empty => by
      rw [empty] at cut
      exact absurd cut (by simp)
    have sized : front.length = b.toNat := by
      rw [split] at cut
      simpa using cut
    have length := length_of_parts parts
    rw [judge_trimmed spi (ne spi) short fill, split, List.concat_eq_append]
    exact judgeFrame_otherLength p code short sized (by omega)

end Sys2Proof.Machine
end

section
/-! PROOF. The obligations about what the bytes of a transaction are judged to be (chapter 9). -/

namespace Sys2Proof.Proofs
open Sys2Proof Sys2Proof.Machine

/-- Settles O3: a frame of the right length with its CRC is read by its code, and fill around it is not seen. -/
theorem commandFramesReadAsTheirCommands : Obligations.CommandFramesReadAsTheirCommands := by
  unfold Obligations.CommandFramesReadAsTheirCommands
  intro i p code payload parts
  refine ⟨by rw [commandFrame_length, length_of_parts parts], ?_, fun spi before behind => ?_⟩
  · simpa using judge_command (behind := []) parts (.inl rfl)
  · rw [List.append_assoc, judge_fill spi]
    exact judge_command parts (.inr ⟨spi, fun b mem => (List.mem_replicate.1 mem).2⟩)

/-- Settles O4: a changed byte that the length stands for breaks the CRC, a changed length its count or the code's length. -/
theorem damagedFramesAreFrameErrors : Obligations.DamagedFramesAreFrameErrors := by
  unfold Obligations.DamagedFramesAreFrameErrors
  intro i p code payload k b parts within changed ne
  by_cases place : k = 1
  · subst place
    refine (judgeFrame_setLength parts fun same => changed ?_).trans ?_
    · rw [← same]
      rfl
    · rw [commandFrame_eq]
      rfl
  · exact judgeFrame_set parts within changed place ne

/-- Settles O6, check by check in the order of R163. -/
theorem frameChecksAreMadeInOrder : Obligations.FrameChecksAreMadeInOrder := by
  unfold Obligations.FrameChecksAreMadeInOrder
  refine ⟨fun p => ?_, fun _ => rfl, fun p bytes spi => judge_fill spi 1 bytes, fun p b ne => ?_,
    fun p code length rest ne => ⟨fun long => ?_, fun short => ?_, fun long whole => ?_, ?_⟩⟩
  · cases p <;> rfl
  · have single : frameBytes p [b] = [b] := by
      cases p with
      | c => rfl
      | _ => simp [frameBytes, spiFrameBytes, ne]
    rw [judge, single]
    rfl
  · rw [judge_whole ne (.inr (.inl long)), judgeFrame_long p long]
  · rw [judge_whole ne (.inr (.inr (.inl (by omega)))), judgeFrame_count p (by omega)]
  · rw [judge_whole ne (whole.imp id fun last => .inr (.inr last)), judgeFrame_count p (by omega)]
  · intro payload crc low split sized
    subst split
    rw [judge_whole ne (.inr (.inr (.inl (by simp [sized])))), judgeFrame_sized p low sized]
    refine ⟨fun wrong => if_pos (Ne.symm wrong), fun right => ?_⟩
    rw [if_neg (not_not.2 right.symm)]
    refine ⟨fun unlisted => by rw [unlisted], fun c listed other => ?_⟩
    have unread : readPayload p c payload = none := by
      by_contra h
      obtain ⟨i, reads⟩ := Option.ne_none_iff_exists'.1 h
      exact other (length_of_readPayload reads)
    rw [listed]
    simp only [unread]

/-- Settles O5, by evaluation of the manual's examples. -/
theorem manualFramesReadAsWritten : Obligations.ManualFramesReadAsWritten := by
  unfold Obligations.ManualFramesReadAsWritten
  decide

end Sys2Proof.Proofs
end

section
/-! SUPPORT. The close of a transaction by a command's row, in the words of the judgement (R163, R168; logs 2, 3). -/

namespace Sys2Proof.Machine

variable {i : Instr} {p : Port} {code : CommandCode} {payload : List Byte}

/-! ## The frame that a sound judgement has read -/

theorem CommandCode.byte_of_ofByte : ∀ {b : Byte} {c : CommandCode}, CommandCode.ofByte b = some c → c.byte = b := by
  intro b c h
  have same : b = BitVec.ofNat 8 b.toNat := by simp
  unfold CommandCode.ofByte at h
  split at h <;> cases h <;> simp only [*] at same <;> exact same.symm

theorem frame_of_judgeFrame {frame : List Byte} (sound : judgeFrame p frame = .command i)
    (parts : commandParts i = some (p, code, payload)) : frame = commandFrame code payload := by
  match frame with
  | [] => cases sound
  | [_] => cases sound
  | first :: length :: rest =>
    by_cases long : 24 < length.toNat
    · rw [judgeFrame_long p long] at sound
      cases sound
    by_cases count : rest.length = length.toNat + 1
    · obtain ⟨front, crc, split⟩ := (List.eq_nil_or_concat rest).resolve_left fun empty => by simp [empty] at count
      rw [List.concat_eq_append] at split
      subst split
      have sized : front.length = length.toNat := by simpa using count
      rw [judgeFrame_sized p (Nat.not_lt.1 long) sized] at sound
      split at sound
      · cases sound
      next right =>
        have right := not_not.1 right
        split at sound
        · cases sound
        next c listed =>
          split at sound
          · cases sound
          next j reads =>
            cases sound
            have same := (parts_of_readPayload reads).symm.trans parts
            cases same
            have field : length = unsigned8 payload.length := by rw [sized, unsigned8_toNat]
            rw [commandFrame_eq, ← field, CommandCode.byte_of_ofByte listed, right]
    · rw [judgeFrame_count p count] at sound
      cases sound

/-! ## Bytes that a judgement has read before it -/

/-- The bytes from the first that is no fill; behind them the frame bytes are all, or a frame with fill behind it. -/
theorem spiFrameBytes_cases (received : List Byte) : ∃ before kept, received = List.replicate before 0xFF#8 ++ kept ∧
    (spiFrameBytes received = kept ∨ ∃ first length body fill, kept = first :: length :: (body ++ fill) ∧
      body.length = length.toNat + 1 ∧ (∀ b ∈ fill, b = 0xFF#8) ∧ spiFrameBytes received = first :: length :: body) := by
  have skipped : received.takeWhile (· == 0xFF#8) = List.replicate (received.takeWhile (· == 0xFF#8)).length 0xFF#8 :=
    List.eq_replicate_iff.2 ⟨rfl, fun b mem => by simpa using List.mem_takeWhile_imp mem⟩
  refine ⟨(received.takeWhile (· == 0xFF#8)).length, received.dropWhile (· == 0xFF#8), ?_, ?_⟩
  · rw [← skipped, List.takeWhile_append_dropWhile]
  · unfold spiFrameBytes
    generalize received.dropWhile (· == 0xFF#8) = kept
    match kept with
    | [] => exact .inl rfl
    | [_] => exact .inl rfl
    | first :: length :: rest =>
      simp only
      split
      next trims =>
        by_cases short : rest.length ≤ length.toNat + 1
        · exact .inl (by rw [List.take_of_length_le short])
        · simp only [Bool.and_eq_true, decide_eq_true_eq, List.all_eq_true, beq_iff_eq] at trims
          refine .inr ⟨first, length, rest.take (length.toNat + 1), rest.drop (length.toNat + 1), ?_, ?_, trims.2, ?_⟩
          · rw [List.take_append_drop]
          · rw [List.length_take]
            omega
          · simp
      · exact .inl rfl

/-- Fill behind a frame that its length field ends is left away; with too few bytes, or others behind it, all stand. -/
def trimFill : List Byte → List Byte
  | code :: length :: rest =>
    if length.toNat ≤ maxPayloadLength && (rest.drop (length.toNat + 1)).all (· == 0xFF#8) then
      code :: length :: rest.take (length.toNat + 1)
    else code :: length :: rest
  | short => short

theorem spiFrameBytes_eq_trimFill (received : List Byte) :
    spiFrameBytes received = trimFill (received.dropWhile (· == 0xFF#8)) := by
  unfold spiFrameBytes trimFill
  rfl

theorem trimFill_prefix (kept rest : List Byte) : trimFill kept <+: trimFill (kept ++ rest) := by
  match kept with
  | [] => exact List.nil_prefix
  | [first] =>
    match rest with
    | [] => exact List.prefix_refl _
    | length :: body =>
      show [first] <+: if _ then _ else _
      split <;> exact ⟨_, rfl⟩
  | first :: length :: body =>
    show (if _ then _ else _) <+: if _ then _ else _
    simp only [Bool.and_eq_true, decide_eq_true_eq]
    split
    next =>
      have beginning : body.take (length.toNat + 1) <+: (body ++ rest).take (length.toNat + 1) :=
        (List.prefix_append body rest).take _
      split
      · exact (List.prefix_cons_inj _).2 ((List.prefix_cons_inj _).2 beginning)
      · exact (List.prefix_cons_inj _).2 ((List.prefix_cons_inj _).2
          ((List.take_prefix _ _).trans (List.prefix_append body rest)))
    next stands =>
      rw [if_neg fun trims => stands ⟨trims.1, ?_⟩]
      · exact List.prefix_append _ rest
      · refine List.all_eq_true.2 fun b mem => List.all_eq_true.1 trims.2 b ?_
        show b ∈ (body ++ rest).drop _
        rw [List.drop_append]
        exact List.mem_append_left _ mem

/-- Frame bytes of a beginning are a beginning of the frame bytes. -/
theorem frameBytes_prefix (p : Port) (received rest : List Byte) :
    frameBytes p received <+: frameBytes p (received ++ rest) := by
  by_cases spi : p = .c
  · subst spi
    exact List.prefix_append received rest
  rw [frameBytes_spi spi, frameBytes_spi spi, spiFrameBytes_eq_trimFill, spiFrameBytes_eq_trimFill]
  induction received with
  | nil => exact List.nil_prefix
  | cons b more ih =>
    rw [List.cons_append, List.dropWhile_cons, List.dropWhile_cons]
    split
    · exact ih
    · exact trimFill_prefix (b :: more) rest

theorem commandFrame_split {first length : Byte} {body : List Byte}
    (parts : commandParts i = some (p, code, payload)) (sized : body.length = length.toNat + 1)
    (beginning : first :: length :: body <+: commandFrame code payload) :
    first :: length :: body = commandFrame code payload := by
  have field := (lengthField_of_parts parts).1
  have same : length = unsigned8 payload.length := by
    rw [commandFrame_eq, List.cons_prefix_cons, List.cons_prefix_cons] at beginning
    exact beginning.2.1
  refine beginning.eq_of_length ?_
  rw [commandFrame_length, List.length_cons, List.length_cons, sized, same, field]

/-- The frame bytes received are a beginning of a command's frame where they, with further bytes or none, are judged to be
that command. -/
theorem isPrefixOf_commandFrame_iff (parts : commandParts i = some (p, code, payload)) (received : List Byte) :
    (frameBytes p received).isPrefixOf (commandFrame code payload) = true ↔
      ∃ rest, judge p (received ++ rest) = .command i := by
  rw [List.isPrefixOf_iff_prefix]
  constructor
  · intro beginning
    by_cases spi : p = .c
    · subst spi
      obtain ⟨rest, frame⟩ := beginning
      exact ⟨rest, (congrArg (judge .c) frame).trans (by simpa using judge_command (behind := []) parts (.inl rfl))⟩
    · rw [frameBytes_spi spi] at beginning
      obtain ⟨before, kept, rfl, whole | ⟨first, length, body, fill, rfl, sized, filled, trimmed⟩⟩ :=
        spiFrameBytes_cases received
      · rw [whole] at beginning
        obtain ⟨rest, frame⟩ := beginning
        refine ⟨rest, ?_⟩
        rw [List.append_assoc, judge_fill spi, frame]
        simpa using judge_command (behind := []) parts (.inl rfl)
      · rw [trimmed] at beginning
        refine ⟨[], ?_⟩
        rw [List.append_nil, judge_fill spi, ← List.cons_append, ← List.cons_append, commandFrame_split parts sized beginning]
        exact judge_command parts (.inr ⟨spi, filled⟩)
  · rintro ⟨rest, judged⟩
    rw [← frame_of_judgeFrame judged parts]
    exact frameBytes_prefix p received rest

/-! ## A command's row -/

theorem State.closedAt_closedAt (s : State) (p : Port) : (s.closedAt p).closedAt p = s.closedAt p := by
  cases p <;> rfl

theorem State.awaits_closedAt (s : State) (p : Port) : (s.closedAt p).AwaitsFrame p := by
  cases p <;> rfl

theorem State.take_closedAt (s : State) (p : Port) (code : CommandCode) (act : State → Answer) :
    (s.closedAt p).take p code act = s.take p code act := by
  have stands : (s.closedAt p).supervisor = s.supervisor := rfl
  rw [State.take, State.take, State.closeTransaction_eq, State.closeTransaction_eq, State.closedAt_closedAt, stands]

theorem exec_nop (p : Port) (s : State) :
    exec (.nop p) s = .next (s.closeBy p (commandFrame .nop []) (s.closeTransaction p)) := rfl

/-- A command's row takes it, as on the closed transaction, where the bytes received are a beginning of its frame, and
answers them otherwise. -/
theorem exec_command (parts : commandParts i = some (p, code, payload)) (s : State) :
    exec i s = if (frameBytes p (s.receivedAt p)).isPrefixOf (commandFrame code payload) then exec i (s.closedAt p)
      else .next (s.answerVerdict p (judge p (s.receivedAt p))) := by
  have closes : ∀ (u : State) (taken : State), Host.Outcome.next (u.closeBy p (commandFrame code payload) taken) =
      if (frameBytes p (u.receivedAt p)).isPrefixOf (commandFrame code payload) then
        (.next taken : Host.Outcome State Fault Refusal) else .next (u.answerVerdict p (judge p (u.receivedAt p))) := by
    intro u taken
    rw [State.closeBy, State.judgeClose, State.receivedAt_eq, List.append_nil]
    split <;> rfl
  rcases eq_or_ne code .nop with rfl | acts
  · obtain rfl := eq_nop_of_parts parts
    cases parts
    rw [exec_nop, exec_nop, State.closeBy_of_awaits _ _ _ _ (s.awaits_closedAt p), closes, State.closeTransaction_eq,
      State.closeTransaction_eq, State.closedAt_closedAt]
  · rw [exec_eq_take parts acts (s.awaits_closedAt p), State.take_closedAt, exec_eq_takeCommand parts acts, takeCommand, parts]
    exact closes s _

/-! ## Every row has a next state -/

theorem takeCarried_next (i : Instr) (s : State) : ∃ t, takeCarried i s = .next t := by
  cases i <;> exact ⟨_, rfl⟩

theorem State.closeOnBytes_next (s : State) (p : Port) : ∃ u, s.closeOnBytes p = .next u := by
  unfold State.closeOnBytes
  split
  · exact takeCarried_next _ s
  all_goals exact ⟨_, rfl⟩

/-- What an opening leaves: the close of what stood open, then the opening itself. -/
theorem exec_transactionOpen (opening : Opening) (s : State) : ∃ u, s.ClosesTo u opening.port ∧
    exec (.transactionOpen opening) s = .next (match opening with
      | .chipSelectA received => u.openTransaction .a false received 0
      | .chipSelectB received => u.openTransaction .b false received 0
      | .start address read received edges =>
        if address = s.targetAddress then
          { u.openTransaction .c read received (acknowledgedBytes received) with busTimer := busTimerAfter edges }
        else u) := by
  obtain ⟨u, closes⟩ := s.closeOnBytes_next opening.port
  refine ⟨u, State.closeOnBytes_closesTo closes, ?_⟩
  cases opening with
  | chipSelectA | chipSelectB | start =>
    simp only [Opening.port] at closes
    simp only [exec, execTransactionOpen, closes, followedBy]

theorem exec_next (i : Instr) (s : State) : ∃ t, exec i s = .next t := by
  cases i with
  | transactionOpen opening =>
    obtain ⟨u, -, run⟩ := exec_transactionOpen opening s
    exact ⟨_, run⟩
  | _ => exact ⟨_, rfl⟩

theorem pending_of_exec {s t : State} (run : exec i s = .next t) : t.pending = s.pending := by
  by_cases noReset : i.isDeviceReset = false
  · obtain ⟨p, -, -, row⟩ | ⟨-, -, act⟩ | ⟨p, u, -, row, opened⟩ := exec_cases noReset run
    · exact row.interfaces.pending
    · exact act.interfaces.pending
    · exact opened.interfaces.1.trans row.interfaces.pending
  · cases i <;> first | exact absurd rfl noReset | skip
    cases run
    rfl

/-! ## What an open transaction shifts out -/

theorem OpenTransaction.shiftedOut_length (t : OpenTransaction) (n : Nat) : (t.shiftedOut n).length = n := by
  simp [OpenTransaction.shiftedOut]

theorem OpenTransaction.getElem?_shiftedOut (t : OpenTransaction) {n k : Nat} (within : k < n) :
    (t.shiftedOut n)[k]? = some (t.latched.bytes.getD k 0xFF#8) := by
  rw [OpenTransaction.shiftedOut, List.getElem?_take_of_lt within]
  by_cases inside : k < t.latched.bytes.length
  · rw [List.getElem?_append_left inside, List.getElem?_eq_getElem inside, List.getD_eq_getElem _ _ inside]
  · have behind := Nat.not_lt.1 inside
    rw [List.getElem?_append_right behind, List.getD_eq_default _ _ behind, List.getElem?_replicate, if_pos (by omega)]

theorem acknowledgedBytes_cons (first length : Byte) (rest : List Byte) :
    acknowledgedBytes (first :: length :: rest) =
      if 24 < length.toNat then 2 else 2 + min rest.length (length.toNat + 1) := by
  show (if 24 < length.toNat then 2 else min (rest.length + 1 + 1) (length.toNat + 3)) = _
  split <;> omega

/-- The bus timer expires where it runs and port C takes part in a transaction (R173; log 1). -/
theorem exec_busTimeout (s : State) : exec .busTimeout s = .next (match s.busTimer, (s.port .c).transaction with
    | .running _, .opened t => s.abandonTransaction t
    | _, _ => s) := rfl

end Sys2Proof.Machine
end

section
/-! PROOF. The obligations about the rows of the port interface (chapter 9) and the code tables of chapter 10. -/

namespace Sys2Proof.Proofs
open Sys2Proof Sys2Proof.Machine

/-- Settles O2: a command's row asks only whether the bytes received begin its frame, which is to ask whether they can
still be judged to be it. -/
theorem everyCommandIsTaken : Obligations.EveryCommandIsTaken := by
  unfold Obligations.EveryCommandIsTaken
  refine ⟨fun i s => ?_, fun i p code payload s parts => ?_⟩
  · obtain ⟨t, run⟩ := exec_next i s
    exact ⟨t, run, pending_of_exec run⟩
  · have row := exec_command parts s
    have begins := isPrefixOf_commandFrame_iff parts (s.receivedAt p)
    refine ⟨fun takes => by rw [row, if_pos (begins.2 takes)], fun never => ?_⟩
    rw [if_neg fun prefixed => (begins.1 prefixed).elim never, State.answerVerdict_eq] at row
    exact ⟨fun first judged => by rw [row, judged], fun unknown judged => by rw [row, judged],
      fun j judged => by rw [row, judged]⟩

/-- Settles O7: the judgement names the answer, and NOP answers nothing. -/
theorem closesWithoutACommandChangeTheHolderAlone : Obligations.ClosesWithoutACommandChangeTheHolderAlone := by
  unfold Obligations.ClosesWithoutACommandChangeTheHolderAlone
  intro p rest s
  have judged : s.judgeClose p rest = judge p (s.receivedAt p ++ rest) := by rw [State.judgeClose, State.receivedAt_eq]
  refine ⟨fun first bad => ?_, fun code unknown => ?_, fun noFrame => ?_, fun awaits => ?_⟩
  · simp only [exec, execFrameError, judged, bad, State.answerVerdict_eq]
  · simp only [exec, execUnknownCommand, judged, unknown, State.answerVerdict_eq]
  · simp only [exec, execEmptyTransaction, judged, noFrame, State.answerVerdict_eq]
  · rw [exec_nop, s.closeBy_of_awaits p _ _ awaits, s.closeTransaction_eq]

/-- Settles O8: each opening closes first and then opens, and the timeout asks for the timer and the open transaction. -/
theorem transactionsOpenAndTimeOut : Obligations.TransactionsOpenAndTimeOut := by
  unfold Obligations.TransactionsOpenAndTimeOut
  refine ⟨fun received s => ⟨?_, ?_, fun address read edges => ?_⟩, ⟨rfl, fun first => ⟨rfl, acknowledgedBytes_cons first⟩⟩,
    fun t n k => ⟨t.shiftedOut_length n, fun within => t.getElem?_shiftedOut within⟩, fun s t opened => ⟨?_, ?_⟩⟩
  · exact exec_transactionOpen (.chipSelectA received) s
  · exact exec_transactionOpen (.chipSelectB received) s
  · obtain ⟨u, closes, run⟩ := exec_transactionOpen (.start address read received edges) s
    refine ⟨u, closes, fun own => ?_, fun other => ?_⟩
    · rw [run]
      simp only [own, if_true, busTimerAfter_eq]
      rfl
    · rw [run]
      simp only [other, if_false]
  · intro stopped
    rw [exec_busTimeout, stopped]
  · intro ms running
    rw [exec_busTimeout, running, opened]
    refine ⟨fun noByte => ?_, fun first more write received => ?_⟩
    · obtain reads | empty := noByte
      · simp only [State.abandonTransaction, reads, s.closeTransaction_eq]
      · simp only [State.abandonTransaction, empty, s.closeTransaction_eq]
        cases t.read <;> rfl
    · simp only [State.abandonTransaction, write, received, s.respond_closeTransaction]

end Sys2Proof.Proofs
end

section
/-! SUPPORT. The code tables of chapter 10, read both ways. -/

namespace Sys2Proof.Machine

theorem Input.positiveOfCode_code (n : Fin 12) : positiveOfCode (Input.ain n).code = some (.ain n) := by
  revert n
  decide

theorem code_of_positiveOfCode {b : Byte} {x : Input} (h : positiveOfCode b = some x) : x.code = b := by
  unfold positiveOfCode at h
  split at h <;> cases h
  exact unsigned8_toNat b

theorem code_of_negativeOfCode {b : Byte} {x : Input} (h : negativeOfCode b = some x) : x.code = b := by
  unfold negativeOfCode at h
  split at h
  next common =>
    cases h
    exact common.symm
  next => exact code_of_positiveOfCode h

theorem code_of_referenceOfCode {b : Byte} {x : Reference} (h : referenceOfCode b = some x) : x.code = b := by
  unfold referenceOfCode at h
  repeat' split at h
  all_goals cases h
  all_goals exact Eq.symm ‹_›

theorem code_of_gainOfCode {b : Byte} {x : Gain} (h : gainOfCode b = some x) : x.code = b := by
  have same := unsigned8_toNat b
  unfold gainOfCode at h
  split at h <;> cases h <;> simp only [*] at same <;> exact same

theorem code_of_osrOfCode {b : Byte} {x : Osr} (h : osrOfCode b = some x) : x.code = b := by
  have same := unsigned8_toNat b
  unfold osrOfCode at h
  split at h <;> cases h <;> simp only [*] at same <;> exact same

theorem code_of_orderOfCode {b : Byte} {x : FilterOrder} (h : orderOfCode b = some x) : x.code = b := by
  unfold orderOfCode at h
  repeat' split at h
  all_goals cases h
  all_goals exact Eq.symm ‹_›

theorem code_of_methodOfCode {b : Byte} {x : Method} (h : methodOfCode b = some x) : x.code = b := by
  unfold methodOfCode at h
  repeat' split at h
  all_goals cases h
  all_goals exact Eq.symm ‹_›

theorem code_of_combineOfCode {b : Byte} {x : CombineMode} (h : combineOfCode b = some x) : x.code = b := by
  unfold combineOfCode at h
  repeat' split at h
  all_goals cases h
  all_goals exact Eq.symm ‹_›

/-- A byte below 4 is its two low bits. -/
theorem needCode_bits : ∀ b : Byte, b.toNat < 4 → needCode { exa := b.getLsbD 0, exb := b.getLsbD 1 } = b := by decide

theorem code_of_needOfCode {b : Byte} {x : PerOutput Bool} (h : needOfCode b = some x) : needCode x = b := by
  unfold needOfCode at h
  split at h <;> cases h
  exact needCode_bits b ‹_›

/-- A byte below 8 is its three low bits. -/
theorem portSetCode_bits : ∀ b : Byte, b.toNat < 8 →
    portSetCode { a := b.getLsbD 0, b := b.getLsbD 1, c := b.getLsbD 2 } = b := by decide

theorem code_of_portSetOfCode {b : Byte} {x : PerPort Bool} (h : portSetOfCode b = some x) : portSetCode x = b := by
  unfold portSetOfCode at h
  split at h <;> cases h
  exact portSetCode_bits b ‹_›

theorem needOfCode_needCode (x : PerOutput Bool) : needOfCode (needCode x) = some x := by
  obtain ⟨exa, exb⟩ := x
  cases exa <;> cases exb <;> rfl

theorem portSetOfCode_portSetCode (x : PerPort Bool) : portSetOfCode (portSetCode x) = some x := by
  obtain ⟨a, b, c⟩ := x
  cases a <;> cases b <;> cases c <;> rfl

theorem flags_code (f : ResultFlags) : f.code = BitVec.ofNat 8
    ((if f.last then 1 else 0) + (if f.overrange then 2 else 0) + (if f.offsetStale then 4 else 0) +
      (if f.offsetAbsent then 8 else 0) + (if f.windowLow then 16 else 0) + (if f.windowHigh then 32 else 0) +
      (if f.zero then 64 else 0)) := by
  obtain ⟨last, overrange, stale, absent, low, high, zero⟩ := f
  revert last overrange stale absent low high zero
  decide

/-- No kind and no run has a code above 1. -/
theorem kind_run_none {b : Byte} (above : 1 < b.toNat) : kindOfCode b = none ∧ runOfCode b = none := by
  have zero : b ≠ 0x00#8 := by rintro rfl; exact absurd above (by decide)
  have one : b ≠ 0x01#8 := by rintro rfl; exact absurd above (by decide)
  simp [kindOfCode, runOfCode, zero, one]

/-! ## The machine after device reset -/

theorem State.filterSettled_resetWith (straps : Straps) : (State.resetWith straps).FilterSettled :=
  ⟨nofun, fun _ => rfl, fun _ => rfl⟩

theorem State.Lawful.resetWith (straps : Straps) : (State.resetWith straps).Lawful where
  notices := .resetWith straps
  profiles := .resetWith straps
  owners := .resetWith straps
  records := .resetWith straps
  references := .resetWith straps
  retiring := .resetWith straps
  demand := .resetWith straps
  slots := .resetWith straps
  monitorQueue := .resetWith straps
  oneInFlight := (State.FlightLawful.resetWith straps).one
  rings := (State.ringsHoldRoom_iff _).2 (.resetWith straps)
  credits := (State.creditLaw_iff _).2 (.resetWith straps)
  noneWaits := .resetWith straps
  filter := State.filterSettled_resetWith straps
  engine := State.engineLawful_resetWith straps
  excitation := .resetWith straps
  flightExcited := .resetWith straps
  offer := ⟨nofun, iff_of_true rfl rfl⟩

end Sys2Proof.Machine
end

section
/-! PROOF. The obligations about the code tables and about device reset. -/

namespace Sys2Proof.Proofs
open Sys2Proof Sys2Proof.Machine

/-- Settles O19: the tables by evaluation, and what a byte reads as by the reading's own branches. -/
theorem codesReadBack : Obligations.CodesReadBack := by
  unfold Obligations.CodesReadBack
  refine ⟨⟨by decide, by decide, by decide, by decide, by decide, by decide, by decide, by decide, by decide, by decide,
    by decide, by decide, ?_, by decide, by decide, by decide, by decide, by decide, by decide, by decide, by decide⟩,
    flags_code, by decide, by decide, ⟨rfl, rfl, rfl, rfl, fun b above => kind_run_none above⟩,
    fun n => ⟨Input.positiveOfCode_code n, ?_⟩, rfl, rfl, rfl, ?_, ?_, ?_, ?_, ?_, needOfCode_needCode,
    portSetOfCode_portSetCode, Port.ofCode_code, OutputId.ofCode_code, ?_, boolOfCode_boolCode, CommandCode.ofByte_byte,
    fun b => ⟨fun _ => code_of_positiveOfCode, fun _ => code_of_negativeOfCode, fun _ => code_of_referenceOfCode,
      fun _ => code_of_gainOfCode, fun _ => code_of_osrOfCode, fun _ => code_of_orderOfCode, fun _ => code_of_methodOfCode,
      fun _ => code_of_needOfCode, fun _ => code_of_portSetOfCode, fun _ h => (portOfCode_eq_some h).symm,
      fun _ h => (outputOfCode_eq_some h).symm, fun _ => code_of_combineOfCode, fun _ h => (boolOfCode_eq_some h).symm,
      fun _ => CommandCode.byte_of_ofByte⟩⟩
  · decide
  · revert n
    decide
  all_goals
    intro x
    cases x <;> rfl

/-- Settles O51: each law holds of the empty machine. -/
theorem lawsHoldAfterDeviceReset : Obligations.LawsHoldAfterDeviceReset := by
  unfold Obligations.LawsHoldAfterDeviceReset
  exact fun straps => ⟨.resetWith straps, .resetWith straps, .resetWith straps, .resetWith straps⟩

/-- Settles O50: device reset keeps nothing but the queue of waiting commands. -/
theorem deviceResetRestoresEveryBlock : Obligations.DeviceResetRestoresEveryBlock := by
  unfold Obligations.DeviceResetRestoresEveryBlock
  intro s straps
  refine ⟨_, rfl, fun q => ?_, fun n user => ?_, ?_, rfl, rfl, rfl, fun o => ?_, rfl, rfl, rfl, rfl, rfl, ?_⟩
  · exact State.port_resetWith straps q
  · refine (State.profile_resetWith straps n).trans ?_
    rw [if_neg user]
    rfl
  · exact State.profile_resetWith straps 0
  · exact State.output_resetWith straps o
  · obtain ⟨supsel, adr1, adr0⟩ := straps
    cases adr1 <;> cases adr0 <;> rfl

end Sys2Proof.Proofs
end

section
/-! SUPPORT. A command's row at a port that awaits a frame (R160, R163), and the checks of PROFILE_WRITE, PROFILE_SHARE and
PROFILE_RELEASE (R11, R14, R18). -/

namespace Sys2Proof.Machine

/-! ## A command that is refused, and one that is acted on -/

section

variable {i : Instr} {p : Port} {code : CommandCode} {payload bytes : List Byte} {s u v : State} {status : Status}

/-- The command has the rights it needs (R149). -/
def State.Allows (s : State) (p : Port) (code : CommandCode) : Prop := code.supervisorOnly = false ∨ s.supervisor = p

theorem exec_answers (parts : commandParts i = some (p, code, payload)) (acts : code ≠ .nop) (awaits : s.AwaitsFrame p)
    (allows : s.Allows p code) (answer : ownRule i (s.closedAt p) = { state := v.closedAt p, status, payload := bytes }) :
    exec i s = .next (v.answered p status code.byte bytes) := by
  rw [exec_eq_take parts acts awaits, s.take_allowed p code _ allows, s.closeTransaction_eq, answer, State.respond_closedAt]

theorem exec_refuses (parts : commandParts i = some (p, code, payload)) (acts : code ≠ .nop) (awaits : s.AwaitsFrame p)
    (allows : s.Allows p code) (answer : ownRule i (s.closedAt p) = .refuse (s.closedAt p) status) :
    exec i s = .next (s.answered p status code.byte []) :=
  exec_answers parts acts awaits allows answer

theorem exec_accepts (parts : commandParts i = some (p, code, payload)) (acts : code ≠ .nop) (awaits : s.AwaitsFrame p)
    (allows : s.Allows p code) (answer : ownRule i (s.closedAt p) = .accept (v.closedAt p) bytes) :
    exec i s = .next (v.answered p .ok code.byte bytes) :=
  exec_answers parts acts awaits allows answer

end

/-- A change of a port that neither reads nor moves its interface, made after the close of a transaction. -/
theorem State.modPort_closedAt (s : State) (p q : Port) (f : PortState → PortState)
    (apart : ∀ ps, f { ps with transaction := .closed } = { f ps with transaction := .closed }) :
    (s.closedAt p).modPort q f = (s.modPort q f).closedAt p := by
  cases p <;> cases q <;> simp [State.modPort, State.closedAt, PerPort.get, PerPort.set, apart]

theorem State.modProfile_closedAt (s : State) (p : Port) (n : Fin 32) (f : Profile → Profile) :
    (s.closedAt p).modProfile n f = (s.modProfile n f).closedAt p := rfl

theorem Profile.ownedBy_iff (profile : Profile) (p : Port) : profile.ownedBy p = true ↔ profile.owner = some (.port p) := by
  simp [Profile.ownedBy]

/-! ## PROFILE_WRITE (R11) -/

theorem positiveOfCode_isSome (b : Byte) : (positiveOfCode b).isSome = decide (b.toNat < 12) := by
  unfold positiveOfCode
  split <;> simp [*]

theorem negativeOfCode_isSome : ∀ b : Byte, (negativeOfCode b).isSome = decide (b.toNat < 13) := by decide
theorem referenceOfCode_isSome : ∀ b : Byte, (referenceOfCode b).isSome = decide (b.toNat < 4) := by decide
theorem gainOfCode_isSome : ∀ b : Byte, (gainOfCode b).isSome = decide (b.toNat < 8) := by decide
theorem osrOfCode_isSome : ∀ b : Byte, (osrOfCode b).isSome = decide (b.toNat < 8) := by decide
theorem orderOfCode_isSome : ∀ b : Byte, (orderOfCode b).isSome = decide (2 ≤ b.toNat ∧ b.toNat ≤ 4) := by decide
theorem methodOfCode_isSome : ∀ b : Byte, (methodOfCode b).isSome = decide (b.toNat < 3) := by decide
theorem needOfCode_isSome : ∀ b : Byte, (needOfCode b).isSome = decide (b.toNat < 4) := by decide
theorem boolOfCode_isSome : ∀ b : Byte, (boolOfCode b).isSome = decide (b.toNat < 2) := by decide

/-- The nine field bytes of a PROFILE_WRITE read as these values. -/
def WriteReads (f : WriteFields) (w : Writing) : Prop :=
  positiveOfCode f.positive = some w.setup.positive ∧ negativeOfCode f.negative = some w.setup.negative ∧
  referenceOfCode f.reference = some w.setup.reference ∧ gainOfCode f.gain = some w.setup.gain ∧
  osrOfCode f.osr = some w.setup.osr ∧ orderOfCode f.order = some w.setup.order ∧
  methodOfCode f.method = some w.method ∧ needOfCode f.need = some w.need ∧ boolOfCode f.autoRecal = some w.autoRecal

/-- A PROFILE_WRITE has values where each field byte has one. -/
theorem writingOfFields_eq_some_iff (f : WriteFields) (w : Writing) : writingOfFields f = some w ↔ WriteReads f w := by
  obtain ⟨⟨positive, negative, reference, gain, osr, order⟩, method, need, autoRecal⟩ := w
  constructor
  · intro h
    unfold writingOfFields at h
    split at h
    next p n r g o c =>
      split at h
      next m d a =>
        cases h
        exact ⟨p, n, r, g, o, c, m, d, a⟩
      next => cases h
    next => cases h
  · rintro ⟨p, n, r, g, o, c, m, d, a⟩
    simp only [writingOfFields, p, n, r, g, o, c, m, d, a]

/-- Each field byte is the code of a value of its field (chapter 10). -/
def WriteInRange (f : WriteFields) : Prop :=
  f.positive.toNat < 12 ∧ f.negative.toNat < 13 ∧ f.reference.toNat < 4 ∧ f.gain.toNat < 8 ∧ f.osr.toNat < 8 ∧
    2 ≤ f.order.toNat ∧ f.order.toNat ≤ 4 ∧ f.method.toNat < 3 ∧ f.need.toNat < 4 ∧ f.autoRecal.toNat < 2

theorem exists_writing_iff (f : WriteFields) : (∃ w, writingOfFields f = some w) ↔ WriteInRange f := by
  have sorted : WriteInRange f ↔ (positiveOfCode f.positive).isSome ∧ (negativeOfCode f.negative).isSome ∧
      (referenceOfCode f.reference).isSome ∧ (gainOfCode f.gain).isSome ∧ (osrOfCode f.osr).isSome ∧
      (orderOfCode f.order).isSome ∧ (methodOfCode f.method).isSome ∧ (needOfCode f.need).isSome ∧
      (boolOfCode f.autoRecal).isSome := by
    rw [positiveOfCode_isSome, negativeOfCode_isSome, referenceOfCode_isSome, gainOfCode_isSome, osrOfCode_isSome,
      orderOfCode_isSome, methodOfCode_isSome, needOfCode_isSome, boolOfCode_isSome]
    simp only [WriteInRange, decide_eq_true_eq, and_assoc]
  rw [sorted]
  constructor
  · rintro ⟨w, h⟩
    obtain ⟨p, n, r, g, o, c, m, d, a⟩ := (writingOfFields_eq_some_iff f w).1 h
    simp [p, n, r, g, o, c, m, d, a]
  · simp only [Option.isSome_iff_exists]
    rintro ⟨⟨positive, p⟩, ⟨negative, n⟩, ⟨reference, r⟩, ⟨gain, g⟩, ⟨osr, o⟩, ⟨order, c⟩, ⟨method, m⟩, ⟨need, d⟩,
      autoRecal, a⟩
    exact ⟨⟨⟨positive, negative, reference, gain, osr, order⟩, method, need, autoRecal⟩,
      (writingOfFields_eq_some_iff f _).2 ⟨p, n, r, g, o, c, m, d, a⟩⟩

/-- The conditions on a written profile are those on its writing (R2). -/
theorem Profile.written_consistent_iff (profile : Profile) (w : Writing) :
    (profile.written w).consistent ↔ w.consistent = true := by
  simp only [Profile.consistent, Profile.written, Writing.consistent, Bool.and_eq_true, Bool.or_eq_true,
    decide_eq_true_eq, Bool.not_eq_true', ne_eq, and_assoc]
  simp only [← imp_iff_not_or, Bool.eq_false_iff, ne_eq]

theorem Profile.keepsRecord_iff (profile : Profile) (w : Writing) :
    profile.keepsRecord w = true ↔ profile.setup = w.setup ∧ profile.method = w.method := by
  simp [Profile.keepsRecord]

theorem Profile.written_eq (profile : Profile) (w : Writing) : profile.written w =
    { profile with
      state := .active, setup := w.setup, method := w.method, need := w.need, autoRecal := w.autoRecal
      record := if profile.setup = w.setup ∧ profile.method = w.method then profile.record else none } := by
  simp only [Profile.written, profile.keepsRecord_iff]

theorem Profile.writeOutcome_eq (profile : Profile) (w : Writing) : profile.writeOutcome w =
    if profile.record = none then 0x00#8
    else if profile.setup = w.setup ∧ profile.method = w.method then 0x01#8 else 0x02#8 := by
  unfold Profile.writeOutcome
  simp only [← profile.keepsRecord_iff]
  cases profile.record <;> rfl

section

variable {f : WriteFields} {n : Fin 32} {w : Writing}

theorem profileWrite_badField (h : userNumberOfCode f.number = none ∨ writingOfFields f = none) (p : Port) (s : State) :
    profileWrite p f s = .refuse s .badField := by
  unfold profileWrite
  obtain h | h := h
  · simp [h]
  · rw [h]
    cases userNumberOfCode f.number <;> rfl

/-- R11: the checks of a PROFILE_WRITE whose bytes have values. -/
theorem profileWrite_of_values (number : userNumberOfCode f.number = some n) (values : writingOfFields f = some w)
    (p : Port) (s : State) : profileWrite p f s =
      if w.consistent = false then .refuse s .badField
      else if (s.profile n).state = .free ∨ (s.profile n).state = .retiring then .refuse s .profileState
      else if (s.profile n).owner ≠ some (.port p) then .refuse s .notOwner
      else if 0 < (s.profile n).refCount then .refuse s .inUse
      else .accept (s.modProfile n (·.written w)) [(s.profile n).writeOutcome w] := by
  simp only [profileWrite, number, values, ne_eq, ← Profile.ownedBy_iff, Bool.not_eq_true,
    Bool.not_eq_true']

end

/-! ## PROFILE_SHARE (R14) -/

theorem portSetOfCode_isSome (b : Byte) : (portSetOfCode b).isSome = decide (b.toNat < 8) := by
  unfold portSetOfCode
  split <;> simp [*]

section

variable {number share : Byte} {n : Fin 32} {set : PerPort Bool}

theorem profileShare_badField (h : userNumberOfCode number = none ∨ portSetOfCode share = none) (p : Port) (s : State) :
    profileShare p number share s = .refuse s .badField := by
  unfold profileShare
  obtain h | h := h
  · simp [h]
  · rw [h]
    cases userNumberOfCode number <;> rfl

/-- R14: the checks of a PROFILE_SHARE whose bytes have values. -/
theorem profileShare_of_values (user : n ≠ 0) (p : Port) (s : State) :
    profileShare p (unsigned8 n.val) (portSetCode set) s =
      if (s.profile n).state = .free then .refuse s .profileState
      else if (s.profile n).owner ≠ some (.port p) then .refuse s .notOwner
      else .accept (s.modProfile n fun profile => { profile with share := set.set p false }) [portSetCode (set.set p false)] := by
  simp only [profileShare, userNumberOfCode_unsigned8 user, portSetOfCode_portSetCode, storedShare, ne_eq,
    ← Profile.ownedBy_iff, Bool.not_eq_true, Bool.not_eq_true']

end

/-! ## PROFILE_RELEASE (R18) -/

theorem profileRelease_badField {number : Byte} (h : userNumberOfCode number = none) (p : Port) (s : State) :
    profileRelease p number s = .refuse s .badField := by
  simp [profileRelease, h]

/-- R18: the checks of a PROFILE_RELEASE of a user profile. -/
theorem profileRelease_of_number {n : Fin 32} (user : n ≠ 0) (p : Port) (s : State) :
    profileRelease p (unsigned8 n.val) s =
      if (s.profile n).state = .free then .refuse s .profileState
      else if (s.profile n).state = .retiring then .refuse s .profileRetiring
      else if (s.profile n).owner ≠ some (.port p) then .refuse s .notOwner
      else if 0 < (s.profile n).refCount then .refuse s .inUse
      else .accept ((s.modProfile n fun _ => .default).modPort p fun ps => { ps with owned := ps.owned - 1 }) [] := by
  simp only [profileRelease, userNumberOfCode_unsigned8 user, State.disown, ne_eq, ← Profile.ownedBy_iff, Bool.not_eq_true,
    Bool.not_eq_true']

end Sys2Proof.Machine
end

section
/-! PROOF. The obligations about PROFILE_WRITE, PROFILE_SHARE and PROFILE_RELEASE (chapter 1). -/

namespace Sys2Proof.Proofs
open Sys2Proof Sys2Proof.Machine

/-- Settles O18, check by check in the order of R11. -/
theorem writeActivatesTheProfile : Obligations.WriteActivatesTheProfile := by
  unfold Obligations.WriteActivatesTheProfile
  refine ⟨fun f => ⟨fun unsound => ?_, fun sound => ?_⟩, fun s p f awaits above => ?_, fun s p n f awaits number => ?_⟩
  · by_contra h
    exact unsound ((exists_writing_iff f).1 (Option.ne_none_iff_exists'.1 h))
  · obtain ⟨w, h⟩ := (exists_writing_iff f).2 sound
    obtain ⟨p, n, r, g, o, c, m, d, a⟩ := (writingOfFields_eq_some_iff f w).1 h
    exact ⟨w, h, code_of_positiveOfCode p, code_of_negativeOfCode n, code_of_referenceOfCode r, code_of_gainOfCode g,
      code_of_osrOfCode o, code_of_orderOfCode c, code_of_methodOfCode m, code_of_needOfCode d,
      (boolOfCode_eq_some a).symm⟩
  · exact exec_refuses (i := .profileWrite p f) rfl nofun awaits (.inl rfl)
      (profileWrite_badField (.inl ((userNumberOfCode_eq_none_iff _).2 (.inr above))) p _)
  · have refuses : ∀ {status}, profileWrite p f (s.closedAt p) = .refuse (s.closedAt p) status →
        exec (.profileWrite p f) s = .next (s.answered p status 0x11#8 []) :=
      exec_refuses (i := .profileWrite p f) rfl nofun awaits (.inl rfl)
    refine ⟨fun h => refuses (profileWrite_badField (h.imp (fun zero => ?_) id) p _), fun w user values => ?_⟩
    · rw [userNumberOfCode_eq_none_iff, number, zero]
      exact .inl rfl
    have checks := profileWrite_of_values (number ▸ userNumberOfCode_unsigned8 user) values p (s.closedAt p)
    rw [State.profile_closedAt] at checks
    rw [Profile.written_consistent_iff]
    refine ⟨fun breach => refuses (checks.trans (if_pos (Bool.eq_false_iff.2 breach))), fun sound => ?_⟩
    rw [if_neg (by simp [sound])] at checks
    refine ⟨fun unwritable => refuses (checks.trans (if_pos unwritable)), fun writable => ?_⟩
    rw [if_neg (by rcases writable with h | h <;> rw [h] <;> decide)] at checks
    refine ⟨fun other => refuses (checks.trans (if_pos other)), fun own => ?_⟩
    rw [if_neg (not_not.2 own)] at checks
    refine ⟨fun used => refuses (checks.trans (if_pos used)), fun unused => ?_⟩
    rw [if_neg (by omega), State.modProfile_closedAt, Profile.writeOutcome_eq] at checks
    simp only [← Profile.written_eq]
    exact exec_accepts (i := .profileWrite p f) rfl nofun awaits (.inl rfl) checks

/-- Settles O21, check by check in the order of R14. -/
theorem shareIsStoredWithoutTheOwner : Obligations.ShareIsStoredWithoutTheOwner := by
  unfold Obligations.ShareIsStoredWithoutTheOwner
  intro s p number share awaits
  have refuses : ∀ {status}, profileShare p number share (s.closedAt p) = .refuse (s.closedAt p) status →
      exec (.profileShare p number share) s = .next (s.answered p status 0x13#8 []) :=
    exec_refuses (i := .profileShare p number share) rfl nofun awaits (.inl rfl)
  refine ⟨fun h => refuses (profileShare_badField ?_ p _), ?_⟩
  · rw [userNumberOfCode_eq_none_iff]
    obtain h | h | h := h
    · exact .inl (.inl h)
    · exact .inl (.inr h)
    · exact .inr (Option.not_isSome_iff_eq_none.1 (by simp [portSetOfCode_isSome]; omega))
  · rintro n set user rfl rfl
    have checks := profileShare_of_values (set := set) user p (s.closedAt p)
    rw [State.profile_closedAt] at checks
    refine ⟨fun free => refuses (checks.trans (if_pos free)), fun taken other => ?_, fun taken own => ?_⟩
    · rw [if_neg taken, if_pos other] at checks
      exact refuses checks
    · rw [if_neg taken, if_neg (not_not.2 own), State.modProfile_closedAt] at checks
      exact exec_accepts (i := .profileShare p _ _) rfl nofun awaits (.inl rfl) checks

/-- Settles O22, check by check in the order of R18. -/
theorem releaseErasesTheProfile : Obligations.ReleaseErasesTheProfile := by
  unfold Obligations.ReleaseErasesTheProfile
  intro s p number awaits
  have refuses : ∀ {status}, profileRelease p number (s.closedAt p) = .refuse (s.closedAt p) status →
      exec (.profileRelease p number) s = .next (s.answered p status 0x15#8 []) :=
    exec_refuses (i := .profileRelease p number) rfl nofun awaits (.inl rfl)
  refine ⟨fun h => refuses (profileRelease_badField ((userNumberOfCode_eq_none_iff _).2 h) p _), ?_⟩
  rintro n user rfl
  have checks := profileRelease_of_number user p (s.closedAt p)
  rw [State.profile_closedAt] at checks
  refine ⟨fun free => refuses (checks.trans (if_pos free)), fun retiring => ?_, fun stands => ?_⟩
  · rw [if_neg (by rw [retiring]; decide), if_pos retiring] at checks
    exact refuses checks
  · rw [if_neg (by rcases stands with h | h <;> rw [h] <;> decide),
      if_neg (by rcases stands with h | h <;> rw [h] <;> decide)] at checks
    refine ⟨fun other => refuses (checks.trans (if_pos other)), fun own => ?_⟩
    rw [if_neg (not_not.2 own)] at checks
    refine ⟨fun used => refuses (checks.trans (if_pos used)), fun unused => ?_⟩
    rw [if_neg (by omega), State.modProfile_closedAt, State.modPort_closedAt _ _ _ _ fun _ => rfl] at checks
    exact exec_accepts (i := .profileRelease p _) rfl nofun awaits (.inl rfl) checks

end Sys2Proof.Proofs
end

section
/-! SUPPORT. The demand handed over (R46), SUBMIT (R26, R39, R40), FETCH (R117), ENGINE_START and ENGINE_HALT (R69, R70),
each in the words of the statements. -/

namespace Sys2Proof.Machine

/-! ## The demand handed over (R46, R132) -/

theorem State.output_refreshDemand (s : State) (o : OutputId) :
    s.refreshDemand.output o =
      ({ s.output o with requestDemand := s.requestsNeed o }).judgedFrom (s.output o) s.isDown :=
  s.output_handOverDemand id o

theorem State.refreshDemand_closedAt (s : State) (p : Port) : (s.closedAt p).refreshDemand = s.refreshDemand.closedAt p := by
  have stands : ∀ o, (s.closedAt p).requestsNeed o = s.requestsNeed o := fun o => by
    rw [State.requestsNeed, State.requestsNeed, (s.sameCore_closedAt p).live]
    rfl
  unfold State.refreshDemand State.handOverDemand
  rw [stands, stands]
  rfl

/-! ## The fields of a SUBMIT (R26) -/

theorem kindOfCode_of_le : ∀ {b : Byte}, b.toNat ≤ 1 → kindOfCode b = some (if b.toNat = 0 then .measure else .zero) := by decide

theorem runOfCode_of_le : ∀ {b : Byte}, b.toNat ≤ 1 → runOfCode b = some (if b.toNat = 0 then .contiguous else .interleaved) := by
  decide

theorem boolOfCode_of_le : ∀ {b : Byte}, b.toNat ≤ 1 → boolOfCode b = some (decide (b.toNat = 1)) := by decide

/-- The limits of a window are outputs in order (R26). -/
def WindowInRange (low high : Int) : Prop := -4194303 ≤ low ∧ low ≤ high ∧ high ≤ 4194303

theorem windowOfFields_eq_some_iff (f : SubmitFields) (window : Option Window) : windowOfFields f = some window ↔
    f.window.toNat ≤ 1 ∧ (f.window.toNat = 1 → WindowInRange f.low.toInt f.high.toInt) ∧
      window = if f.window.toNat = 0 then none else some { low := f.low.toInt, high := f.high.toInt } := by
  unfold windowOfFields
  by_cases low : f.window.toNat ≤ 1
  · rw [boolOfCode_of_le low]
    obtain zero | one : f.window.toNat = 0 ∨ f.window.toNat = 1 := by omega
    · simp [zero, eq_comm]
    · have ranges : (outputInRange f.low.toInt && outputInRange f.high.toInt && decide (f.low.toInt ≤ f.high.toInt)) = true ↔
          WindowInRange f.low.toInt f.high.toInt := by
        have limit : outputLimit = 4194303 := rfl
        simp only [outputInRange, WindowInRange, Bool.and_eq_true, decide_eq_true_eq, limit]
        omega
      simp only [one, decide_true, ranges]
      split
      next reads => simp [ranges.1 reads, eq_comm]
      next barred => simp [mt ranges.2 barred]
  · simp [low, boolOfCode_eq_none_of_lt (Nat.not_le.1 low)]

/-- R26, the conditions on the fields of a SUBMIT. -/
def SubmitInRange (f : SubmitFields) : Prop :=
  f.number.toNat < 32 ∧ f.kind.toNat ≤ 1 ∧ f.count.toNat ≤ 16 ∧ f.run.toNat ≤ 1 ∧ f.window.toNat ≤ 1 ∧
    (f.count.toNat = 0 → f.run.toNat = 1 ∧ f.kind.toNat = 0) ∧
    (f.kind.toNat = 1 → f.count.toNat = 1 ∧ f.run.toNat = 0 ∧ f.window.toNat = 0) ∧
    (f.window.toNat = 1 → WindowInRange f.low.toInt f.high.toInt)

/-- The submission that the bytes of a SUBMIT spell. -/
def submissionSpelled (f : SubmitFields) (number : f.number.toNat < 32) : Submission :=
  { profile := ⟨f.number.toNat, number⟩
    kind := if f.kind.toNat = 0 then .measure else .zero
    count := f.count.toNat
    run := if f.run.toNat = 0 then .contiguous else .interleaved
    window := if f.window.toNat = 0 then none else some { low := f.low.toInt, high := f.high.toInt } }

theorem submissionSpelled_allowed_iff {f : SubmitFields} (number : f.number.toNat < 32) (kind : f.kind.toNat ≤ 1)
    (run : f.run.toNat ≤ 1) (window : f.window.toNat ≤ 1) : (submissionSpelled f number).allowed = true ↔
      f.count.toNat ≤ 16 ∧ (f.count.toNat = 0 → f.run.toNat = 1 ∧ f.kind.toNat = 0) ∧
        (f.kind.toNat = 1 → f.count.toNat = 1 ∧ f.run.toNat = 0 ∧ f.window.toNat = 0) := by
  obtain k | k : f.kind.toNat = 0 ∨ f.kind.toNat = 1 := by omega
  · obtain r | r : f.run.toNat = 0 ∨ f.run.toNat = 1 := by omega
    · simp [submissionSpelled, Submission.allowed, k, r]
    · simp [submissionSpelled, Submission.allowed, k, r]
  · obtain r | r : f.run.toNat = 0 ∨ f.run.toNat = 1 := by omega
    · obtain w | w : f.window.toNat = 0 ∨ f.window.toNat = 1 := by omega
      · simp [submissionSpelled, Submission.allowed, k, r, w, and_assoc]
      · simp [submissionSpelled, Submission.allowed, k, r, w]
    · simp [submissionSpelled, Submission.allowed, k, r]

theorem submissionOfFields_eq_some_iff (f : SubmitFields) (w : Submission) : submissionOfFields f = some w ↔
    SubmitInRange f ∧ ∃ number, w = submissionSpelled f number := by
  constructor
  · intro h
    unfold submissionOfFields at h
    split at h
    next profile kind run window number kindReads runReads windowReads =>
      have low : f.number.toNat < 32 := by
        by_contra above
        rw [(numberOfCode_eq_none_iff f.number).2 (by omega)] at number
        cases number
      have kindLow : f.kind.toNat ≤ 1 := by
        by_contra above
        rw [(kind_run_none (Nat.not_le.1 above)).1] at kindReads
        cases kindReads
      have runLow : f.run.toNat ≤ 1 := by
        by_contra above
        rw [(kind_run_none (Nat.not_le.1 above)).2] at runReads
        cases runReads
      obtain ⟨windowLow, range, windowEq⟩ := (windowOfFields_eq_some_iff f window).1 windowReads
      have spelled : (⟨profile, kind, f.count.toNat, run, window⟩ : Submission) = submissionSpelled f low := by
        rw [kindOfCode_of_le kindLow] at kindReads
        rw [runOfCode_of_le runLow] at runReads
        have profileEq : profile = ⟨f.number.toNat, low⟩ := by
          rw [numberOfCode, dif_pos low] at number
          exact (Option.some.inj number).symm
        cases kindReads
        cases runReads
        rw [submissionSpelled, profileEq, windowEq]
      simp only [spelled] at h
      split at h
      next allowed =>
        cases h
        obtain ⟨countLow, continuous, zero⟩ := (submissionSpelled_allowed_iff low kindLow runLow windowLow).1 allowed
        exact ⟨⟨low, kindLow, countLow, runLow, windowLow, continuous, zero, range⟩, low, rfl⟩
      next => cases h
    next => cases h
  · rintro ⟨⟨number, kind, count, run, window, continuous, zero, range⟩, _, rfl⟩
    have numberReads : numberOfCode f.number = some ⟨f.number.toNat, number⟩ := dif_pos number
    have windowReads := (windowOfFields_eq_some_iff f _).2 ⟨window, range, rfl⟩
    have allowed := (submissionSpelled_allowed_iff number kind run window).2 ⟨count, continuous, zero⟩
    simp only [submissionOfFields, numberReads, kindOfCode_of_le kind, runOfCode_of_le run, windowReads]
    exact if_pos allowed

/-! ## The checks of a SUBMIT (R39) -/

theorem State.needLocked_iff (s : State) (n : Fin 32) :
    s.needLocked n = true ↔ ∃ o, (s.profile n).need.get o = true ∧ (s.output o).state = .lockedOut := by
  simp only [State.needLocked, Bool.or_eq_true, Bool.and_eq_true, decide_eq_true_eq]
  constructor
  · rintro (h | h)
    · exact ⟨.exa, h⟩
    · exact ⟨.exb, h⟩
  · rintro ⟨o, h⟩
    cases o with
    | exa => exact .inl h
    | exb => exact .inr h

theorem PortState.tagged_isSome_iff (ps : PortState) (tag : Byte) :
    (ps.tagged tag).isSome = true ↔ ∃ r ∈ ps.queue, r.tag = some tag := by
  simp [PortState.tagged, List.find?_isSome]

theorem State.quotaPasses_iff (s : State) (p : Port) : s.quotaPasses p = true ↔
    (s.port p).used < (s.port p).ceiling ∧ ((s.port p).used < (s.port p).reserve ∨
      max (s.port .a).used (s.port .a).reserve + max (s.port .b).used (s.port .b).reserve
        + max (s.port .c).used (s.port .c).reserve < 24) := by
  simp only [State.quotaPasses, Bool.and_eq_true, Bool.or_eq_true, decide_eq_true_eq]
  rfl

theorem Profile.mayMeasure_iff (profile : Profile) (p : Port) :
    profile.mayMeasure p = true ↔ profile.owner = some (.port p) ∨ profile.share.get p = true := by
  simp [Profile.mayMeasure, Profile.ownedBy_iff]

/-- The rights check of a SUBMIT (R22, R39). -/
def State.Permits (s : State) (p : Port) (w : Submission) : Prop :=
  (s.profile w.profile).owner = some (.port p) ∨ w.kind = .measure ∧ (s.profile w.profile).share.get p = true

/-- R39, steps 2 to 7, with the two rights checks as one. -/
theorem State.submitRefusal_of_permits {s : State} {p : Port} {w : Submission} (tag : Byte)
    (active : (s.profile w.profile).state = .active) (permits : s.Permits p w) : s.submitRefusal p tag w =
      if w.kind = .zero ∧ (s.profile w.profile).method ≠ .stored then some .notApplicable
      else if s.needLocked w.profile then some .excitationLocked
      else if ((s.port p).tagged tag).isSome then some .duplicateTag
      else if !s.quotaPasses p then some .quota
      else none := by
  have measure : ¬ (w.kind = .measure ∧ (!(s.profile w.profile).mayMeasure p) = true) := by
    rintro ⟨_, barred⟩
    rw [Bool.not_eq_true', Bool.eq_false_iff, ne_eq, Profile.mayMeasure_iff] at barred
    exact barred (permits.imp id (·.2))
  have zero : ¬ (w.kind = .zero ∧ (!(s.profile w.profile).ownedBy p) = true) := by
    rintro ⟨kind, barred⟩
    rw [Bool.not_eq_true', Bool.eq_false_iff, ne_eq, Profile.ownedBy_iff] at barred
    obtain own | ⟨measure, -⟩ := permits
    · exact barred own
    · rw [kind] at measure
      cases measure
  rw [State.submitRefusal, if_neg (by rw [active]; decide), if_neg (by rw [active]; decide), if_neg measure, if_neg zero]

theorem State.submitRefusal_of_not_permits {s : State} {p : Port} {w : Submission} (tag : Byte)
    (active : (s.profile w.profile).state = .active) (barred : ¬ s.Permits p w) :
    s.submitRefusal p tag w = some (if w.kind = .measure then .noAccess else .notOwner) := by
  rw [State.submitRefusal, if_neg (by rw [active]; decide), if_neg (by rw [active]; decide)]
  cases kind : w.kind with
  | measure =>
    refine if_pos ⟨rfl, ?_⟩
    rw [Bool.not_eq_true', Bool.eq_false_iff, ne_eq, Profile.mayMeasure_iff]
    exact fun may => barred (may.imp id fun shared => ⟨kind, shared⟩)
  | zero =>
    rw [if_neg (by simp)]
    refine if_pos ⟨rfl, ?_⟩
    rw [Bool.not_eq_true', Bool.eq_false_iff, ne_eq, Profile.ownedBy_iff]
    exact fun own => barred (.inl own)

theorem State.submitRefusal_closedAt (s : State) (p : Port) (tag : Byte) (w : Submission) :
    (s.closedAt p).submitRefusal p tag w = s.submitRefusal p tag w := by
  have quota : (s.closedAt p).quotaPasses p = s.quotaPasses p := by
    cases p <;> rfl
  have locked : (s.closedAt p).needLocked w.profile = s.needLocked w.profile := rfl
  have tagged : ((s.closedAt p).port p).tagged tag = (s.port p).tagged tag := by
    rw [State.port_closedAt_self]
    rfl
  rw [State.submitRefusal, State.submitRefusal, quota, locked, tagged, State.profile_closedAt]

theorem State.submit_closedAt (s : State) (p : Port) (tag : Byte) (w : Submission) :
    (s.closedAt p).submit p tag w = (s.submit p tag w).closedAt p := by
  rw [State.submit, State.enqueue, State.modPort_closedAt _ _ _ _ fun _ => rfl, State.modProfile_closedAt,
    State.refreshDemand_closedAt, State.kick_closedAt]
  rfl

section

variable {f : SubmitFields} {w : Submission} {s : State} {p : Port}

theorem exec_submit_refused {status : Status} (awaits : s.AwaitsFrame p) (reads : submissionOfFields f = some w)
    (refused : s.submitRefusal p f.tag w = some status) :
    exec (.submit p f) s = .next (s.answered p status 0x20#8 [f.tag]) := by
  refine exec_answers (i := .submit p f) (code := .submit) rfl nofun awaits (.inl rfl) ?_
  show submit p f (s.closedAt p) = _
  simp only [submit, reads, State.submitRefusal_closedAt, refused]

theorem exec_submit_accepted (awaits : s.AwaitsFrame p) (reads : submissionOfFields f = some w)
    (accepted : s.submitRefusal p f.tag w = none) :
    exec (.submit p f) s = .next ((s.submit p f.tag w).answered p .ok 0x20#8 [f.tag]) := by
  refine exec_accepts (i := .submit p f) (code := .submit) rfl nofun awaits (.inl rfl) ?_
  show submit p f (s.closedAt p) = _
  simp only [submit, reads, State.submitRefusal_closedAt, accepted, State.submit_closedAt]

end

/-! ## FETCH (R117) -/

theorem PortState.fetched_eq (ps : PortState) (k : Nat) : ps.fetched k =
    { ps with
      ring := ps.ring.drop k
      highWater := if ps.highWater = .fired ∧ (ps.ring.drop k).length < 8 then .armed else ps.highWater
      alertLow := !ps.notices.isEmpty || (ps.ringAlert && !(ps.ring.drop k).isEmpty) } := by
  unfold PortState.fetched PortState.rearm PortState.judgeAlert PortState.alertDue rearmMark
  split <;> rfl

theorem fetch_outOfRange {b : Byte} (range : b.toNat = 0 ∨ 6 < b.toNat) (p : Port) (s : State) :
    fetch p b s = .refuse s .badField := by
  simp only [fetch, numberField_outOfRange range]

theorem fetch_inRange {b : Byte} (low : 1 ≤ b.toNat) (high : b.toNat ≤ 6) (p : Port) (s : State) :
    fetch p b s = .accept (s.modPort p (·.fetched b.toNat)).kick
      (unsigned8 ((s.port p).ring.take b.toNat).length :: ((s.port p).ring.take b.toNat).flatMap (·.bytes)) := by
  simp only [fetch, numberField_inRange low high]

/-! ## ENGINE_START and ENGINE_HALT (R69, R70) -/

theorem State.startEngine_closedAt (s : State) (p : Port) : (s.closedAt p).startEngine = s.startEngine.closedAt p := by
  have leaving : (s.closedAt p).leavingDown = s.leavingDown.closedAt p :=
    State.postAll_closedAt (s.modEngine fun e => { e with state := .starting, startTimer := .running startTime }) p _
  rw [State.startEngine_eq, State.startEngine_eq, leaving]
  rfl

theorem State.awaitPeriod_closedAt (s : State) (p : Port) : (s.closedAt p).awaitPeriod = s.awaitPeriod.closedAt p :=
  State.postAll_closedAt (s.modEngine fun e => { e with state := .halting }) p _

/-- An entry to DOWN with nothing in flight (R72). -/
theorem State.enterDown_of_free {s : State} (free : s.engine.inFlight = none) : s.enterDown = { s with
    engine := .inDown
    ports := s.ports.map (PortState.post · (.engine .down))
    outputs := { exa := s.outputs.exa.inDown, exb := s.outputs.exb.inDown }
    monitor := { s.monitor with intervalTimer := .stopped } } := by
  have none : s.giveBack = s := by rw [State.giveBack, State.flight, free]
  rw [State.enterDown, none]
  simp only [State.postAll, State.mapPorts, State.modEngine, Engine.downed_eq_inDown, OutputState.forceOff_eq_inDown]

theorem State.enterDown_closedAt_of_free {s : State} (free : s.engine.inFlight = none) (p : Port) :
    (s.closedAt p).enterDown = s.enterDown.closedAt p := by
  have posts := s.postAll_closedAt p (.engine .down)
  rw [State.enterDown_of_free free, State.enterDown_of_free (s := s.closedAt p) free]
  simp only [State.postAll, State.mapPorts] at posts
  have ports := congrArg State.ports posts
  have timer := congrArg State.busTimer posts
  simp only [State.closedAt] at ports timer ⊢
  rw [ports]

/-- An output with demand warms up where it is OFF (R69). -/
theorem OutputState.warmIfDemanded_false (out : OutputState) : out.warmIfDemanded false =
    if out.state = .off then (if out.demand = true then out.afterDemand true false else out) else out := by
  split
  next off => exact out.warmIfDemanded_eq false off
  next other => exact out.warmIfDemanded_other false other

end Sys2Proof.Machine
end

section
/-! PROOF. The obligations about SUBMIT, the demand handed over, FETCH, ENGINE_START and ENGINE_HALT. -/

namespace Sys2Proof.Proofs
open Sys2Proof Sys2Proof.Machine

/-- Settles O25: the bytes of a SUBMIT read as a submission exactly where they meet R26. -/
theorem submitFieldsAreJudgedTogether : Obligations.SubmitFieldsAreJudgedTogether := by
  unfold Obligations.SubmitFieldsAreJudgedTogether
  intro f
  refine ⟨fun unsound p s awaits => ?_, fun sound => ?_⟩
  · have unread : submissionOfFields f = none := by
      by_contra h
      obtain ⟨w, reads⟩ := Option.ne_none_iff_exists'.1 h
      exact unsound ((submissionOfFields_eq_some_iff f w).1 reads).1
    refine exec_answers (i := .submit p f) (code := .submit) rfl nofun awaits (.inl rfl) ?_
    show submit p f (s.closedAt p) = _
    simp only [submit, unread]
  · exact ⟨submissionSpelled f sound.1, (submissionOfFields_eq_some_iff f _).2 ⟨sound, sound.1, rfl⟩, rfl, rfl, rfl, rfl, rfl⟩

/-- Settles O26, check by check in the order of R39. -/
theorem submitIsCheckedInOrderAndQueued : Obligations.SubmitIsCheckedInOrderAndQueued := by
  unfold Obligations.SubmitIsCheckedInOrderAndQueued
  intro s p f w awaits reads
  have refuses : ∀ {status}, s.submitRefusal p f.tag w = some status →
      exec (.submit p f) s = .next (s.answered p status 0x20#8 [f.tag]) := exec_submit_refused awaits reads
  refine ⟨fun unusable => refuses (if_pos unusable), fun retiring => refuses ?_, fun active => ⟨fun barred => refuses ?_,
    fun permits => ?_⟩⟩
  · rw [State.submitRefusal, if_neg (by rw [retiring]; decide), if_pos retiring]
  · exact State.submitRefusal_of_not_permits f.tag active barred
  · have checks := State.submitRefusal_of_permits f.tag active permits
    refine ⟨fun zero other => refuses (checks.trans (if_pos ⟨zero, other⟩)), fun applies => ?_⟩
    rw [if_neg (by rintro ⟨zero, other⟩; obtain h | h := applies; · { rw [h] at zero; cases zero }; · exact other h)] at checks
    rw [← s.needLocked_iff]
    refine ⟨fun locked => refuses (checks.trans (if_pos locked)), fun free => ?_⟩
    rw [if_neg free] at checks
    refine ⟨fun double => refuses (checks.trans (if_pos ((s.port p).tagged_isSome_iff f.tag |>.2 double))), fun fresh => ?_⟩
    rw [if_neg (by rw [PortState.tagged_isSome_iff]; rintro ⟨r, mem, tag⟩; exact fresh r mem tag)] at checks
    rw [← s.quotaPasses_iff]
    refine ⟨fun full => refuses (checks.trans (if_pos (by simpa using full))), fun within => ?_⟩
    rw [if_neg (by simpa using within)] at checks
    exact exec_submit_accepted awaits reads checks

/-- Settles O27, output by output. -/
theorem handedOverDemandMovesTheOutputs : Obligations.HandedOverDemandMovesTheOutputs := by
  unfold Obligations.HandedOverDemandMovesTheOutputs
  intro s o
  refine ⟨?_, s.handOverDemand_rest id⟩
  rw [s.output_refreshDemand]
  unfold OutputState.judgedFrom
  rw [OutputState.move_eq_afterDemand]
  rfl

/-- Settles O29: the count is checked, and the oldest records leave the ring. -/
theorem fetchReturnsTheOldestResults : Obligations.FetchReturnsTheOldestResults := by
  unfold Obligations.FetchReturnsTheOldestResults
  intro s p n awaits
  refine ⟨fun range => exec_refuses (i := .fetch p n) rfl nofun awaits (.inl rfl) (fetch_outOfRange range p _),
    fun low high => ?_⟩
  refine exec_accepts (i := .fetch p n) (code := .fetch) rfl nofun awaits (.inl rfl) ?_
  refine (fetch_inRange low high p _).trans ?_
  have fetched : ∀ ps : PortState, PortState.fetched { ps with transaction := .closed } n.toNat =
      { ps.fetched n.toNat with transaction := .closed } := fun ps => by
    rw [PortState.fetched_eq, PortState.fetched_eq]
  rw [State.modPort_closedAt _ _ _ _ fetched, State.kick_closedAt, State.port_closedAt_self]
  simp only [PortState.fetched_eq]
  rfl

/-- Settles O33, in each engine state. -/
theorem startLeavesDownAndHaltReturns : Obligations.StartLeavesDownAndHaltReturns := by
  unfold Obligations.StartLeavesDownAndHaltReturns
  refine ⟨fun s awaits => ⟨fun down => ?_, fun up => ?_⟩, fun s awaits => ⟨fun idle => ?_, fun running busy => ?_,
    fun up free => ?_⟩⟩
  · have started := exec_accepts (i := .engineStart s.supervisor) (v := s.startEngine)
      (bytes := [EngineState.starting.code]) rfl nofun awaits (.inr rfl) (by
        show engineStart _ = _
        rw [← s.startEngine_closedAt]
        exact if_pos down)
    rw [started, s.startEngine_eq, OutputState.warmIfDemanded_false, OutputState.warmIfDemanded_false]
    rfl
  · exact exec_refuses (i := .engineStart s.supervisor) rfl nofun awaits (.inr rfl) (if_neg up)
  · refine exec_refuses (i := .engineHalt s.supervisor) (code := .engineHalt) rfl nofun awaits (.inr rfl) ?_
    have same : (s.closedAt s.supervisor).engine.state = s.engine.state := rfl
    show engineHalt _ = _
    unfold engineHalt
    obtain h | h := idle <;> rw [same, h]
  · refine exec_accepts (i := .engineHalt s.supervisor) (code := .engineHalt) (v := s.awaitPeriod) rfl nofun awaits (.inr rfl) ?_
    have same : (s.closedAt s.supervisor).engine = s.engine := rfl
    show engineHalt _ = _
    rw [engineHalt, same, running, ← s.awaitPeriod_closedAt]
    simp [busy]
    rfl
  · have answers : ownRule (.engineHalt s.supervisor) (s.closedAt s.supervisor) =
        .accept (s.enterDown.closedAt s.supervisor) [EngineState.down.code] := by
      have same : (s.closedAt s.supervisor).engine = s.engine := rfl
      show engineHalt _ = _
      rw [engineHalt, same, ← State.enterDown_closedAt_of_free free]
      obtain h | h := up
      · rw [h]
      · rw [h]
        simp [free]
    have run := exec_accepts (i := .engineHalt s.supervisor) (code := .engineHalt) rfl nofun awaits (.inr rfl) answers
    rw [State.enterDown_of_free free] at run
    exact run

end Sys2Proof.Proofs
end

section
/-! SUPPORT. EXCITE_VOTE, SET_COMBINE, the expiries of an output's timers and CLEAR_LOCKOUT (R134 to R137, R142, R143), in the
words of the statements. -/

namespace Sys2Proof.Machine

theorem OutputState.judgedFrom_eq (new old : OutputState) (down : Bool) : new.judgedFrom old down =
    if new.demand = old.demand then new else new.afterDemand new.demand down := by
  rw [OutputState.judgedFrom, OutputState.move_eq_afterDemand]

theorem State.modOutput_congr {s : State} {o : OutputId} {f g : OutputState → OutputState}
    (agree : f (s.output o) = g (s.output o)) : s.modOutput o f = s.modOutput o g := by
  have value : f (s.outputs.get o) = g (s.outputs.get o) := agree
  rw [State.modOutput, State.modOutput, value]

theorem State.modOutput_closedAt (s : State) (p : Port) (o : OutputId) (f : OutputState → OutputState) :
    (s.closedAt p).modOutput o f = (s.modOutput o f).closedAt p := rfl

/-! ## EXCITE_VOTE and SET_COMBINE (R134, R135) -/

theorem combineOfCode_code (mode : CombineMode) : combineOfCode mode.code = some mode := by cases mode <;> rfl

theorem combineOfCode_eq_none_of_lt : ∀ {b : Byte}, 2 < b.toNat → combineOfCode b = none := by decide

theorem exciteVote_codes (p : Port) (o : OutputId) (on : Bool) (s : State) (voted : OutputState)
    (judged : voted = ({ s.output o with votes := (s.output o).votes.set p on }).judgedFrom (s.output o) s.isDown) :
    exciteVote p o.code (boolCode on) s = .accept (s.modOutput o fun _ => voted)
      [o.code, boolCode on, boolCode voted.combinedVote, voted.state.code, unsigned8 voted.tripCount] := by
  have moved : s.rejudgeOutput o (·.vote p on) = s.modOutput o fun _ => voted := State.modOutput_congr judged.symm
  simp only [exciteVote, OutputId.ofCode_code, boolOfCode_boolCode, moved, State.output_modOutput_self]

theorem exciteVote_badField {x y : Byte} (above : 1 < x.toNat ∨ 1 < y.toNat) (p : Port) (s : State) :
    exciteVote p x y s = .refuse s .badField := by
  unfold exciteVote
  obtain h | h := above
  · simp [OutputId.ofCode_eq_none_of_lt h]
  · rw [boolOfCode_eq_none_of_lt h]
    cases OutputId.ofCode x <;> rfl

theorem setCombine_codes (o : OutputId) (mode : CombineMode) (q : Port) (s : State) (ruled : OutputState)
    (judged : ruled = ({ s.output o with combine := mode, designated := q }).judgedFrom (s.output o) s.isDown) :
    setCombine o.code mode.code q.code s = .accept (s.modOutput o fun _ => ruled)
      [o.code, mode.code, q.code, boolCode ruled.combinedVote, ruled.state.code] := by
  have moved : (s.rejudgeOutput o fun out => { out with combine := mode, designated := q }) = s.modOutput o fun _ => ruled :=
    State.modOutput_congr judged.symm
  simp only [setCombine, OutputId.ofCode_code, combineOfCode_code, Port.ofCode_code, moved, State.output_modOutput_self]

theorem setCombine_badField {x y z : Byte} (above : 1 < x.toNat ∨ 2 < y.toNat ∨ 2 < z.toNat) (s : State) :
    setCombine x y z s = .refuse s .badField := by
  unfold setCombine
  obtain h | h | h := above
  · simp [OutputId.ofCode_eq_none_of_lt h]
  · rw [combineOfCode_eq_none_of_lt h]
    cases OutputId.ofCode x <;> rfl
  · rw [Port.ofCode_eq_none_of_lt h]
    cases OutputId.ofCode x <;> cases combineOfCode y <;> rfl

/-! ## An output's timers (R136, R137, R142) -/

theorem exec_warmUpExpiry {s : State} {o : OutputId} {ms : Nat} (state : (s.output o).state = .warming)
    (timer : (s.output o).warmUpTimer = .running ms) : exec (.warmUpExpiry o) s = .next (s.warmedUp o).kick := by
  simp only [exec, execWarmUpExpiry, state, timer]
  rfl

theorem State.warmedUp_eq (s : State) (o : OutputId) : s.warmedUp o =
    { s.modOutput o (fun _ =>
        { s.output o with state := .ready, warmUpTimer := .stopped, lingerTimer := .stopped, dwellTimer := .running 1000 })
      with ports := s.ports.map (PortState.post · (.excitation o .ready)) } := by
  cases o <;> rfl

theorem exec_lingerExpiry {s : State} {o : OutputId} {ms : Nat} (state : (s.output o).state = .linger)
    (timer : (s.output o).lingerTimer = .running ms) :
    exec (.lingerExpiry o) s = .next (s.modOutput o fun out => out.switchOff.warmIfDemanded s.isDown) := by
  simp only [exec, execLingerExpiry, state, timer]

theorem exec_holdOffExpiry {s : State} {o : OutputId} {ms : Nat} (state : (s.output o).state = .tripped)
    (timer : (s.output o).holdOffTimer = .running ms) : exec (.holdOffExpiry o) s =
      .next (s.modOutput o fun out => { out with state := .off, holdOffTimer := .stopped }.warmIfDemanded s.isDown) := by
  simp only [exec, execHoldOffExpiry, state, timer]

theorem exec_readyDwellExpiry {s : State} {o : OutputId} {ms : Nat} (state : (s.output o).state = .ready)
    (timer : (s.output o).dwellTimer = .running ms) : exec (.readyDwellExpiry o) s =
      .next (s.modOutput o fun out => { out with tripCount := 0, dwellTimer := .stopped }) := by
  simp only [exec, execReadyDwellExpiry, state, timer]

/-! ## CLEAR_LOCKOUT (R143) -/

theorem OutputState.cleared_eq (out : OutputState) (down : Bool) : out.cleared down =
    if { out with state := .off, tripCount := 0 }.demand = true then
      { out with state := .off, tripCount := 0 }.afterDemand true down
    else { out with state := .off, tripCount := 0 } :=
  OutputState.warmIfDemanded_eq _ down rfl

theorem OutputState.tripCount_cleared (out : OutputState) (down : Bool) : (out.cleared down).tripCount = 0 := by
  unfold OutputState.cleared OutputState.warmIfDemanded
  split <;> rfl

theorem clearLockout_code (o : OutputId) (s : State) : clearLockout o.code s =
    if (s.output o).state = .lockedOut then .accept (s.modOutput o fun _ => (s.output o).cleared s.isDown)
      [o.code, ((s.output o).cleared s.isDown).state.code, 0x00#8]
    else .refuse s .notApplicable := by
  have moved : s.modOutput o (·.cleared s.isDown) = s.modOutput o fun _ => (s.output o).cleared s.isDown :=
    State.modOutput_congr rfl
  simp only [clearLockout, OutputId.ofCode_code, moved, State.output_modOutput_self, OutputState.tripCount_cleared]
  rfl

theorem clearLockout_badField {b : Byte} (above : 1 < b.toNat) (s : State) : clearLockout b s = .refuse s .badField := by
  simp [clearLockout, OutputId.ofCode_eq_none_of_lt above]

end Sys2Proof.Machine
end

section
/-! PROOF. The obligations about the commands and the timers of Excitation Control (chapter 7). -/

namespace Sys2Proof.Proofs
open Sys2Proof Sys2Proof.Machine

/-- Settles O46: the output takes its new vote or rule and is judged from what it was. -/
theorem votesAndRulesMoveTheOutput : Obligations.VotesAndRulesMoveTheOutput := by
  unfold Obligations.VotesAndRulesMoveTheOutput
  intro s p q o on mode
  refine ⟨fun out => ?_, fun awaits => ?_, fun awaits => ?_, fun x y z => ⟨fun awaits above => ?_, fun awaits above => ?_⟩⟩
  · rfl
  · exact exec_accepts (i := .exciteVote p o.code (boolCode on)) (code := .exciteVote) rfl nofun awaits (.inl rfl)
      (exciteVote_codes p o on (s.closedAt p) _ (OutputState.judgedFrom_eq _ _ _).symm)
  · exact exec_accepts (i := .setCombine s.supervisor o.code mode.code q.code) (code := .setCombine) rfl nofun awaits (.inr rfl)
      (setCombine_codes o mode q (s.closedAt s.supervisor) _ (OutputState.judgedFrom_eq _ _ _).symm)
  · exact exec_refuses (i := .exciteVote p x y) rfl nofun awaits (.inl rfl) (exciteVote_badField above p _)
  · exact exec_refuses (i := .setCombine s.supervisor x y z) rfl nofun awaits (.inr rfl) (setCombine_badField above _)

/-- Settles O47, timer by timer, and CLEAR_LOCKOUT by its checks. -/
theorem timersAndClearanceMoveTheOutput : Obligations.TimersAndClearanceMoveTheOutput := by
  unfold Obligations.TimersAndClearanceMoveTheOutput
  refine ⟨fun s o ms => ⟨fun state timer => ?_, fun state timer => ?_, fun state timer => ?_, fun state timer => ?_⟩,
    fun s o awaits => ⟨fun locked => ?_, fun free => ?_, fun b above => ?_⟩⟩
  · rw [exec_warmUpExpiry state timer, s.warmedUp_eq]
  · rw [exec_lingerExpiry state timer]
    exact congrArg _ (State.modOutput_congr (OutputState.warmIfDemanded_eq _ _ rfl))
  · rw [exec_holdOffExpiry state timer]
    exact congrArg _ (State.modOutput_congr (OutputState.warmIfDemanded_eq _ _ rfl))
  · rw [exec_readyDwellExpiry state timer]
    exact congrArg _ (State.modOutput_congr rfl)
  · simp only [← OutputState.cleared_eq]
    refine exec_accepts (i := .clearLockout s.supervisor o.code) (code := .clearLockout) rfl nofun awaits (.inr rfl) ?_
    exact (clearLockout_code o (s.closedAt s.supervisor)).trans (if_pos locked)
  · exact exec_refuses (i := .clearLockout s.supervisor o.code) rfl nofun awaits (.inr rfl)
      ((clearLockout_code o (s.closedAt s.supervisor)).trans (if_neg free))
  · exact exec_refuses (i := .clearLockout s.supervisor b) rfl nofun awaits (.inr rfl) (clearLockout_badField above _)

end Sys2Proof.Proofs
end

section
/-! SUPPORT. The end of an output period (R74): what the period counts, the use of its output, and what follows it. -/

namespace Sys2Proof.Machine

/-- The state with a period counted on the loaded setup (R74, R75). -/
def State.counted (s : State) (l : LoadedSetup) (overload : Bool) : State := s.modEngine (·.countPeriod l overload)

section

variable {s : State} {r : Request} {step : OpStep} {l : LoadedSetup} {raw : Int}

/-- The end of a period of a request in flight: the period counts, its output is used, and a halt or a grant point
follows. -/
theorem exec_outputPeriodEnd (overload : Bool) (range : InResultRange raw) (flight : s.flight = some r)
    (loaded : s.engine.loaded = some l) (under : s.engine.step = some step)
    (converting : s.engine.state = .running ∨ s.engine.state = .halting) :
    exec (.outputPeriodEnd raw overload) s = .next
      ((s.counted l overload).useOutput r step l raw (s.engine.overloadSpan l overload)).afterPeriod := by
  have occurs : (s.converts && outputInRange raw) = true := by
    rw [Bool.and_eq_true, inResultRange_iff]
    exact ⟨by simpa [State.converts] using converting, range⟩
  simp only [exec, execOutputPeriodEnd]
  rw [if_pos occurs]
  simp only [State.endPeriod, flight, under, loaded, State.counted, ← Engine.spanOverload_countPeriod]
  rfl

theorem State.afterPeriod_halting (halting : s.engine.state = .halting) : s.afterPeriod = s.enterDown := by
  rw [State.afterPeriod, halting]

theorem State.afterPeriod_busy (running : s.engine.state = .running) (busy : s.engine.inFlight ≠ none) :
    s.afterPeriod = s := by
  rw [State.afterPeriod, running]
  simp [busy]

theorem State.afterPeriod_free (running : s.engine.state = .running) (free : s.engine.inFlight = none) :
    s.afterPeriod = s.freed true := by
  rw [State.afterPeriod, running]
  simp [free]

end

/-! ## Steps that deliver nothing (R77, R78, R83) -/

theorem LoadedSetup.fullProgress_eq (l : LoadedSetup) : l.fullProgress = l.setup.order.toNat - 1 := rfl

theorem State.useOutput_of_settling {step : OpStep} (settles : step.usesOutput = false) (s : State) (r : Request)
    (l : LoadedSetup) (raw : Int) (overload : Bool) :
    s.useOutput r step l raw overload = s.modEngine (·.advance l step) := by
  cases step <;> first | rfl | cases settles

theorem settles_of_mem {step next : OpStep} (mem : (step, next) ∈ [(OpStep.settling, OpStep.output),
    (.chopPlusSettling, .chopPlusOutput), (.chopMinusSettling, .chopMinusOutput), (.zeroSettling, .zeroAveraging)]) :
    step.usesOutput = false ∧ next = step.settled := by
  simp only [List.mem_cons, Prod.mk.injEq, List.not_mem_nil, or_false] at mem
  obtain ⟨rfl, rfl⟩ | ⟨rfl, rfl⟩ | ⟨rfl, rfl⟩ | ⟨rfl, rfl⟩ := mem <;> exact ⟨rfl, rfl⟩

/-- A period whose use moves the engine alone, with its state and its request in flight: the next period has begun in
RUNNING, and a halt ends in HALTING. -/
theorem exec_outputPeriodEnd_of_engine {s : State} {r : Request} {step : OpStep} {l : LoadedSetup} {raw : Int}
    {overload : Bool} {e : Engine} (range : InResultRange raw) (flight : s.flight = some r)
    (loaded : s.engine.loaded = some l) (under : s.engine.step = some step)
    (used : (s.counted l overload).useOutput r step l raw (s.engine.overloadSpan l overload) = { s with engine := e })
    (state : e.state = s.engine.state) (inFlight : e.inFlight = s.engine.inFlight) :
    (s.engine.state = .running → s.engine.inFlight ≠ none →
      exec (.outputPeriodEnd raw overload) s = .next { s with engine := e }) ∧
    (s.engine.state = .halting → exec (.outputPeriodEnd raw overload) s = .next { s with engine := e }.enterDown) := by
  refine ⟨fun running busy => ?_, fun halting => ?_⟩
  · rw [exec_outputPeriodEnd overload range flight loaded under (.inl running), used,
      State.afterPeriod_busy (state.trans running) (by rw [← inFlight] at busy; exact busy)]
  · rw [exec_outputPeriodEnd overload range flight loaded under (.inr halting), used,
      State.afterPeriod_halting (state.trans halting)]

theorem averaged_of_held {held : Held} {sum : Int} {number : Nat} {before : Bool}
    (h : held = .average sum number before ∨ held = .none ∧ sum = 0 ∧ number = 0 ∧ before = false) :
    held.averaged = (sum, number, before) := by
  obtain rfl | ⟨rfl, rfl, rfl, rfl⟩ := h <;> rfl

/-- An averaged output of a ZERO but the fourth (R83). -/
theorem State.averageOutput_of_open {s : State} {sum : Int} {number : Nat} {before : Bool}
    (held : s.engine.held.averaged = (sum, number, before)) (more : number < 3) (r : Request) (raw : Int) (overload : Bool) :
    s.averageOutput r raw overload =
      s.modEngine fun e => { e with held := .average (sum + raw) (number + 1) (before || overload) } := by
  simp only [State.averageOutput, held]
  exact if_pos (by omega)

/-- The fourth averaged output of a ZERO (R83). -/
theorem State.averageOutput_of_fourth {s : State} {sum : Int} {before : Bool}
    (held : s.engine.held.averaged = (sum, 3, before)) (r : Request) (raw : Int) (overload : Bool) :
    s.averageOutput r raw overload = s.completeZero r (zeroAverage (sum + raw)) (before || overload) := by
  simp only [State.averageOutput, held]
  exact if_neg (by omega)

/-! ## No output before the filter has settled (R77) -/

/-- The use of an output by a settling step moves the engine alone. -/
theorem State.quiet_of_settling {s : State} {step : OpStep} (settles : step.usesOutput = false) (r : Request) (l : LoadedSetup)
    (raw : Int) (overload span : Bool) : s.Quiet ((s.counted l overload).useOutput r step l raw span).afterPeriod := by
  rw [State.useOutput_of_settling settles]
  exact ((s.quiet_modEngine _).trans (State.quiet_modEngine _ _)).trans (State.quiet_afterPeriod _)

end Sys2Proof.Machine
end

section
/-! PROOF. The obligations about the periods that deliver nothing and about the settled filter (chapter 4). -/

namespace Sys2Proof.Proofs
open Sys2Proof Sys2Proof.Machine

/-- Settles O36, step by step. -/
theorem discardedPeriodsSettleTheFilter : Obligations.DiscardedPeriodsSettleTheFilter := by
  unfold Obligations.DiscardedPeriodsSettleTheFilter
  intro s r l step next raw overload flight loaded under range
  refine ⟨fun settles => ?_, fun plus => ?_, fun averaging sum number before held more => ?_⟩
  · obtain ⟨unused, rfl⟩ := settles_of_mem settles
    refine exec_outputPeriodEnd_of_engine range flight loaded under ?_ rfl rfl
    rw [State.useOutput_of_settling unused, State.counted]
    simp only [State.modEngine, Engine.advance, Engine.countPeriod_eq, LoadedSetup.fullProgress_eq]
  · subst plus
    exact exec_outputPeriodEnd_of_engine range flight loaded under rfl rfl rfl
  · subst averaging
    refine exec_outputPeriodEnd_of_engine range flight loaded under ?_ rfl rfl
    have average := State.averageOutput_of_open (s := s.counted l overload) (averaged_of_held held) more r raw
      (s.engine.overloadSpan l overload)
    refine average.trans ?_
    simp only [State.modEngine, State.counted, Engine.countPeriod_eq]

/-- Settles O42: what is used takes a step that uses outputs, and with it a full settle progress. -/
theorem unsettledOutputsAreNotUsed : Obligations.UnsettledOutputsAreNotUsed := by
  unfold Obligations.UnsettledOutputsAreNotUsed
  intro s t l raw overload settled loaded run changed
  by_contra short
  have quiet : s.Quiet t := by
    cases run
    split
    next =>
      unfold State.endPeriod
      split
      next r step l' flight under loaded' =>
        cases loaded.symm.trans loaded'
        refine State.quiet_of_settling ?_ r l raw overload _
        by_contra uses
        obtain ⟨l', loaded', full⟩ := settled.1 step under (by simpa using uses)
        cases loaded.symm.trans loaded'
        exact short full
      next => exact .refl s
    next => exact .refl s
  obtain ⟨q, ring⟩ | temperature | ⟨n, record⟩ := changed
  · exact ring (quiet.2.ring q)
  · exact temperature quiet.2.temperature
  · exact record (quiet.2.record n)

end Sys2Proof.Proofs
end

section
/-! SUPPORT. The close of a port's transaction and the end of requests touch nothing of each other (R159, R160): the commands
that end requests act on the closed transaction as on the open one. -/

namespace Sys2Proof.Machine

variable (s : State) (p : Port)

theorem State.live_closedAt : (s.closedAt p).live = s.live := (s.sameCore_closedAt p).live

theorem State.mapPorts_closedAt (f : PortState → PortState)
    (apart : ∀ ps, f { ps with transaction := .closed } = { f ps with transaction := .closed }) :
    (s.closedAt p).mapPorts f = (s.mapPorts f).closedAt p := by
  cases p <;> simp [State.mapPorts, State.closedAt, PerPort.get, PerPort.set, PerPort.map, apart]

theorem State.modSource_closedAt (r : Request) (f : PortState → PortState)
    (apart : ∀ ps, f { ps with transaction := .closed } = { f ps with transaction := .closed }) :
    (s.closedAt p).modSource r f = (s.modSource r f).closedAt p := by
  unfold State.modSource
  cases r.source with
  | port q => exact s.modPort_closedAt p q f apart
  | monitor => rfl

theorem State.postOwner_closedAt (owner : Option Source) (n : Notice) :
    (s.closedAt p).postOwner owner n = (s.postOwner owner n).closedAt p := by
  unfold State.postOwner
  split
  · exact s.post_closedAt p _ n
  · rfl

theorem State.postEnded_closedAt (reason : Reason) (r : Request) :
    (s.closedAt p).postEnded reason r = (s.postEnded reason r).closedAt p := by
  unfold State.postEnded
  split
  · exact s.post_closedAt p _ _
  · rfl

/-- What touches nothing of a transaction's close one by one does so one after the other. -/
theorem State.foldl_closedAt {α : Type} {f : State → α → State} (apart : ∀ s x, f (State.closedAt s p) x = (f s x).closedAt p)
    (l : List α) : l.foldl f (s.closedAt p) = (l.foldl f s).closedAt p := by
  induction l generalizing s with
  | nil => rfl
  | cons x rest ih => rw [List.foldl_cons, List.foldl_cons, apart, ih]

theorem State.drop_closedAt (ends : Request → Bool) : (s.closedAt p).drop ends = (s.drop ends).closedAt p := by
  rw [State.drop, State.drop, s.mapPorts_closedAt p _ fun _ => rfl, s.live_closedAt]
  rfl

theorem State.completeRetire_closedAt (n : Fin 32) : (s.closedAt p).completeRetire n = (s.completeRetire n).closedAt p := by
  unfold State.completeRetire
  rw [s.profile_closedAt]
  split
  · rw [State.modProfile_closedAt, State.postOwner_closedAt]
  · rfl

theorem State.completeRetires_closedAt (ended : List Request) :
    (s.closedAt p).completeRetires ended = (s.completeRetires ended).closedAt p := by
  refine State.foldl_closedAt s p (fun s n => ?_) _
  split
  · exact s.completeRetire_closedAt p n
  · rfl

theorem State.abandonIf_closedAt (ends : Request → Bool) : (s.closedAt p).abandonIf ends = (s.abandonIf ends).closedAt p := by
  unfold State.abandonIf
  rw [s.flight_closedAt]
  split
  · split
    · unfold State.abandon State.releaseReservation
      rw [s.modSource_closedAt p _ _ fun _ => rfl]
      rfl
    · rfl
  · rfl

theorem State.terminate_closedAt (reason : Reason) (ends : Request → Bool) :
    (s.closedAt p).terminate reason ends = (s.terminate reason ends).closedAt p := by
  rw [State.terminate_eq, State.terminate_eq, s.live_closedAt, s.abandonIf_closedAt, State.drop_closedAt]
  split
  · rw [State.foldl_closedAt _ p (fun s r => s.postEnded_closedAt p reason r), State.completeRetires_closedAt]
  · rw [State.completeRetires_closedAt]

theorem State.handOverDemand_closedAt (f : OutputState → OutputState) :
    (s.closedAt p).handOverDemand f = (s.handOverDemand f).closedAt p := by
  have stands : ∀ o, (s.closedAt p).requestsNeed o = s.requestsNeed o := fun o => by
    rw [State.requestsNeed, State.requestsNeed, s.live_closedAt]
    rfl
  unfold State.handOverDemand
  rw [stands, stands]
  rfl

theorem State.modFlight_closedAt (f : Request → Request) : (s.closedAt p).modFlight f = (s.modFlight f).closedAt p := by
  have same : (s.closedAt p).engine = s.engine := rfl
  unfold State.modFlight
  rw [same]
  split
  · rfl
  · exact s.modPort_closedAt p _ _ fun _ => rfl
  · rfl

theorem State.giveBack_closedAt : (s.closedAt p).giveBack = s.giveBack.closedAt p := by
  unfold State.giveBack
  rw [s.flight_closedAt]
  split
  · rfl
  · split
    · rw [State.terminate_closedAt, State.refreshDemand_closedAt]
    · unfold State.releaseReservation
      rw [s.modSource_closedAt p _ _ fun _ => rfl, State.modFlight_closedAt]

theorem State.enterDown_closedAt : (s.closedAt p).enterDown = s.enterDown.closedAt p := by
  have posts : ((s.closedAt p).giveBack.modEngine (·.downed)).postAll (.engine .down) =
      ((s.giveBack.modEngine (·.downed)).postAll (.engine .down)).closedAt p := by
    rw [s.giveBack_closedAt, ← State.postAll_closedAt]
    rfl
  unfold State.enterDown
  rw [posts]
  rfl

theorem State.freed_closedAt (boundary : Bool) : (s.closedAt p).freed boundary = (s.freed boundary).closedAt p := by
  have same : (s.closedAt p).engine = s.engine := rfl
  unfold State.freed
  rw [same]
  split
  · exact s.grantPoint_closedAt boundary p
  · exact s.enterDown_closedAt p
  all_goals rfl

theorem State.afterTerminations_closedAt (abandoned : Bool) :
    (s.closedAt p).afterTerminations abandoned = (s.afterTerminations abandoned).closedAt p := by
  unfold State.afterTerminations
  split
  · exact s.freed_closedAt p false
  · exact s.kick_closedAt p

theorem State.flightEnds_closedAt (ends : Request → Bool) : (s.closedAt p).flightEnds ends = s.flightEnds ends := by
  rw [State.flightEnds, State.flightEnds, s.flight_closedAt]

/-! ## The commands that end requests -/

theorem State.cancel_closedAt (tag : Byte) : (s.closedAt p).cancel p tag = (s.cancel p tag).closedAt p := by
  rw [State.cancel_eq, State.cancel_eq, State.cancelEnded, s.terminate_closedAt, State.refreshDemand_closedAt,
    s.flightEnds_closedAt, State.afterTerminations_closedAt]
  rfl

theorem State.disown_closedAt (owner : Option Source) : (s.closedAt p).disown owner = (s.disown owner).closedAt p := by
  unfold State.disown
  split
  · exact s.modPort_closedAt p _ _ fun _ => rfl
  · rfl

theorem State.forceRelease_closedAt (n : Fin 32) : (s.closedAt p).forceRelease n = (s.forceRelease n).closedAt p := by
  have erased : (s.closedAt p).erase n = (s.erase n).closedAt p := rfl
  rw [State.forceRelease_eq, State.forceRelease_eq, State.forceEnded, erased, State.terminate_closedAt,
    State.disown_closedAt, State.postOwner_closedAt, State.refreshDemand_closedAt, s.flightEnds_closedAt,
    State.afterTerminations_closedAt]
  rfl

theorem State.retire_closedAt (n : Fin 32) : (s.closedAt p).retire n = (s.retire n).closedAt p := by
  have marked : (s.closedAt p).retireMarked n = (s.retireMarked n).closedAt p := by
    have flies : ∀ u : State, (u.closedAt p).flightIsContinuous n = u.flightIsContinuous n := fun u => by
      rw [State.flightIsContinuous, State.flightIsContinuous, u.flight_closedAt]
    unfold State.retireMarked State.markFinal
    rw [State.modProfile_closedAt, flies]
    split
    · exact State.modFlight_closedAt _ p _
    · rfl
  unfold State.retire
  rw [s.profile_closedAt]
  split
  · rfl
  · rw [State.retireBusy_eq, State.retireBusy_eq, State.retireEnded, marked, State.terminate_closedAt,
      State.refreshDemand_closedAt, State.kick_closedAt]
    rfl

theorem State.withdrawFor_closedAt (q : Port) : (s.closedAt p).withdrawFor q = (s.withdrawFor q).closedAt p := by
  have same : (s.closedAt p).offer = s.offer := rfl
  unfold State.withdrawFor
  rw [same]
  split
  · rfl
  · split
    · rfl
    · exact State.post_closedAt { s with offer := none, offerTimer := .stopped } p _ _

theorem State.resetPort_closedAt : (s.closedAt p).resetPort p = (s.resetPort p).closedAt p := by
  have ended : (s.closedAt p).resetEnded p = (s.resetEnded p).closedAt p := by
    rw [State.resetEnded, s.terminate_closedAt, State.modPort_closedAt _ _ _ _ fun _ => rfl, State.withdrawFor_closedAt,
      State.handOverDemand_closedAt]
    rfl
  have freed : (s.closedAt p).resetFreed p = (s.resetFreed p).closedAt p := by
    unfold State.resetFreed
    rw [s.flightEnds_closedAt, ended, State.freed_closedAt]
    split <;> rfl
  rw [State.resetPort_eq, freed, State.modPort_closedAt _ _ _ _ fun _ => rfl]
  rfl

end Sys2Proof.Machine
end

section
/-! SUPPORT. What the end of live requests leaves (R8, R9, R30, R46, R87), and what the converter makes of it: an abandonment
frees it (R87 step 5), and an idle converter is tried (R53). -/

namespace Sys2Proof.Machine

/-! ## A converter freed or tried -/

/-- What freeing the converter, or trying an idle one, leaves of the state `w`, where a halt ends in it or not: a grant
point moves marks, reservations, credits, the arbiter and the operation; the end of a halt posts ENGINE (DOWN) and switches
the outputs off. -/
structure State.Frees (w t : State) (halts : Bool) : Prop where
  entries : ∀ q, (t.port q).entries = (w.port q).entries
  used : ∀ q, (t.port q).used = (w.port q).used
  ports : w.PortsWork t fun _ => downNotice halts
  waiting : (t.monitor.queue.map fun r => { r with state := .queued }) = w.monitor.queue.map fun r => { r with state := .queued }
  profile : ∀ n, t.profile n = w.profile n
  output : ∀ o, t.output o = if halts then (w.output o).inDown else w.output o
  state : t.engine.state = if halts then .down else w.engine.state

namespace State.Frees

variable {w t u : State}

theorem of_same (queue : ∀ q, (t.port q).entries = (w.port q).entries) (used : ∀ q, (t.port q).used = (w.port q).used)
    (ports : w.PortsWork t noNotices)
    (waiting : (t.monitor.queue.map fun r => { r with state := .queued }) =
      w.monitor.queue.map fun r => { r with state := .queued })
    (profiles : t.profiles = w.profiles) (outputs : t.outputs = w.outputs) (state : t.engine.state = w.engine.state) :
    w.Frees t false :=
  ⟨queue, used, ports, waiting, fun n => by rw [State.profile, State.profile, profiles],
    fun o => by rw [State.output, State.output, outputs]; rfl, state⟩

theorem refl (w : State) : w.Frees w false := of_same (fun _ => rfl) (fun _ => rfl) (.refl w) rfl rfl rfl rfl

theorem trans {halts : Bool} (h : w.Frees t false) (k : t.Frees u halts) : w.Frees u halts where
  entries q := (k.entries q).trans (h.entries q)
  used q := (k.used q).trans (h.used q)
  ports := h.ports.quiet_trans k.ports
  waiting := k.waiting.trans h.waiting
  profile n := (k.profile n).trans (h.profile n)
  output o := by
    rw [k.output, h.output]
    rfl
  state := by
    rw [k.state, h.state]
    rfl

theorem grant (w : State) (f : Flight) : w.Frees (w.grant f) false := by
  obtain ⟨profiles, outputs, -, port⟩ := w.grant_rest f
  refine of_same (w.grant_entries f) (fun q => by rw [port q]) (w.portsWork_grant f) ?_ profiles outputs ?_
  · cases flies : (w.modEngine fun e => { e with inFlight := some f }).flight with
    | none => rw [w.grant_none f flies]
    | some r =>
      rw [w.grant_some f r flies]
      cases source : r.source <;> cases f <;> simp only [State.modSource, source]
      case monitor.monitor n | port.monitor x n =>
        show (List.map _ (w.monitor.queue.map _)) = _
        rw [List.map_map]
        refine List.map_congr_left fun r _ => ?_
        simp only [Function.comp_apply]
        split <;> rfl
      all_goals rfl
  · cases flies : (w.modEngine fun e => { e with inFlight := some f }).flight with
    | none => rw [w.grant_none f flies]
    | some r =>
      rw [w.grant_engine f r flies]
      exact (Engine.load_parts _ _).2.1

theorem refill (w : State) : w.Frees w.refill false := by
  obtain ⟨rest, port⟩ := w.refill_rest
  have others : w.refill.monitor = w.monitor ∧ w.refill.profiles = w.profiles ∧ w.refill.outputs = w.outputs ∧
      w.refill.engine = w.engine := by
    rw [rest]
    exact ⟨rfl, rfl, rfl, rfl⟩
  obtain ⟨monitor, profiles, outputs, engine⟩ := others
  exact of_same (fun q => by rw [port q]; rfl) (fun q => by rw [port q]) w.portsWork_refill (by rw [monitor]) profiles outputs
    (by rw [engine])

theorem modArbiter (w : State) (f : Arbiter → Arbiter) : w.Frees (w.modArbiter f) false :=
  of_same (fun _ => rfl) (fun _ => rfl) (.of_ports fun _ => rfl) rfl rfl rfl rfl

theorem goIdle (w : State) : w.Frees w.goIdle false :=
  of_same (fun _ => rfl) (fun _ => rfl) (.of_ports fun _ => rfl) rfl rfl rfl rfl

theorem grantPoint (w : State) (boundary : Bool) : w.Frees (w.grantPoint boundary) false := by
  rcases w.grantPoint_cases boundary with ⟨r, -, e⟩ | ⟨-, ⟨-, e⟩ | ⟨-, ⟨p, -, e⟩ | ⟨-, ⟨p, -, e⟩ | ⟨-, e⟩⟩⟩⟩ <;> rw [e]
  · exact grant w _
  · exact goIdle w
  · exact (refill w).trans ((modArbiter _ _).trans (grant _ _))
  · exact (refill w).trans ((modArbiter _ _).trans (grant _ _))
  · exact (refill w).trans (goIdle _)

theorem kick (w : State) : w.Frees w.kick false := by
  rcases w.kick_cases with ⟨-, e⟩ | ⟨-, e⟩ <;> rw [e]
  · exact refl w
  · exact grantPoint w false

/-- The end of a halt with nothing in flight. -/
theorem enterDown (free : w.engine.inFlight = none) : w.Frees w.enterDown true := by
  have parts := State.enterDown_of_free free
  have port : ∀ q, w.enterDown.port q = (w.port q).post (.engine .down) := fun q => by
    rw [parts]
    cases q <;> rfl
  refine ⟨fun q => ?_, fun q => ?_, fun q => ?_, ?_, fun n => ?_, fun o => ?_, ?_⟩
  · rw [port, PortState.entries, PortState.post_queue]
    rfl
  · rw [port, PortState.post_used]
  · rw [port]
    rfl
  · rw [parts]
  · rw [parts]
    rfl
  · rw [parts]
    cases o <;> rfl
  · rw [parts]
    rfl

theorem freed (w : State) (boundary : Bool) (free : w.engine.inFlight = none) :
    w.Frees (w.freed boundary) (decide (w.engine.state = .halting)) := by
  rcases w.freed_cases boundary with ⟨state, e⟩ | ⟨state, e⟩ | ⟨state, e⟩ <;> rw [e]
  · rw [state]
    exact grantPoint w boundary
  · rw [state]
    exact enterDown free
  · rw [decide_eq_false (by rcases state with h | h <;> rw [h] <;> decide)]
    exact refl w

end State.Frees

/-- A converter that is not idle is not tried. -/
theorem State.kick_of_busy {w : State} (busy : w.engine.inFlight ≠ none ∨ w.engine.state ≠ .running) : w.kick = w := by
  refine State.kick_of_stands fun idle => ?_
  have idle := (w.idleEnds_iff).2 idle
  simp only [State.isIdle, State.isRunning, Bool.and_eq_true, decide_eq_true_eq, Option.isNone_iff_eq_none] at idle
  exact busy.elim (absurd idle.1.2) (absurd idle.1.1)

/-! ## Live requests ended -/

/-- What the end of every live request that `ends` selects leaves of the work (R8, R87): the other requests, the converter
freed where its request was among them, and the rest of the arbiter, the monitor and the profiles of the others. -/
structure State.WorkEnds (s w : State) (ends : Request → Bool) : Prop where
  queue : ∀ q, (w.port q).queue = (s.port q).queue.filter (!ends ·)
  weight : ∀ q, (w.port q).weight = (s.port q).weight
  reservations : s.flightEnds ends = true → ∀ q, (w.port q).reservations = 0
  monitor : w.monitor = { s.monitor with queue := s.monitor.queue.filter (!ends ·) }
  engine : w.engine = if s.flightEnds ends then s.engine.noFlight.settleBreak else s.engine
  arbiter : w.arbiter = s.arbiter
  contents : ∀ r ∈ s.live, ends r = false → (w.profile r.profile).setup = (s.profile r.profile).setup ∧
    (w.profile r.profile).method = (s.profile r.profile).method ∧ (w.profile r.profile).need = (s.profile r.profile).need

/-- With the request in flight among those that end, every reservation is released (R62, R87). -/
theorem State.reservations_terminate {s : State} (flight : s.FlightLawful) (room : s.RoomLaw) {ends : Request → Bool}
    (abandons : s.flightEnds ends = true) (reason : Reason) (q : Port) :
    ((s.terminate reason ends).port q).reservations = 0 := by
  obtain ⟨r, flies, ended⟩ := (Option.any_eq_true _ _).1 abandons
  rw [State.terminate_reservations, flies]
  simp only [ended, true_and]
  obtain ⟨p, rest, inFlight, queue, source⟩ | ⟨inFlight, -, source, -⟩ := flight.flight_source flies
  · by_cases same : p = q
    · subst same
      obtain ⟨r', rest', queue', -, -, reserved⟩ := room.flying p inFlight
      rw [queue] at queue'
      cases queue'
      rw [if_pos source]
      cases run : r.run with
      | contiguous => rw [reserved.1 run, Request.reserves, run, Request.owed, Nat.sub_self]
      | interleaved => rw [(reserved.2 run).1, Nat.zero_sub]
    · rw [room.unreserved q (by rw [inFlight]; rintro ⟨⟩; exact same rfl)]
      exact Nat.zero_sub _
  · rw [room.unreserved q (by rw [inFlight]; nofun)]
    exact Nat.zero_sub _

theorem State.workEnds_terminate {s : State} (flight : s.FlightLawful) (room : s.RoomLaw) (reason : Reason)
    (ends : Request → Bool) : s.WorkEnds (s.terminate reason ends) ends where
  queue := s.terminate_queue reason ends
  weight := (s.portsWork_terminate reason ends).weight
  reservations abandons := State.reservations_terminate flight room abandons reason
  monitor := s.terminate_monitor reason ends
  engine := s.terminate_engine reason ends
  arbiter := s.terminate_arbiter reason ends
  contents r _ _ :=
    have same := (s.quiet_terminate reason ends).1.profiles r.profile
    ⟨same.setup, same.method, same.need⟩

namespace State.WorkEnds

variable {s w v t : State} {ends : Request → Bool}

/-- What neither reads nor moves the work leaves it ended. -/
theorem then_same (h : s.WorkEnds w ends) (queue : ∀ q, (v.port q).queue = (w.port q).queue)
    (weight : ∀ q, (v.port q).weight = (w.port q).weight)
    (reservations : ∀ q, (v.port q).reservations = (w.port q).reservations ∨ (v.port q).reservations = 0)
    (monitor : v.monitor = w.monitor) (engine : v.engine = w.engine) (arbiter : v.arbiter = w.arbiter)
    (contents : ∀ n, (w.profile n).SameContents (v.profile n)) : s.WorkEnds v ends where
  queue q := (queue q).trans (h.queue q)
  weight q := (weight q).trans (h.weight q)
  reservations abandons q := (reservations q).elim (fun same => same.trans (h.reservations abandons q)) id
  monitor := monitor.trans h.monitor
  engine := engine.trans h.engine
  arbiter := arbiter.trans h.arbiter
  contents r mem stays :=
    have ⟨setup, method, need⟩ := h.contents r mem stays
    have same := contents r.profile
    ⟨same.setup.trans setup, same.method.trans method, same.need.trans need⟩

theorem then_notices (h : s.WorkEnds w ends) (k : w.NoticesOnly v) : s.WorkEnds v ends :=
  h.then_same k.queue (fun q => by rw [k.ports q]) (fun q => .inl (by rw [k.ports q])) k.monitor k.engine
    (by rw [k.rest]) fun n => by rw [k.profile]; exact .refl _

theorem then_handOverDemand (h : s.WorkEnds w ends) (f : OutputState → OutputState) : s.WorkEnds (w.handOverDemand f) ends :=
  h.then_same (fun _ => rfl) (fun _ => rfl) (fun _ => .inl rfl) rfl rfl rfl fun _ => .refl _

theorem live (h : s.WorkEnds w ends) : w.live = s.live.filter (!ends ·) :=
  State.live_filter ends h.queue (by rw [h.monitor])

theorem free (h : s.WorkEnds w ends) (abandons : s.flightEnds ends = true) : w.engine.inFlight = none := by
  rw [h.engine, abandons]
  rfl

theorem state (h : s.WorkEnds w ends) : w.engine.state = s.engine.state := by
  rw [h.engine]
  split <;> rfl

/-- The state that an abandonment leaves is the one the statements describe (R87). -/
theorem abandonsAt (h : s.WorkEnds w ends) (flight : s.FlightLawful) (abandons : s.flightEnds ends = true)
    {credit : Port → Int} (credits : ∀ q, (w.port q).credit = credit q) : s.AbandonsAt w ends credit := by
  refine ⟨?_, h.arbiter, h.monitor, fun q => ⟨credits q, h.weight q, h.reservations abandons q⟩, fun r mem => ?_⟩
  · rw [h.engine, abandons]
    rfl
  · rw [h.live, List.mem_filter, Bool.not_eq_true'] at mem
    obtain ⟨live, stays⟩ := mem
    refine ⟨r.queued_iff.2 fun flies => ?_, h.contents r live stays⟩
    obtain ⟨x, flight', ended⟩ := (Option.any_eq_true _ _).1 abandons
    rw [flight.flight_of_state live flies] at flight'
    cases flight'
    rw [ended] at stays
    cases stays

end State.WorkEnds

/-- What becomes of the converter once live requests have ended (R53, R87). -/
structure State.Settles (w t : State) (abandons : Bool) : Prop where
  frees : w.Frees t (abandons && decide (w.engine.state = .halting))
  grants : abandons = true → w.engine.state = .running → t = w.grantPoint false
  halts : abandons = true → w.engine.state = .halting → t = w.enterDown
  stands : abandons = false → w.engine.inFlight ≠ none ∨ w.engine.state ≠ .running → t = w

theorem State.settles_afterTerminations {w : State} {abandons : Bool} (free : abandons = true → w.engine.inFlight = none) :
    w.Settles (w.afterTerminations abandons) abandons := by
  cases abandons with
  | false => exact ⟨.kick w, nofun, nofun, fun _ busy => State.kick_of_busy busy⟩
  | true =>
    refine ⟨.freed w false (free rfl), fun _ running => ?_, fun _ halting => ?_, nofun⟩
    · show w.freed false = _
      rw [State.freed, running]
    · show w.freed false = _
      rw [State.freed, halting]

/-- The end of a halt clears the converter, and the arbiter and the credits stand (R72). -/
theorem State.haltEnds_enterDown {s w : State} (free : w.engine.inFlight = none) (arbiter : w.arbiter = s.arbiter)
    (credit : ∀ q, (w.port q).credit = (s.port q).credit) : s.HaltEnds w.enterDown := by
  rw [State.enterDown_of_free free]
  refine ⟨rfl, rfl, arbiter, fun q => ?_⟩
  rw [← credit]
  have port : ({ w with ports := w.ports.map (PortState.post · (.engine .down)) } : State).port q =
      (w.port q).post (.engine .down) := by
    cases q <;> rfl
  exact (congrArg PortState.credit port).trans (PortState.post_credit _ _)

/-! ## Profiles and notices after the end (R8, R9, R30) -/

/-- The references left after the end of some live requests are those of the others (R8). -/
theorem State.refCount_drop {s : State} (counts : s.CountsMatch) (ends : Request → Bool) (n : Fin 32) :
    ((s.drop ends).profile n).refCount = s.live.countP fun r => decide (r.profile = n) && !ends r := by
  have split := countP_split s.live (fun r => decide (r.profile = n)) ends
  rw [State.profile_drop]
  show (s.profile n).refCount - _ = _
  rw [counts n, State.named, split]
  simp only [Nat.add_sub_cancel_left, List.countP_filter]

/-- The end of some live requests completes a retire in the words of the model and of the statements (R9). -/
theorem State.retireEnds_drop {s : State} (counts : s.CountsMatch) (ends : Request → Bool) (n : Fin 32) :
    (s.drop ends).retireEnds (s.live.filter ends) n = s.retireCompletes ends n := by
  have none : decide (((s.drop ends).profile n).refCount = 0) = s.live.all fun r => !decide (r.profile = n) || ends r := by
    rw [Bool.eq_iff_iff, decide_eq_true_eq, State.refCount_drop counts, List.countP_eq_zero, List.all_eq_true]
    refine forall_congr' fun r => forall_congr' fun _ => ?_
    cases ends r <;> simp
  have state : ((s.drop ends).profile n).state = (s.profile n).state := by rw [State.profile_drop]
  have named : ((s.live.filter ends).any fun r => decide (r.profile = n)) =
      s.live.any fun r => decide (r.profile = n) && ends r := by
    rw [List.any_filter]
    congr
    funext r
    exact Bool.and_comm _ _
  rw [State.retireEnds, none, state, named, State.retireCompletes, Bool.and_comm (decide _) (List.any _ _)]

theorem State.profile_terminate {s : State} (counts : s.CountsMatch) (reason : Reason) (ends : Request → Bool)
    (n : Fin 32) : (s.terminate reason ends).profile n = s.profileAfter ends n := by
  rw [State.terminate_profile, State.retireEnds_drop counts]
  have refs := State.refCount_drop counts ends n
  rw [State.profile_drop] at refs ⊢
  simp only [State.profileAfter, ← refs]
  split <;> rfl

theorem State.retiredNotices_drop {s : State} (counts : s.CountsMatch) (ends : Request → Bool) (q : Port) :
    (s.drop ends).retiredNotices (s.live.filter ends) q = s.retireNotices q ends := by
  unfold State.retiredNotices State.retireNotices
  refine congrArg (fun f => List.filterMap f _) (funext fun n => ?_)
  rw [State.retireEnds_drop counts, State.profile_drop]

/-- The notices of the end of some live requests (R30). -/
theorem State.terminationNotices_eq {s : State} (counts : s.CountsMatch) (room : s.RoomLaw) (reason : Reason)
    (ends : Request → Bool) (q : Port) : s.terminationNotices reason ends q =
      (if reason.posts then (s.port q).endNotices reason ends else []) ++ s.retireNotices q ends := by
  have ended : (s.live.filter ends).filterMap (·.endNotice reason q) = (s.port q).endNotices reason ends := by
    have others : ∀ l : List Request, (∀ r ∈ l, r.source ≠ .port q) → (l.filter ends).filterMap (·.endNotice reason q) = [] :=
      fun l apart => List.filterMap_eq_nil_iff.2 fun r mem => if_neg (apart r (List.mem_of_mem_filter mem))
    have own : ((s.port q).queue.filter ends).filterMap (·.endNotice reason q) = (s.port q).endNotices reason ends :=
      List.filterMap_congr fun r mem => if_pos (room.requests q r (List.mem_of_mem_filter mem)).1
    have elsewhere : ∀ p, p ≠ q → ((s.port p).queue.filter ends).filterMap (·.endNotice reason q) = [] := fun p other =>
      others _ fun r mem from' => other (by
        rw [(room.requests p r mem).1] at from'
        cases from'
        rfl)
    have monitor := others s.monitor.queue fun r mem => by
      rw [room.entries r mem]
      nofun
    have parts : s.live = (s.port .a).queue ++ (s.port .b).queue ++ (s.port .c).queue ++ s.monitor.queue := rfl
    rw [parts]
    simp only [List.filter_append, List.filterMap_append, monitor, List.append_nil]
    cases q
    · rw [elsewhere .b nofun, elsewhere .c nofun, own, List.append_nil, List.append_nil]
    · rw [elsewhere .a nofun, elsewhere .c nofun, own, List.append_nil, List.nil_append]
    · rw [elsewhere .a nofun, elsewhere .b nofun, own]
      rfl
  rw [State.terminationNotices, ended, State.retiredNotices_drop counts]

/-- An output after the end of some live requests and the demand handed over (R46). -/
theorem State.output_handOver_ended {s w : State} {ends : Request → Bool} (live : w.live = s.live.filter (!ends ·))
    (need : ∀ r ∈ s.live, ends r = false → (w.profile r.profile).need = (s.profile r.profile).need)
    (down : w.isDown = s.isDown) {o : OutputId} (output : w.output o = s.output o) (f : OutputState → OutputState) :
    (w.handOverDemand f).output o = s.outputAfter ends f o := by
  have needs : w.requestsNeed o = s.live.any fun r => !ends r && (s.profile r.profile).need.get o := by
    rw [State.requestsNeed, live, List.any_filter, Bool.eq_iff_iff, List.any_eq_true, List.any_eq_true]
    refine exists_congr fun r => and_congr_right fun mem => ?_
    cases stays : ends r with
    | true => simp
    | false => rw [need r mem stays]
  rw [State.output_handOverDemand, OutputState.judgedFrom_eq, needs, down, output]
  rfl

end Sys2Proof.Machine
end

section
/-! SUPPORT. The outcome of the events that end live requests, in the words of the statements: CANCEL (R42, R43). -/

namespace Sys2Proof.Machine

/-! ## What the laws give -/

namespace State.Lawful

variable {s : State} (h : s.Lawful)
include h

theorem room : s.RoomLaw := s.ringsHoldRoom_iff.1 h.rings

theorem creditLaw : s.CreditLaw := s.creditLaw_iff.1 h.credits

theorem counts : s.CountsMatch := h.references.1

theorem flight : s.FlightLawful :=
  ⟨h.oneInFlight, h.monitorQueue, fun q r mem => (h.room.requests q r mem).1, congrArg Profile.autoRecal h.profiles.2⟩

theorem capacity (q : Port) : (s.port q).notices.length ≤ 8 := (h.notices q).1

end State.Lawful

/-- A posting that the interface's work follows stands. -/
theorem State.Posts.sameCore {s t u : State} {q : Port} {new : List Notice} (posts : s.Posts t q new) (same : t.SameCore u) :
    s.Posts u q new := by
  have notices : (u.port q).notices = (t.port q).notices := same.read (·.notices) (fun _ _ _ => rfl) q
  have lost : (u.port q).lost = (t.port q).lost := same.read (·.lost) (fun _ _ _ => rfl) q
  rw [State.Posts, notices, lost]
  exact posts

/-! ## An event that ends live requests -/

/-- What every event that ends the live requests selected by `ends` leaves of queues, rings, the engine's state, the
converter and the outputs. -/
structure State.EndsWith (s t : State) (ends : Request → Bool) (after : OutputId → OutputState) : Prop where
  entries : ∀ q, (t.port q).entries = (s.port q).entries.filter (!ends ·)
  ring : ∀ q, (t.port q).ring = (s.port q).ring
  waiting : (t.monitor.queue.map fun r => { r with state := .queued }) =
    (s.monitor.queue.filter (!ends ·)).map fun r => { r with state := .queued }
  state : t.engine.state = if s.flightEnds ends = true ∧ s.engine.state = .halting then .down else s.engine.state
  halt : s.flightEnds ends = true → s.engine.state = .halting → s.HaltEnds t
  stands : s.flightEnds ends = false → s.engine.inFlight ≠ none ∨ s.engine.state ≠ .running → s.ConverterStands t
  output : ∀ o, t.output o =
    if s.flightEnds ends = true ∧ s.engine.state = .halting then (after o).inDown else after o

theorem PortState.filter_entries {ends : Request → Bool} (unmarked : ∀ r : Request, ends { r with state := .queued } = ends r)
    (queue : List Request) : ((queue.filter (!ends ·)).map fun r => { r with state := .queued }) =
      (queue.map fun r => { r with state := .queued }).filter (!ends ·) := by
  rw [List.filter_map]
  simp only [Function.comp_def, unmarked]

section

variable {s w c t : State} {ends : Request → Bool}

/-- A halt that an abandonment ends. -/
theorem State.ends_halt (work : s.WorkEnds w ends) :
    (s.flightEnds ends && decide (w.engine.state = .halting)) = true ↔
      s.flightEnds ends = true ∧ s.engine.state = .halting := by
  rw [Bool.and_eq_true, decide_eq_true_eq, work.state]

theorem State.endsWith_of_settles {after : OutputId → OutputState} (work : s.WorkEnds w ends)
    (settles : w.Settles c (s.flightEnds ends)) (same : c.SameCore t)
    (ring : ∀ q, (w.port q).ring = (s.port q).ring) (credit : ∀ q, (w.port q).credit = (s.port q).credit)
    (outputs : ∀ o, w.output o = after o) (unmarked : ∀ r : Request, ends { r with state := .queued } = ends r) :
    s.EndsWith t ends after where
  entries q := by
    have standing : (t.port q).entries = (c.port q).entries := same.read PortState.entries (fun _ _ _ => rfl) q
    rw [standing, settles.frees.entries, PortState.entries, work.queue, PortState.filter_entries unmarked, PortState.entries]
  ring q := by
    have standing : (t.port q).ring = (c.port q).ring := same.read PortState.ring (fun _ _ _ => rfl) q
    rw [standing, settles.frees.ports.ring, ring]
  waiting := by rw [same.monitor, settles.frees.waiting, work.monitor]
  state := by
    rw [same.engine, settles.frees.state, work.state]
    simp only [Bool.and_eq_true, decide_eq_true_eq]
  halt abandons halting := by
    have ended := State.haltEnds_enterDown (work.free abandons) work.arbiter credit
    rw [← settles.halts abandons (work.state.trans halting)] at ended
    obtain ⟨engine, timer, arbiter, credits⟩ := ended
    refine ⟨by rw [same.engine, engine], by rw [same.monitor, timer], by rw [same.arbiter, arbiter], fun q => ?_⟩
    exact (same.read (·.credit) (fun _ _ _ => rfl) q).trans (credits q)
  stands none busy := by
    have engine : w.engine = s.engine := by rw [work.engine, none]; rfl
    have stays := settles.stands none (by rw [engine]; exact busy)
    refine ⟨by rw [same.engine, stays, engine], by rw [same.arbiter, stays, work.arbiter], fun q => ?_⟩
    rw [← credit, ← stays]
    exact same.read (·.credit) (fun _ _ _ => rfl) q
  output o := by
    have standing : t.output o = c.output o := same.output o
    rw [standing, settles.frees.output, outputs]
    simp only [State.ends_halt work]

/-- The notices of such an event. -/
theorem State.posts_of_settles {q : Port} {x : List Notice} (work : s.WorkEnds w ends)
    (settles : w.Settles c (s.flightEnds ends)) (same : c.SameCore t) (capacity : (s.port q).notices.length ≤ 8)
    (posts : s.Posts w q x) :
    s.Posts t q (x ++ downNotice (s.flightEnds ends && decide (s.engine.state = .halting))) := by
  have room : (w.port q).notices.length ≤ 8 := by
    rw [posts.1, List.length_take]
    omega
  have last := (settles.frees.ports.posts room).sameCore same
  rw [work.state] at last
  exact posts.trans capacity last

end

/-! ## A freed converter -/

/-- A request is in flight in RUNNING and HALTING alone (R68). -/
theorem State.converting_of_flight {s : State} (filter : s.FilterSettled) {r : Request} (flies : s.flight = some r) :
    s.engine.state = .running ∨ s.engine.state = .halting := by
  have busy : ¬ (s.engine.state = .down ∨ s.engine.state = .starting) := fun idle => by
    rw [State.flight_free (filter.2.2 idle)] at flies
    cases flies
  cases state : s.engine.state <;> simp [state] at busy ⊢

/-- Nothing settled and nothing held. -/
def Engine.Fresh (e : Engine) : Prop := e.progress = 0 ∧ e.marks = [] ∧ e.held = .none

theorem Engine.fresh_begin {e : Engine} (fresh : e.progress = 0 ∧ e.marks = []) (kind : Kind) (profile : Profile) :
    (e.begin kind profile).Fresh := by
  by_cases same : e.loaded = some (firstSetup kind profile)
  · rw [Engine.begin_loaded same]
    exact ⟨fresh.1, fresh.2, rfl⟩
  · rw [Engine.begin_other same]
    exact ⟨rfl, rfl, rfl⟩

theorem State.fresh_grant {s : State} (fresh : s.engine.Fresh) (f : Flight) : (s.grant f).engine.Fresh := by
  cases flies : (s.modEngine fun e => { e with inFlight := some f }).flight with
  | none =>
    rw [s.grant_none f flies]
    exact fresh
  | some r =>
    rw [s.grant_engine f r flies]
    exact Engine.fresh_begin (e := { s.engine with inFlight := some f }) ⟨fresh.1, fresh.2.1⟩ _ _

/-- A grant point of a freshly freed converter leaves nothing settled and nothing held (R54, R77). -/
theorem State.fresh_grantPoint {s : State} (fresh : s.engine.Fresh) (boundary : Bool) : (s.grantPoint boundary).engine.Fresh := by
  have refilled : s.refill.engine.Fresh := by
    rw [s.refill_rest.1]
    exact fresh
  rcases s.grantPoint_cases boundary with ⟨r, -, e⟩ | ⟨-, ⟨-, e⟩ | ⟨-, ⟨p, -, e⟩ | ⟨-, ⟨p, -, e⟩ | ⟨-, e⟩⟩⟩⟩ <;> rw [e]
  · exact State.fresh_grant fresh _
  · exact ⟨rfl, rfl, fresh.2.2⟩
  · exact State.fresh_grant (s := s.refill.modArbiter _) refilled _
  · exact State.fresh_grant (s := s.refill.modArbiter _) refilled _
  · exact ⟨rfl, rfl, refilled.2.2⟩

theorem State.fresh_of_settles {s w c : State} {ends : Request → Bool} (filter : s.FilterSettled) (work : s.WorkEnds w ends)
    (settles : w.Settles c (s.flightEnds ends)) (abandons : s.flightEnds ends = true) : c.engine.Fresh := by
  have engine : w.engine = s.engine.noFlight.settleBreak := by
    rw [work.engine, abandons]
    rfl
  obtain ⟨r, flies, -⟩ := (Option.any_eq_true _ _).1 abandons
  obtain running | halting := State.converting_of_flight filter flies
  · rw [settles.grants abandons (work.state.trans running)]
    exact State.fresh_grantPoint (by rw [engine]; exact ⟨rfl, rfl, rfl⟩) false
  · rw [settles.halts abandons (work.state.trans halting), State.enterDown_of_free (work.free abandons)]
    exact ⟨rfl, rfl, rfl⟩

/-! ## CANCEL (R42, R43) -/

theorem Request.isTagged_eq (p : Port) (tag : Byte) :
    Request.isTagged p tag = fun x => decide (x.source = .port p ∧ x.tag = some tag) := by
  funext x
  rw [Bool.decide_and]
  rfl

section

variable {s : State} {p : Port} {tag : Byte} {r : Request}

/-- A port's tags are its own: the request with the tag is the only one that ends (R34). -/
theorem State.tagged_unique (slots : s.SlotsLawful) (mem : r ∈ (s.port p).queue) (tagged : r.tag = some tag) {x : Request}
    (other : x ∈ (s.port p).queue) (same : x.tag = some tag) : x = r :=
  List.inj_on_of_nodup_map (slots.1 p).2.2.2.2.2 other mem (same.trans tagged.symm)

theorem PortState.tagged_eq_some (slots : s.SlotsLawful) (mem : r ∈ (s.port p).queue) (tagged : r.tag = some tag) :
    (s.port p).tagged tag = some r := by
  cases found : (s.port p).tagged tag with
  | none => exact absurd (decide_eq_true tagged) (List.find?_eq_none.1 found r mem)
  | some x =>
    have same := State.tagged_unique slots mem tagged (List.mem_of_find?_eq_some found)
      (of_decide_eq_true (List.find?_some (p := fun x : Request => decide (x.tag = some tag)) found))
    rw [same]

/-- The cancelled request is in flight where the converter works on it (R43). -/
theorem State.flightEnds_isTagged (flight : s.FlightLawful) (slots : s.SlotsLawful) (mem : r ∈ (s.port p).queue)
    (tagged : r.tag = some tag) : s.flightEnds (Request.isTagged p tag) = decide (r.state = .inFlight) := by
  have source := flight.source p r mem
  rw [Bool.eq_iff_iff, State.flightEnds, Option.any_eq_true, decide_eq_true_eq]
  constructor
  · rintro ⟨x, flies, ends⟩
    rw [Request.isTagged_eq, decide_eq_true_eq] at ends
    obtain ⟨q, rest, inFlight, queue, source'⟩ | ⟨-, -, source', -⟩ := flight.flight_source flies
    · rw [ends.1] at source'
      cases source'
      have here : x ∈ (s.port p).queue := by rw [queue]; exact List.mem_cons_self
      rw [← State.tagged_unique slots mem tagged here ends.2]
      exact flight.state_of_flight flies
    · rw [ends.1] at source'
      cases source'
  · intro state
    refine ⟨r, flight.flight_of_state (State.mem_live.2 (.inl ⟨p, mem⟩)) state, ?_⟩
    rw [Request.isTagged_eq, decide_eq_true_eq]
    exact ⟨source, tagged⟩

/-- A cancel frees one slot, of its own port (R31, R43). -/
theorem State.used_cancelEnded (flight : s.FlightLawful) (slots : s.SlotsLawful) (mem : r ∈ (s.port p).queue)
    (tagged : r.tag = some tag) (q : Port) :
    ((s.cancelEnded p tag).port q).used = (s.port q).used - if q = p then 1 else 0 := by
  have used : ((s.cancelEnded p tag).port q).used = (s.port q).used - (s.port q).queue.countP (Request.isTagged p tag) :=
    (congrArg PortState.used (State.port_refreshDemand _ q)).trans (s.terminate_used _ _ q)
  rw [used]
  congr 1
  split
  next own =>
    subst own
    have tags : (s.port q).queue.countP (Request.isTagged q tag) = ((s.port q).queue.map (·.tag)).count (some tag) := by
      rw [List.count_eq_countP, List.countP_map]
      refine List.countP_congr fun x there => ?_
      rw [Request.isTagged_eq, decide_eq_true_eq]
      simp [flight.source q x there]
    rw [tags]
    exact List.count_eq_one_of_mem (slots.1 q).2.2.2.2.2 (List.mem_map.2 ⟨r, mem, tagged⟩)
  next other =>
    refine List.countP_eq_zero.2 fun x there ends => other ?_
    rw [Request.isTagged_eq, decide_eq_true_eq, flight.source q x there] at ends
    exact Source.port.inj ends.1

theorem cancel_unknownTag (unknown : ∀ x ∈ (s.port p).queue, x.tag ≠ some tag) : cancel p tag s = .refuse s .unknownTag := by
  have absent : (s.port p).tagged tag = none := List.find?_eq_none.2 (by simpa using unknown)
  simp [cancel, absent]

theorem cancel_tagged (slots : s.SlotsLawful) (mem : r ∈ (s.port p).queue) (tagged : r.tag = some tag) :
    cancel p tag s = .accept (s.cancel p tag) [tag, if decide (r.state = .inFlight) then 0x01#8 else 0x00#8] := by
  simp only [cancel, PortState.tagged_eq_some slots mem tagged]
  rfl

end

end Sys2Proof.Machine
end

section
/-! PROOF. The obligation about CANCEL (chapter 2). -/

namespace Sys2Proof.Proofs
open Sys2Proof Sys2Proof.Machine

/-- Settles O28: the cancelled request is the only one that ends, and what its end leaves is read off clause by clause. -/
theorem cancelEndsTheTaggedRequest : Obligations.CancelEndsTheTaggedRequest := by
  unfold Obligations.CancelEndsTheTaggedRequest
  intro s p tag awaits
  refine ⟨fun unknown => ?_, fun r mem tagged lawful => ?_⟩
  · refine exec_refuses (i := .cancel p tag) rfl nofun awaits (.inl rfl) (cancel_unknownTag ?_)
    rw [s.port_closedAt_self]
    exact unknown
  have flies : s.flightEnds (Request.isTagged p tag) = decide (r.state = .inFlight) :=
    State.flightEnds_isTagged lawful.flight lawful.slots mem tagged
  have work : s.WorkEnds (s.cancelEnded p tag) (Request.isTagged p tag) :=
    (State.workEnds_terminate lawful.flight lawful.room _ _).then_handOverDemand id
  have settles : (s.cancelEnded p tag).Settles (s.cancel p tag) (s.flightEnds (Request.isTagged p tag)) :=
    State.settles_afterTerminations work.free
  have same := (s.cancel p tag).sameCore_answered p .ok 0x21#8 [tag, if decide (r.state = .inFlight) then 0x01#8 else 0x00#8]
  have posts : ∀ q, s.Posts (s.cancelEnded p tag) q (s.retireNotices q (Request.isTagged p tag)) := fun q => by
    have terminated := (s.portsWork_cancelEnded p tag).posts (lawful.capacity q)
    rw [State.terminationNotices_eq lawful.counts lawful.room] at terminated
    exact terminated
  have credit : ∀ q, ((s.cancelEnded p tag).port q).credit = (s.port q).credit := fun q => by
    rw [State.cancelEnded, State.port_refreshDemand, s.terminate_credit]
  have profile : ∀ n, (s.cancelEnded p tag).profile n = s.profileAfter (Request.isTagged p tag) n := fun n => by
    rw [State.cancelEnded, State.profile_refreshDemand, State.profile_terminate lawful.counts]
  have outcome := State.endsWith_of_settles (after := s.outputAfter (Request.isTagged p tag) id) work settles same
    (s.portsWork_cancelEnded p tag).ring credit
    (fun o => State.output_handOver_ended (State.live_filter _ (s.terminate_queue _ _) (by rw [s.terminate_monitor]))
      (fun r _ _ => ((s.quiet_terminate _ _).1.profiles r.profile).need)
      (by rw [State.isDown, State.isDown, s.terminate_engine]; split <;> rfl)
      (by rw [State.output, State.output, s.terminate_outputs]) id) fun _ => rfl
  have notices := fun q => State.posts_of_settles work settles same (lawful.capacity q) (posts q)
  have run : exec (.cancel p tag) s = .next ((s.cancel p tag).answered p .ok 0x21#8
      [tag, if decide (r.state = .inFlight) then 0x01#8 else 0x00#8]) := by
    refine exec_accepts (i := .cancel p tag) (code := .cancel) rfl nofun awaits (.inl rfl) ?_
    rw [← s.cancel_closedAt]
    refine cancel_tagged (lawful.slots.sameCore (s.sameCore_closedAt p)) ?_ tagged
    rw [(s.sameCore_closedAt p).queue]
    exact mem
  have used := fun q => ((same.read (·.used) (fun _ _ _ => rfl) q).trans (settles.frees.used q)).trans
    (State.used_cancelEnded lawful.flight lawful.slots mem tagged q)
  rw [flies] at notices
  rw [Request.isTagged_eq] at flies work outcome
  simp only [Request.isTagged_eq] at notices
  refine ⟨_, run, ?_, outcome.entries p, ?_, fun q other => ⟨?_, ?_⟩, fun abandons running => ?_, ?_, fun n => ?_,
    outcome.ring, notices, fun abandons => ?_, fun abandons => outcome.halt (flies.trans abandons),
    fun queued => outcome.stands (flies.trans queued), fun o => ?_⟩
  · exact ((s.cancel p tag).answered_interfaces p p _ _ _).1.trans (if_pos rfl)
  · exact (used p).trans (by rw [if_pos rfl])
  · refine (outcome.entries q).trans (List.filter_eq_self.2 fun x there => ?_)
    obtain ⟨y, mem, rfl⟩ := List.mem_map.1 there
    rw [Bool.not_eq_true', decide_eq_false_iff_not]
    rintro ⟨source, -⟩
    exact other (Source.port.inj ((lawful.flight.source q y mem).symm.trans source))
  · exact (used q).trans (by rw [if_neg other]; rfl)
  · refine ⟨s.cancelEnded p tag, work.abandonsAt lawful.flight (flies.trans abandons) credit, ?_⟩
    rw [settles.grants (by rw [Request.isTagged_eq]; exact flies.trans abandons) (work.state.trans running), abandons]
    rfl
  · refine outcome.waiting.trans (congrArg _ (List.filter_eq_self.2 fun x there => ?_))
    rw [Bool.not_eq_true', decide_eq_false_iff_not, lawful.room.entries x there]
    nofun
  · exact (same.profile n).trans ((settles.frees.profile n).trans (by
      rw [← Request.isTagged_eq]
      exact profile n))
  · have state := outcome.state
    rw [flies.trans abandons] at state
    obtain ⟨progress, marks, held⟩ := State.fresh_of_settles lawful.filter work
      (by rw [Request.isTagged_eq] at settles; exact settles) (flies.trans abandons)
    exact ⟨progress, marks, held, by simpa only [true_and] using state⟩
  · have output := outcome.output o
    rw [flies] at output
    exact output

end Sys2Proof.Proofs
end

section
/-! SUPPORT. A forced release (R19, R20): the profile erased, then the end of every live request that names it. -/

namespace Sys2Proof.Machine

/-- A request that stays live is one that did not end. -/
theorem State.EndsWith.live {s t : State} {ends : Request → Bool} {after : OutputId → OutputState} (h : s.EndsWith t ends after)
    (unmarked : ∀ r : Request, ends { r with state := .queued } = ends r) {r : Request} (mem : r ∈ t.live) :
    ∃ x ∈ s.live, ends x = false ∧ x.profile = r.profile := by
  obtain ⟨q, mem⟩ | mem := State.mem_live.1 mem
  · have entry : { r with state := .queued } ∈ (s.port q).entries.filter (!ends ·) := h.entries q ▸ List.mem_map.2 ⟨r, mem, rfl⟩
    obtain ⟨entry, stays⟩ := List.mem_filter.1 entry
    obtain ⟨x, mem, same⟩ := List.mem_map.1 entry
    refine ⟨x, State.mem_live.2 (.inl ⟨q, mem⟩), ?_, (congrArg Request.profile same :)⟩
    rw [← unmarked, same]
    simpa using stays
  · have entry : { r with state := .queued } ∈ (s.monitor.queue.filter (!ends ·)).map fun r => { r with state := .queued } :=
      h.waiting ▸ List.mem_map.2 ⟨r, mem, rfl⟩
    obtain ⟨x, mem, same⟩ := List.mem_map.1 entry
    obtain ⟨mem, stays⟩ := List.mem_filter.1 mem
    exact ⟨x, State.mem_live.2 (.inr mem), by simpa using stays, (congrArg Request.profile same :)⟩

theorem State.WorkEnds.isDown {s w : State} {ends : Request → Bool} (h : s.WorkEnds w ends) : w.isDown = s.isDown := by
  rw [State.isDown, State.isDown, h.state]

theorem State.port_disown (s : State) (owner : Option Source) (q : Port) :
    (s.disown owner).port q = { s.port q with owned := ((s.disown owner).port q).owned } := by
  unfold State.disown
  split
  next p =>
    rw [State.port_modPort]
    split
    next same => rw [same]
    next => rfl
  next => rfl

section

variable {s : State} {n : Fin 32}

theorem State.profile_erase_self : (s.erase n).profile n = { Profile.default with refCount := (s.profile n).refCount } :=
  State.profile_modProfile_self ..

theorem State.profile_erase_other {m : Fin 32} (other : m ≠ n) : (s.erase n).profile m = s.profile m :=
  State.profile_modProfile_other _ other _

theorem State.CountsMatch.erase (counts : s.CountsMatch) (n : Fin 32) : (s.erase n).CountsMatch := fun m => by
  by_cases same : m = n
  · rw [same, State.profile_erase_self]
    exact counts n
  · rw [State.profile_erase_other same]
    exact counts m

/-- The end of the requests of an erased profile completes no retire: that profile is FREE (R9). -/
theorem State.retireCompletes_erase (m : Fin 32) : (s.erase n).retireCompletes (Request.names n) m = false ∧
    (m ≠ n → s.retireCompletes (Request.names n) m = false) := by
  have apart : m ≠ n → ∀ l : List Request, (l.any fun r => decide (r.profile = m) && Request.names n r) = false :=
    fun other l => List.any_eq_false.2 fun r _ both => by
      obtain ⟨named, ends⟩ := Bool.and_eq_true_iff.1 both
      exact other ((of_decide_eq_true named).symm.trans (of_decide_eq_true ends))
  refine ⟨?_, fun other => ?_⟩
  · by_cases same : m = n
    · rw [State.retireCompletes, same, State.profile_erase_self]
      rfl
    · rw [State.retireCompletes, apart same, Bool.and_false, Bool.false_and]
  · rw [State.retireCompletes, apart other, Bool.and_false, Bool.false_and]

theorem State.retireNotices_erase (q : Port) : (s.erase n).retireNotices q (Request.names n) = [] :=
  List.filterMap_eq_nil_iff.2 fun m _ => if_neg (by rw [(State.retireCompletes_erase m).1]; simp)

/-- The profiles after the end of the requests of an erased one. -/
theorem State.profileAfter_erase (m : Fin 32) : (s.erase n).profileAfter (Request.names n) m =
    if m = n then .default else s.profileAfter (Request.names n) m := by
  rw [State.profileAfter, (State.retireCompletes_erase m).1]
  by_cases same : m = n
  · have none : ((s.erase n).live.countP fun r => decide (r.profile = n) && !Request.names n r) = 0 :=
      List.countP_eq_zero.2 fun r _ => by simp [Request.names]
    rw [same, State.profile_erase_self, none, if_pos rfl]
    rfl
  · rw [State.profile_erase_other same, State.profileAfter, (State.retireCompletes_erase m).2 same, if_neg same]
    rfl

/-- The profile erased, its requests ended and its owner's count lowered (R19, R21). -/
def State.forceOrphaned (s : State) (n : Fin 32) : State :=
  ((s.erase n).terminate .revoked (Request.names n)).disown (s.profile n).owner

/-- What follows is PROFILE_REVOKED to the previous owner (R20), and then the demand. -/
def State.forceRevoked (s : State) (n : Fin 32) : State :=
  (s.forceOrphaned n).postOwner (s.profile n).owner (.profileRevoked n)

theorem State.forceEnded_eq : s.forceEnded n = (s.forceRevoked n).refreshDemand := rfl

theorem State.noticesOnly_forceRevoked : (s.forceOrphaned n).NoticesOnly (s.forceRevoked n) := State.noticesOnly_postOwner ..

/-- The owned count apart, an orphaned profile's ports are those after the end of the requests. -/
theorem State.port_forceOrphaned (q : Port) : (s.forceOrphaned n).port q =
    { ((s.erase n).terminate .revoked (Request.names n)).port q with owned := ((s.forceOrphaned n).port q).owned } :=
  State.port_disown ..

theorem State.forceOrphaned_rest : (s.forceOrphaned n).profiles = ((s.erase n).terminate .revoked (Request.names n)).profiles ∧
    (s.forceOrphaned n).outputs = s.outputs ∧
    (s.forceOrphaned n).arbiter = ((s.erase n).terminate .revoked (Request.names n)).arbiter := by
  have outputs := (s.erase n).terminate_outputs .revoked (Request.names n)
  unfold State.forceOrphaned State.disown
  split <;> exact ⟨rfl, outputs, rfl⟩

theorem State.profile_forceEnded (counts : s.CountsMatch) (m : Fin 32) : (s.forceEnded n).profile m =
    if m = n then .default else s.profileAfter (Request.names n) m := by
  have orphaned : (s.forceOrphaned n).profile m = ((s.erase n).terminate .revoked (Request.names n)).profile m := by
    rw [State.profile, State.forceOrphaned_rest.1]
    rfl
  exact (State.noticesOnly_forceRevoked.profile m).trans (orphaned.trans
    ((State.profile_terminate (counts.erase n) _ _ m).trans (State.profileAfter_erase m)))

/-- The end of an erased profile's requests, in the words of the state before it was erased. -/
theorem State.WorkEnds.of_erase {w : State} (h : (s.erase n).WorkEnds w (Request.names n)) : s.WorkEnds w (Request.names n) :=
  ⟨h.queue, h.weight, h.reservations, h.monitor, h.engine, h.arbiter, fun r mem stays => by
    have contents := h.contents r mem stays
    rwa [State.profile_erase_other (of_decide_eq_false stays)] at contents⟩

theorem State.workEnds_forceRevoked (flight : s.FlightLawful) (room : s.RoomLaw) (user : n ≠ 0) :
    s.WorkEnds (s.forceRevoked n) (Request.names n) := by
  have stands : s.WorkStands (s.erase n) := .modProfile s n (.inl user)
  have ended := State.workEnds_terminate (flight.step (.stands stands)) (room.step (.stands stands)) .revoked (Request.names n)
  have port := State.port_forceOrphaned (s := s) (n := n)
  have contents : ∀ m, (((s.erase n).terminate .revoked (Request.names n)).profile m).SameContents
      ((s.forceOrphaned n).profile m) := fun m => by
    rw [State.profile, State.profile, State.forceOrphaned_rest.1]
    exact .refl _
  exact (ended.of_erase.then_same (v := s.forceOrphaned n) (fun q => by rw [port q]) (fun q => by rw [port q])
    (fun q => .inl (by rw [port q])) (State.monitor_disown _ _) (State.engine_disown _ _) State.forceOrphaned_rest.2.2 contents).then_notices
    State.noticesOnly_forceRevoked

theorem State.workEnds_forceEnded (flight : s.FlightLawful) (room : s.RoomLaw) (user : n ≠ 0) :
    s.WorkEnds (s.forceEnded n) (Request.names n) := (State.workEnds_forceRevoked flight room user).then_handOverDemand id

/-- A forced release changes no ring and no credit before it frees the converter. -/
theorem State.port_forceEnded (q : Port) :
    ((s.forceEnded n).port q).ring = (s.port q).ring ∧ ((s.forceEnded n).port q).credit = (s.port q).credit := by
  have port : (s.forceEnded n).port q = (s.forceRevoked n).port q := rfl
  rw [port, State.noticesOnly_forceRevoked.ports q, State.port_forceOrphaned]
  exact ⟨((s.erase n).portsWork_terminate .revoked (Request.names n)).ring q, (s.erase n).terminate_credit _ _ q⟩

theorem State.output_forceEnded (flight : s.FlightLawful) (room : s.RoomLaw) (user : n ≠ 0) (o : OutputId) :
    (s.forceEnded n).output o = s.outputAfter (Request.names n) id o := by
  have work := State.workEnds_forceRevoked flight room user
  refine State.output_handOver_ended work.live (fun r mem stays => (work.contents r mem stays).2.2) work.isDown ?_ id
  rw [State.output, State.noticesOnly_forceRevoked.rest]
  exact congrArg (PerOutput.get · o) State.forceOrphaned_rest.2.1

/-- The notices of a forced release before it frees the converter (R20, R30). -/
theorem State.posts_forceEnded (counts : s.CountsMatch) (room : s.RoomLaw) (user : n ≠ 0) {q : Port}
    (capacity : (s.port q).notices.length ≤ 8) : s.Posts (s.forceEnded n) q ((s.port q).endNotices .revoked (Request.names n) ++
      ownerNotice (s.profile n).owner (.profileRevoked n) q) := by
  have stands : s.WorkStands (s.erase n) := .modProfile s n (.inl user)
  have ended := ((s.erase n).portsWork_terminate .revoked (Request.names n)).posts capacity
  rw [State.terminationNotices_eq (counts.erase n) (room.step (.stands stands)), State.retireNotices_erase,
    List.append_nil] at ended
  have orphaned : s.Posts (s.forceOrphaned n) q ((s.port q).endNotices .revoked (Request.names n)) := by
    rw [State.Posts, State.port_forceOrphaned]
    exact ended
  have short : ((s.forceOrphaned n).port q).notices.length ≤ 8 := by
    rw [orphaned.1, List.length_take]
    omega
  exact orphaned.trans capacity (((State.portsWork_postOwner _ _ _).trans_quiet (State.portsWork_refreshDemand _)).posts short)

theorem State.portRequests_closedAt (p : Port) : (s.closedAt p).portRequests n = s.portRequests n := by
  cases p <;> rfl

theorem forceRelease_of_user (user : n ≠ 0) : forceRelease (unsigned8 n.val) s =
    if (s.profile n).state = .free then .refuse s .profileState
    else .accept (s.forceRelease n) [ownerCode (s.profile n).owner, unsigned8 (s.portRequests n)] := by
  simp only [forceRelease, userNumberOfCode_unsigned8 user]

end

end Sys2Proof.Machine
end

section
/-! PROOF. The obligation about FORCE_RELEASE (chapter 1). -/

namespace Sys2Proof.Proofs
open Sys2Proof Sys2Proof.Machine

/-- Settles O24: the profile is erased, its requests end, and what that leaves is read off clause by clause. -/
theorem forcedReleaseRevokesRequests : Obligations.ForcedReleaseRevokesRequests := by
  unfold Obligations.ForcedReleaseRevokesRequests
  intro s number awaits
  have refuses : ∀ {status}, forceRelease number (s.closedAt s.supervisor) = .refuse (s.closedAt s.supervisor) status →
      exec (.forceRelease s.supervisor number) s = .next (s.answered s.supervisor status 0x4A#8 []) :=
    exec_refuses (i := .forceRelease s.supervisor number) rfl nofun awaits (.inr rfl)
  refine ⟨fun above => refuses ?_, fun n user code => ?_⟩
  · simp only [forceRelease, (userNumberOfCode_eq_none_iff _).2 above]
  subst code
  have checks := forceRelease_of_user (s := s.closedAt s.supervisor) user
  rw [State.profile_closedAt, State.portRequests_closedAt, State.forceRelease_closedAt] at checks
  refine ⟨fun free => refuses (checks.trans (if_pos free)), fun taken lawful => ?_⟩
  have run : exec (.forceRelease s.supervisor (unsigned8 n.val)) s = .next ((s.forceRelease n).answered s.supervisor .ok 0x4A#8
      [ownerCode (s.profile n).owner, unsigned8 (s.portRequests n)]) :=
    exec_accepts (i := .forceRelease s.supervisor _) (code := .forceRelease) rfl nofun awaits (.inr rfl)
      (checks.trans (if_neg taken))
  have work := State.workEnds_forceEnded lawful.flight lawful.room user
  have settles : (s.forceEnded n).Settles (s.forceRelease n) (s.flightEnds (Request.names n)) :=
    State.settles_afterTerminations work.free
  have same := (s.forceRelease n).sameCore_answered s.supervisor .ok 0x4A#8
    [ownerCode (s.profile n).owner, unsigned8 (s.portRequests n)]
  have outcome := State.endsWith_of_settles (after := s.outputAfter (Request.names n) id) work settles same
    (fun q => (State.port_forceEnded q).1) (fun q => (State.port_forceEnded q).2)
    (State.output_forceEnded lawful.flight lawful.room user) fun _ => rfl
  have notices := fun q => State.posts_of_settles work settles same (lawful.capacity q)
    (State.posts_forceEnded lawful.counts lawful.room user (lawful.capacity q))
  have profile := fun m => (same.profile m).trans ((settles.frees.profile m).trans (State.profile_forceEnded lawful.counts m))
  have holder := ((s.forceRelease n).answered_interfaces s.supervisor s.supervisor .ok 0x4A#8
    [ownerCode (s.profile n).owner, unsigned8 (s.portRequests n)]).1.trans (if_pos rfl)
  refine ⟨_, run, (profile n).trans (if_pos rfl), fun m other => (profile m).trans (if_neg other), fun r mem => ?_,
    fun q => ⟨outcome.entries q, outcome.ring q⟩, fun abandons running => ?_, outcome.stands, outcome.halt, outcome.output,
    holder, fun q => ?_, fun q => ?_, outcome.state⟩
  · obtain ⟨x, -, stays, named⟩ := outcome.live (fun _ => rfl) mem
    rw [← named]
    exact of_decide_eq_false stays
  · refine ⟨s.forceEnded n, work.abandonsAt lawful.flight abandons fun q => (State.port_forceEnded q).2, ?_⟩
    rw [holder, settles.grants abandons (work.state.trans running)]
    rfl
  · exact (same.read (·.owned) (fun _ _ _ => rfl) q).trans (s.owned_forceRelease n q)
  · have ends : downNotice (s.flightEnds (Request.names n) && decide (s.engine.state = .halting)) =
        if s.flightEnds (Request.names n) = true ∧ s.engine.state = .halting then [.engine .down] else [] := by
      simp only [downNotice, Bool.and_eq_true, decide_eq_true_eq]
    have posts := notices q
    rw [ends] at posts
    exact posts

end Sys2Proof.Proofs
end

section
/-! SUPPORT. A trip (R140, R141): the output tripped, then the end of every live request that needs it. -/

namespace Sys2Proof.Machine

section

variable {s : State} {o : OutputId}

/-- A trip of a switched-on output: TRIPPED with its hold-off, or LOCKED_OUT at the third (R141). -/
theorem OutputState.trip_of_sound {x : OutputState} {down : Bool} (sound : x.sound down)
    (on : x.state = .warming ∨ x.state = .ready ∨ x.state = .linger) : x.trip = { x with
      state := if x.tripCount = 2 then .lockedOut else .tripped
      tripCount := x.tripCount + 1
      warmUpTimer := .stopped, lingerTimer := .stopped, dwellTimer := .stopped
      holdOffTimer := if x.tripCount = 2 then .stopped else .running 100 } := by
  obtain ⟨-, -, holdOff, -, count, locked, -⟩ := sound
  have below : x.tripCount ≠ 3 := fun third => by
    rw [locked.1 third] at on
    simp at on
  have stopped : x.holdOffTimer = .stopped := by
    by_contra runs
    rw [holdOff.1 runs] at on
    simp at on
  rw [OutputState.trip_eq]
  by_cases second : x.tripCount = 2
  · rw [if_neg (by omega), if_neg (by omega), if_pos second, if_pos second, stopped]
  · rw [if_pos (by omega), if_pos (by omega), if_neg second, if_neg second]

/-- The end of the requests that need a tripped output, in the words of the state before the trip. -/
theorem State.workEnds_tripped (flight : s.FlightLawful) (room : s.RoomLaw) :
    s.WorkEnds ((s.modOutput o (·.trip)).terminate .excitationFault (s.needs o)) (s.needs o) := by
  have stands : s.WorkStands (s.modOutput o (·.trip)) := .modOutput s o _
  have ended := State.workEnds_terminate (flight.step (.stands stands)) (room.step (.stands stands)) .excitationFault (s.needs o)
  exact ⟨ended.queue, ended.weight, ended.reservations, ended.monitor, ended.engine, ended.arbiter, ended.contents⟩

theorem State.workEnds_tripEnded (flight : s.FlightLawful) (room : s.RoomLaw) :
    s.WorkEnds (s.tripEnded o) (s.needs o) :=
  ((State.workEnds_tripped flight room).then_handOverDemand id).then_notices (State.noticesOnly_postTrip _ o)

theorem State.profile_tripEnded (counts : s.CountsMatch) (n : Fin 32) :
    (s.tripEnded o).profile n = s.profileAfter (s.needs o) n :=
  ((State.noticesOnly_postTrip _ o).profile n).trans
    (State.profile_terminate (s := s.modOutput o (·.trip)) counts .excitationFault (s.needs o) n)

/-- A trip changes no ring and no credit before it frees the converter. -/
theorem State.port_tripEnded (q : Port) :
    ((s.tripEnded o).port q).ring = (s.port q).ring ∧ ((s.tripEnded o).port q).credit = (s.port q).credit := by
  rw [State.tripEnded, (State.noticesOnly_postTrip _ o).ports q, State.port_refreshDemand]
  exact ⟨((s.modOutput o (·.trip)).portsWork_terminate .excitationFault (s.needs o)).ring q,
    (s.modOutput o (·.trip)).terminate_credit _ _ q⟩

/-- A tripped output that no live request needs any more. -/
def OutputState.tripped (x : OutputState) : OutputState := { x.trip with requestDemand := false }

theorem OutputState.afterDemand_faulted {x : OutputState} (faulted : x.state = .tripped ∨ x.state = .lockedOut)
    (now down : Bool) : x.afterDemand now down = x := by
  unfold OutputState.afterDemand
  rcases faulted with h | h <;> rw [h]

theorem OutputState.inDown_faulted {x : OutputState} (faulted : x.state = .tripped ∨ x.state = .lockedOut) :
    x.inDown = x := by
  unfold OutputState.inDown
  rcases faulted with h | h <;> rw [h]

theorem OutputState.trip_faulted (x : OutputState) : x.trip.state = .tripped ∨ x.trip.state = .lockedOut := by
  rw [OutputState.trip_eq]
  dsimp only
  split
  · exact .inl rfl
  · exact .inr rfl

/-- A faulted output stands where no live request is left to need it. -/
theorem State.outputAfter_faulted {ends : Request → Bool}
    (nobody : (s.live.any fun r => !ends r && (s.profile r.profile).need.get o) = false)
    (faulted : (s.output o).state = .tripped ∨ (s.output o).state = .lockedOut) :
    s.outputAfter ends id o = { s.output o with requestDemand := false } := by
  rw [State.outputAfter, nobody]
  dsimp only [id]
  split
  · rfl
  · exact OutputState.afterDemand_faulted (x := { s.output o with requestDemand := false }) faulted _ _

/-- The outputs of a trip before it frees the converter: no live request needs the tripped one any more. -/
theorem State.output_tripEnded (flight : s.FlightLawful) (room : s.RoomLaw) (x : OutputId) :
    (s.tripEnded o).output x = if x = o then (s.output o).tripped else s.outputAfter (s.needs o) id x := by
  have work := State.workEnds_tripped (o := o) flight room
  have posted : (s.tripEnded o).output x =
      (((s.modOutput o (·.trip)).terminate .excitationFault (s.needs o)).handOverDemand id).output x := by
    rw [State.output, State.output, State.tripEnded, (State.noticesOnly_postTrip _ o).rest]
    rfl
  have ended : ((s.modOutput o (·.trip)).terminate .excitationFault (s.needs o)).output x =
      (s.modOutput o (·.trip)).output x := by
    rw [State.output, State.output, (s.modOutput o (·.trip)).terminate_outputs]
  rw [posted]
  split
  next own =>
    subst own
    have tripped : (s.modOutput x (·.trip)).output x = (s.output x).trip := by
      rw [State.output_modOutput, if_pos rfl]
    refine (State.output_handOver_ended (s := s.modOutput x (·.trip)) work.live
      (fun r mem stays => (work.contents r mem stays).2.2) work.isDown ended id).trans ?_
    rw [State.outputAfter_faulted (List.any_eq_false.2 fun r _ => ?_) (tripped ▸ OutputState.trip_faulted _), tripped]
    · rfl
    · show ¬ (!(s.profile r.profile).need.get x && (s.profile r.profile).need.get x) = true
      simp
  next other =>
    refine State.output_handOver_ended work.live (fun r mem stays => (work.contents r mem stays).2.2) work.isDown
      (ended.trans ?_) id
    rw [State.output_modOutput, if_neg other]

/-- The notices of a trip before it frees the converter (R30, R141). -/
theorem State.posts_tripEnded (counts : s.CountsMatch) (room : s.RoomLaw) (flight : s.FlightLawful) {q : Port}
    (capacity : (s.port q).notices.length ≤ 8) : s.Posts (s.tripEnded o) q
      ((s.port q).endNotices .excitationFault (s.needs o) ++ s.retireNotices q (s.needs o) ++ [.excitation o .tripped] ++
        if (s.output o).trip.state = .lockedOut then [.excitation o .lockedOut] else []) := by
  have stands : s.WorkStands (s.modOutput o (·.trip)) := .modOutput s o _
  have posts := (((s.modOutput o (·.trip)).portsWork_terminate .excitationFault (s.needs o)).trans
    ((State.portsWork_refreshDemand _).quiet_trans (State.portsWork_postTrip _ o))).posts capacity
  have output := State.output_tripEnded (o := o) flight room o
  have posted : (s.tripEnded o).output o = ((s.modOutput o (·.trip)).terminate .excitationFault
      (s.needs o)).refreshDemand.output o := by
    rw [State.output, State.output, State.tripEnded, (State.noticesOnly_postTrip _ o).rest]
  rw [posted, if_pos rfl] at output
  rw [State.terminationNotices_eq (s := s.modOutput o (·.trip)) counts (room.step (.stands stands)), State.tripNotices,
    output] at posts
  rw [List.append_assoc _ [_]]
  exact posts

end

end Sys2Proof.Machine
end

section
/-! PROOF. The obligation about an overcurrent trip (chapter 7). -/

namespace Sys2Proof.Proofs
open Sys2Proof Sys2Proof.Machine

/-- Settles O48: the output trips, the requests that need it end, and what that leaves is read off clause by clause. -/
theorem tripsEndTheWorkThatNeedsTheOutput : Obligations.TripsEndTheWorkThatNeedsTheOutput := by
  unfold Obligations.TripsEndTheWorkThatNeedsTheOutput
  intro s o lawful on
  have run : exec (.overcurrentTrip o) s = .next (s.trip o) := by
    have switched : (s.output o).switchedOn = true := by
      rw [OutputState.switchedOn]
      simpa [or_assoc] using on
    show Host.Outcome.next (if (s.output o).switchedOn = true then s.trip o else s) = _
    rw [if_pos switched]
  have work := State.workEnds_tripEnded (o := o) lawful.flight lawful.room
  have settles : (s.tripEnded o).Settles (s.trip o) (s.flightEnds (s.needs o)) := State.settles_afterTerminations work.free
  have outcome := State.endsWith_of_settles
    (after := fun x => if x = o then (s.output o).tripped else s.outputAfter (s.needs o) id x) work settles (.refl _)
    (fun q => (State.port_tripEnded q).1) (fun q => (State.port_tripEnded q).2)
    (State.output_tripEnded lawful.flight lawful.room) fun _ => rfl
  have notices := fun q => State.posts_of_settles work settles (.refl _) (lawful.capacity q)
    (State.posts_tripEnded lawful.counts lawful.room lawful.flight (lawful.capacity q))
  have tripped := OutputState.trip_of_sound (lawful.excitation o) on
  have profile := fun n => (settles.frees.profile n).trans (State.profile_tripEnded lawful.counts n)
  refine ⟨_, run, ?_, fun x other => ?_, fun r mem => ?_, profile, fun q => ⟨outcome.entries q, outcome.ring q⟩,
    fun abandons running => ?_, outcome.stands, outcome.halt, outcome.state, fun q => ?_⟩
  · have output := outcome.output o
    have faulted : (s.output o).tripped.state = .tripped ∨ (s.output o).tripped.state = .lockedOut :=
      OutputState.trip_faulted _
    rw [if_pos rfl, OutputState.inDown_faulted faulted, ite_self, OutputState.tripped, tripped] at output
    simp only [decide_eq_true_eq]
    exact output
  · have output := outcome.output x
    rw [if_neg other] at output
    exact output
  · obtain ⟨x, -, stays, named⟩ := outcome.live (fun _ => rfl) mem
    rw [profile, ← named]
    exact stays
  · exact ⟨s.tripEnded o, work.abandonsAt lawful.flight abandons fun q => (State.port_tripEnded q).2,
      settles.grants abandons (work.state.trans running)⟩
  · have posts := notices q
    have locks : (s.output o).trip.state = .lockedOut ↔ (s.output o).tripCount = 2 := by
      rw [tripped]
      dsimp only
      split <;> simp [*]
    simp only [locks] at posts
    simp only [decide_eq_true_eq]
    exact posts

end Sys2Proof.Proofs
end

section
/-! SUPPORT. A port's reset (R175, R129): the end of its requests, its ring, notices, choice, offer and votes, and the ALERT
line, which the converter does not read. -/

namespace Sys2Proof.Machine

/-! ## A port through an event -/

theorem PortState.postList_rest (ps : PortState) (new : List Notice) : ps.postList new =
    { ps with
      notices := (ps.postList new).notices, lost := (ps.postList new).lost, alertLow := (ps.postList new).alertLow } := by
  induction new generalizing ps with
  | nil => rfl
  | cons n rest ih =>
    rw [PortState.postList_cons, ih, PortState.post_rest]

/-- Nothing but the work and the notices of a port moves. -/
theorem State.PortsWork.rest {s t : State} {new : Port → List Notice} (h : s.PortsWork t new) (q : Port) :
    t.port q = { s.port q with
      queue := (t.port q).queue, used := (t.port q).used, reservations := (t.port q).reservations
      credit := (t.port q).credit, notices := (t.port q).notices, lost := (t.port q).lost
      alertLow := (t.port q).alertLow } := by
  have moved : t.port q = (((s.port q).postList (new q)).withWork (t.port q)) := h q
  rw [PortState.postList_rest] at moved
  rw [moved]
  rfl

/-- A grant point changes the credits by a refill alone (R56). -/
theorem State.grantPoint_raises {s : State} (bounded : ∀ q, (s.port q).credit ≤ (s.port q).weight) (boundary : Bool) :
    ∃ k : Nat, ∀ q, ((s.grantPoint boundary).port q).credit =
      if ((s.port q).weight : Int) < (s.port q).credit + k * (s.port q).weight then ((s.port q).weight : Int)
      else (s.port q).credit + k * (s.port q).weight := by
  have granted : ∀ (w : State) f q, ((w.grant f).port q).credit = (w.port q).credit := fun w f q => by
    rw [(w.grant_rest f).2.2.2 q]
  have stays : ∃ k : Nat, ∀ q, (s.port q).credit =
      if ((s.port q).weight : Int) < (s.port q).credit + k * (s.port q).weight then ((s.port q).weight : Int)
      else (s.port q).credit + k * (s.port q).weight := ⟨0, fun q => by
    have := bounded q
    rw [if_neg (by push_cast; omega)]
    simp⟩
  have refills : ∀ w : State, (∀ q, (w.port q).credit = (s.refill.port q).credit) → ∃ k : Nat, ∀ q, (w.port q).credit =
      if ((s.port q).weight : Int) < (s.port q).credit + k * (s.port q).weight then ((s.port q).weight : Int)
      else (s.port q).credit + k * (s.port q).weight := fun w same =>
    (State.refill_raises bounded).imp fun k raised q => (same q).trans (raised q)
  rcases s.grantPoint_cases boundary with ⟨r, -, e⟩ | ⟨-, ⟨-, e⟩ | ⟨-, ⟨p, -, e⟩ | ⟨-, ⟨p, -, e⟩ | ⟨-, e⟩⟩⟩⟩ <;> rw [e]
  · exact stays.imp fun k stands q => (granted _ _ q).trans (stands q)
  · exact stays
  · exact refills _ fun q => granted (s.refill.modArbiter _) _ q
  · exact refills _ fun q => granted (s.refill.modArbiter _) _ q
  · exact refills _ fun q => rfl

/-! ## The ALERT line and the converter -/

/-- A port with its ALERT line as given. -/
def State.alertAt (s : State) (p : Port) (low : Bool) : State := s.modPort p fun ps => { ps with alertLow := low }

section

variable (s : State) (p : Port) (low : Bool)

theorem State.flight_alertAt : (s.alertAt p low).flight = s.flight := by
  have same : (s.alertAt p low).engine = s.engine := rfl
  unfold State.flight
  rw [same]
  split
  · rfl
  · rename_i q _
    cases p <;> cases q <;> rfl
  · rfl

theorem State.canGrant_alertAt : (s.alertAt p low).canGrant = s.canGrant ∧ (s.alertAt p low).headEligible = s.headEligible ∧
    (s.alertAt p low).headMatches = s.headMatches := by
  refine ⟨funext fun q => ?_, funext fun q => ?_, funext fun q => ?_⟩ <;> cases p <;> cases q <;> rfl

theorem State.refill_alertAt : (s.alertAt p low).refill = s.refill.alertAt p low := by
  obtain ⟨grants, eligible, -⟩ := s.canGrant_alertAt p low
  have needed : ∀ q, ((s.alertAt p low).port q).refillsNeeded = (s.port q).refillsNeeded := fun q => by
    cases p <;> cases q <;> rfl
  have count : (s.alertAt p low).refillCount = s.refillCount := by
    simp only [State.refillCount, State.eligiblePorts, eligible, needed]
  unfold State.refill
  rw [grants, count]
  split
  · rfl
  · cases p <;> rfl

theorem State.modPort_alertAt (q : Port) (f : PortState → PortState)
    (apart : ∀ ps, f { ps with alertLow := low } = { f ps with alertLow := low }) :
    (s.alertAt p low).modPort q f = (s.modPort q f).alertAt p low := by
  cases p <;> cases q <;> simp [State.modPort, State.alertAt, PerPort.get, PerPort.set, apart]

theorem State.modSource_alertAt (r : Request) (f : PortState → PortState)
    (apart : ∀ ps, f { ps with alertLow := low } = { f ps with alertLow := low }) :
    (s.alertAt p low).modSource r f = (s.modSource r f).alertAt p low := by
  unfold State.modSource
  cases r.source with
  | port q => exact s.modPort_alertAt p low q f apart
  | monitor => rfl

theorem State.modFlight_alertAt (f : Request → Request) : (s.alertAt p low).modFlight f = (s.modFlight f).alertAt p low := by
  have same : (s.alertAt p low).engine = s.engine := rfl
  unfold State.modFlight
  rw [same]
  split
  · rfl
  · exact s.modPort_alertAt p low _ _ fun _ => rfl
  · rfl

theorem State.grant_alertAt (f : Flight) : (s.alertAt p low).grant f = (s.grant f).alertAt p low := by
  have flies : ((s.alertAt p low).modEngine fun e => { e with inFlight := some f }) =
      (s.modEngine fun e => { e with inFlight := some f }).alertAt p low := rfl
  unfold State.grant
  dsimp only
  rw [flies, State.flight_alertAt]
  split
  · rfl
  · rw [State.modFlight_alertAt, State.modSource_alertAt _ p low _ _ fun _ => rfl]
    rfl

theorem State.choosePort_alertAt (boundary : Bool) :
    (s.alertAt p low).choosePort boundary = (s.choosePort boundary).alertAt p low := by
  obtain ⟨grants, -, head⟩ := s.canGrant_alertAt p low
  have affinity : (s.alertAt p low).affinityChoice boundary = s.affinityChoice boundary := by
    unfold State.affinityChoice
    rw [grants, head]
    rfl
  have turn : (s.alertAt p low).turnChoice = s.turnChoice := by
    unfold State.turnChoice
    rw [grants]
    rfl
  unfold State.choosePort
  rw [affinity, turn]
  split
  next q _ => exact State.grant_alertAt (s.modArbiter fun a => { a with streak := a.streak + 1 }) p low (.port q)
  · split
    next q _ => exact State.grant_alertAt (s.modArbiter fun a => { a with streak := 0, pointer := q.next }) p low (.port q)
    · rfl

theorem State.grantPoint_alertAt (boundary : Bool) :
    (s.alertAt p low).grantPoint boundary = (s.grantPoint boundary).alertAt p low := by
  have monitor : (s.alertAt p low).monitorCandidate = s.monitorCandidate := rfl
  unfold State.grantPoint
  rw [monitor, (s.canGrant_alertAt p low).2.1]
  split
  · exact s.grant_alertAt p low _
  · split
    · rw [s.refill_alertAt, State.choosePort_alertAt]
    · rfl

end

end Sys2Proof.Machine
end

section
/-! SUPPORT. The outcome of a port's reset in the words of the statements (R175, R129). -/

namespace Sys2Proof.Machine

variable {s : State} {p : Port}

/-- The port's requests ended, its ring, notices and choice cleared and its offer withdrawn (R129); the votes come next. -/
def State.resetDropped (s : State) (p : Port) : State :=
  ((s.terminate .portReset (Request.isFrom p)).modPort p (·.cleared)).withdrawFor p

theorem State.resetEnded_eq : s.resetEnded p = (s.resetDropped p).handOverDemand (·.vote p false) := rfl

/-- The ports apart from the notices of a withdrawal. -/
theorem State.port_resetDropped (q : Port) : (s.resetDropped p).port q =
    { (if q = p then ((s.terminate .portReset (Request.isFrom p)).port q).cleared
       else (s.terminate .portReset (Request.isFrom p)).port q) with
      notices := ((s.resetDropped p).port q).notices, lost := ((s.resetDropped p).port q).lost
      alertLow := ((s.resetDropped p).port q).alertLow } := by
  have withdrawn := (State.withdrawFor_rest ((s.terminate .portReset (Request.isFrom p)).modPort p (·.cleared)) p).ports q
  have port : ((s.terminate .portReset (Request.isFrom p)).modPort p (·.cleared)).port q =
      if q = p then ((s.terminate .portReset (Request.isFrom p)).port q).cleared
      else (s.terminate .portReset (Request.isFrom p)).port q := by
    rw [State.port_modPort]
    split
    next same => rw [same]
    next => rfl
  rw [← port]
  exact withdrawn

/-- The offer of a port is never to itself: a withdrawal reaches the other party (R156). -/
theorem State.port_withdrawFor_self (offer : s.OfferLawful) : (s.withdrawFor p).port p = s.port p := by
  unfold State.withdrawFor
  split
  · rfl
  next o pending =>
    split
    · rfl
    next q party =>
      have other : p ≠ q := by
        obtain ⟨offering, target⟩ := offer.1 o pending
        rintro rfl
        unfold Offer.otherParty at party
        split at party
        next own => exact target (by rw [Option.some.inj party, ← own, offering])
        next =>
          split at party
          next own => exact target (by rw [own, ← Option.some.inj party, offering])
          next => cases party
      rw [State.post, State.port_modPort, if_neg other]
      rfl

theorem State.workEnds_resetDropped (flight : s.FlightLawful) (room : s.RoomLaw) :
    s.WorkEnds (s.resetDropped p) (Request.isFrom p) := by
  have ended := State.workEnds_terminate flight room .portReset (Request.isFrom p)
  have rest := State.withdrawFor_rest ((s.terminate .portReset (Request.isFrom p)).modPort p (·.cleared)) p
  have port := State.port_resetDropped (s := s) (p := p)
  refine ended.then_same (v := s.resetDropped p) (fun q => ?_) (fun q => ?_) (fun q => ?_) (State.monitor_withdrawFor _ _)
    (State.engine_withdrawFor _ _) ?_ fun n => ?_
  · rw [port q]
    split <;> rfl
  · rw [port q]
    split <;> rfl
  · rw [port q]
    split
    · exact .inr rfl
    · exact .inl rfl
  · rw [State.resetDropped, rest.rest]
    rfl
  · have same : (s.resetDropped p).profile n = _ := rest.profile n
    rw [same]
    exact .refl _

theorem State.workEnds_resetEnded (flight : s.FlightLawful) (room : s.RoomLaw) :
    s.WorkEnds (s.resetEnded p) (Request.isFrom p) :=
  (State.workEnds_resetDropped flight room).then_handOverDemand _

theorem State.settles_resetFreed (free : s.flightEnds (Request.isFrom p) = true → (s.resetEnded p).engine.inFlight = none) :
    (s.resetEnded p).Settles (s.resetFreed p) (s.flightEnds (Request.isFrom p)) := by
  unfold State.resetFreed
  cases abandons : s.flightEnds (Request.isFrom p) with
  | false => exact ⟨.refl _, nofun, nofun, fun _ _ => rfl⟩
  | true =>
    refine ⟨.freed _ false (free abandons), fun _ running => ?_, fun _ halting => ?_, nofun⟩
    · show (s.resetEnded p).freed false = _
      rw [State.freed, running]
    · show (s.resetEnded p).freed false = _
      rw [State.freed, halting]

theorem State.profile_resetEnded (counts : s.CountsMatch) (n : Fin 32) :
    (s.resetEnded p).profile n = s.profileAfter (Request.isFrom p) n :=
  ((State.withdrawFor_rest ((s.terminate .portReset (Request.isFrom p)).modPort p (·.cleared)) p).profile n).trans
    (State.profile_terminate counts .portReset (Request.isFrom p) n)

theorem State.output_resetEnded (flight : s.FlightLawful) (room : s.RoomLaw) (o : OutputId) :
    (s.resetEnded p).output o = s.outputAfter (Request.isFrom p) (·.vote p false) o := by
  have work := State.workEnds_resetDropped (p := p) flight room
  refine State.output_handOver_ended work.live (fun r mem stays => (work.contents r mem stays).2.2) work.isDown ?_ _
  rw [State.output, State.resetDropped,
    (State.withdrawFor_rest ((s.terminate .portReset (Request.isFrom p)).modPort p (·.cleared)) p).rest]
  exact congrArg (PerOutput.get · o) (s.terminate_outputs .portReset (Request.isFrom p))

/-- What a port's reset leaves of the port itself before the converter is freed. -/
theorem State.port_resetEnded_self (slots : s.SlotsLawful) (offer : s.OfferLawful) : (s.resetEnded p).port p =
    { (s.port p).cleared with queue := [], used := 0, alertLow := ((s.resetEnded p).port p).alertLow } := by
  have own : ∀ r ∈ (s.port p).queue, Request.isFrom p r = true := fun r mem =>
    decide_eq_true ((slots.1 p).2.2.2.2.1 r mem)
  have queue : ((s.terminate .portReset (Request.isFrom p)).port p).queue = [] := by
    rw [s.terminate_queue, List.filter_eq_nil_iff]
    intro r mem
    simp [own r mem]
  have used : ((s.terminate .portReset (Request.isFrom p)).port p).used = 0 := by
    rw [s.terminate_used, List.countP_eq_length.2 own, (slots.1 p).1, Nat.sub_self]
  have terminated := (s.portsWork_terminate .portReset (Request.isFrom p)).rest p
  have withdrawn : (s.resetEnded p).port p = ((s.terminate .portReset (Request.isFrom p)).port p).cleared := by
    have lawful : ((s.terminate .portReset (Request.isFrom p)).modPort p (·.cleared)).OfferLawful := by
      have keeps := (s.quiet_terminate .portReset (Request.isFrom p)).1
      refine ⟨fun o pending => ?_, ?_⟩
      · rw [show ((s.terminate .portReset (Request.isFrom p)).modPort p (·.cleared)).supervisor = s.supervisor from
          keeps.supervisor]
        exact offer.1 o (keeps.offer.symm.trans pending)
      · show (s.terminate .portReset (Request.isFrom p)).offer = none ↔
          (s.terminate .portReset (Request.isFrom p)).offerTimer = .stopped
        rw [keeps.offer, keeps.offerTimer]
        exact offer.2
    have dropped := State.port_withdrawFor_self (p := p) lawful
    rw [State.port_modPort, if_pos rfl] at dropped
    exact dropped
  rw [withdrawn, terminated, queue, used]
  rfl

/-- A port keeps its full credit at a grant point (R56). -/
theorem State.credit_grantPoint_full {w : State} (bounded : ∀ q, (w.port q).credit ≤ (w.port q).weight) (boundary : Bool)
    (full : (w.port p).credit = (w.port p).weight) : ((w.grantPoint boundary).port p).credit = (w.port p).weight := by
  obtain ⟨k, raised⟩ := State.grantPoint_raises bounded boundary
  have gain : (0 : Int) ≤ k * (w.port p).weight := by positivity
  rw [raised p]
  split <;> omega

section

variable (lawful : s.Lawful)
include lawful

theorem State.bounded_resetEnded (q : Port) : ((s.resetEnded p).port q).credit ≤ ((s.resetEnded p).port q).weight := by
  have weight : ((s.resetEnded p).port q).weight = (s.port q).weight :=
    (State.workEnds_resetEnded lawful.flight lawful.room).weight q
  rw [weight]
  by_cases own : q = p
  · rw [own, State.port_resetEnded_self lawful.slots lawful.offer]
    exact le_refl _
  · rw [State.resetEnded_eq, State.port_handOverDemand, State.port_resetDropped, if_neg own]
    show ((s.terminate .portReset (Request.isFrom p)).port q).credit ≤ _
    rw [s.terminate_credit]
    exact (lawful.credits.1 q).2.1

theorem State.free_resetEnded (abandons : s.flightEnds (Request.isFrom p) = true) :
    (s.resetEnded p).engine.inFlight = none := (State.workEnds_resetEnded lawful.flight lawful.room).free abandons

/-- What becomes of the converter: a grant point, the end of a halt, or nothing. -/
theorem State.resetFreed_cases :
    (s.flightEnds (Request.isFrom p) = true ∧ s.engine.state = .running ∧
      s.resetFreed p = (s.resetEnded p).grantPoint false) ∨
    (s.flightEnds (Request.isFrom p) = true ∧ s.engine.state = .halting ∧ s.resetFreed p = (s.resetEnded p).enterDown) ∨
    (s.flightEnds (Request.isFrom p) = false ∧ s.resetFreed p = s.resetEnded p) := by
  have settles := State.settles_resetFreed (State.free_resetEnded (p := p) lawful)
  have state := (State.workEnds_resetEnded (p := p) lawful.flight lawful.room).state
  cases abandons : s.flightEnds (Request.isFrom p) with
  | false =>
    refine .inr (.inr ⟨rfl, ?_⟩)
    rw [State.resetFreed, if_neg (by simp [abandons])]
  | true =>
    obtain ⟨r, flies, -⟩ := (Option.any_eq_true _ _).1 abandons
    obtain running | halting := State.converting_of_flight lawful.filter flies
    · exact .inl ⟨rfl, running, settles.grants abandons (state.trans running)⟩
    · exact .inr (.inl ⟨rfl, halting, settles.halts abandons (state.trans halting)⟩)

theorem State.credit_resetFreed_self : ((s.resetFreed p).port p).credit = (s.port p).weight := by
  have self := State.port_resetEnded_self (p := p) lawful.slots lawful.offer
  have full : ((s.resetEnded p).port p).credit = (s.port p).weight ∧ ((s.resetEnded p).port p).weight = (s.port p).weight := by
    rw [self]
    exact ⟨rfl, rfl⟩
  obtain ⟨-, -, e⟩ | ⟨abandons, -, e⟩ | ⟨-, e⟩ := State.resetFreed_cases (p := p) lawful
  · rw [e, State.credit_grantPoint_full (State.bounded_resetEnded lawful) false (by rw [full.1, full.2]), full.2]
  · rw [e, ((State.haltEnds_enterDown (s := s.resetEnded p) (State.free_resetEnded lawful abandons) rfl fun _ => rfl).2.2.2 p)]
    exact full.1
  · rw [e]
    exact full.1

theorem State.room_resetFreed : (s.resetFreed p).RoomLaw := by
  have ended : s.Works (s.resetEnded p) :=
    ((State.Works.of_step (.resets p)).trans (.withdrawFor _ p)).trans (.of_stands (.handOverDemand _ _))
  refine State.Works.keeps (fun _ _ step law => law.step step) (ended.trans ?_) lawful.room
  unfold State.resetFreed
  split
  next abandons => exact .freed _ false (State.free_resetEnded lawful abandons)
  next => exact .refl _

/-- The end of a halt by a port's reset. -/
def State.resetHalts (s : State) (p : Port) : Bool :=
  s.flightEnds (Request.isFrom p) && decide (s.engine.state = .halting)

theorem State.resetFreed_frees : (s.resetEnded p).Frees (s.resetFreed p) (s.resetHalts p) := by
  have frees := (State.settles_resetFreed (State.free_resetEnded (p := p) lawful)).frees
  rw [(State.workEnds_resetEnded (p := p) lawful.flight lawful.room).state] at frees
  exact frees

/-- What a port's reset leaves of the port itself (R129). -/
theorem State.port_resetFreed_self : (s.resetFreed p).port p =
    { (s.port p).cleared with
      queue := [], used := 0, notices := downNotice (s.resetHalts p)
      alertLow := ((s.resetFreed p).port p).alertLow } := by
  have frees := State.resetFreed_frees (p := p) lawful
  have self := State.port_resetEnded_self (p := p) lawful.slots lawful.offer
  have queue : ((s.resetFreed p).port p).queue = [] := by
    have entries := frees.entries p
    rw [self] at entries
    exact List.map_eq_nil_iff.1 entries
  have used : ((s.resetFreed p).port p).used = 0 := by
    rw [frees.used, self]
  have reservations : ((s.resetFreed p).port p).reservations = 0 := by
    refine (State.room_resetFreed lawful).unreserved p fun flies => ?_
    obtain ⟨r, rest, list, -⟩ := (State.room_resetFreed lawful).flying p flies
    rw [queue] at list
    cases list
  have posts := frees.ports.posts (q := p) (by rw [self]; exact Nat.zero_le _)
  have notices : ((s.resetFreed p).port p).notices = downNotice (s.resetHalts p) := by
    rw [posts.1, self]
    cases s.resetHalts p <;> rfl
  have lost : ((s.resetFreed p).port p).lost = false := by
    rw [Bool.eq_false_iff, ne_eq, posts.2, self]
    cases s.resetHalts p <;> simp [PortState.cleared, PortState.emptyNotices, downNotice]
  have rest := frees.ports.rest p
  rw [queue, used, reservations, State.credit_resetFreed_self lawful, notices, lost, self] at rest
  exact rest

/-- A port's reset, with its ALERT line as the end of a halt leaves it (R127). -/
theorem State.resetPort_alertAt : s.resetPort p = (s.resetFreed p).alertAt p (s.resetHalts p) := by
  have due : ((s.resetFreed p).port p).alertDue = s.resetHalts p := by
    rw [State.port_resetFreed_self lawful]
    cases s.resetHalts p <;> rfl
  rw [State.resetPort_eq, State.alertAt, State.modPort, State.modPort, ← due]
  rfl

theorem State.not_isFrom {q : Port} (other : q ≠ p) {r : Request} (mem : r ∈ (s.port q).queue) :
    Request.isFrom p r = false :=
  decide_eq_false fun own => other (Source.port.inj ((lawful.flight.source q r mem).symm.trans own))

theorem State.monitor_resetEnded : (s.resetEnded p).monitor = s.monitor := by
  have all : s.monitor.queue.filter (fun r => !Request.isFrom p r) = s.monitor.queue :=
    List.filter_eq_self.2 fun r mem => by
      simp [Request.isFrom, lawful.room.entries r mem]
  rw [(State.workEnds_resetEnded lawful.flight lawful.room).monitor, all]

/-- Another port before the converter is freed: notices apart, it stands. -/
theorem State.port_resetEnded_other {q : Port} (other : q ≠ p) : (s.resetEnded p).port q =
    { s.port q with
      reservations := ((s.resetEnded p).port q).reservations, notices := ((s.resetEnded p).port q).notices
      lost := ((s.resetEnded p).port q).lost, alertLow := ((s.resetEnded p).port q).alertLow } := by
  have queue : ((s.terminate .portReset (Request.isFrom p)).port q).queue = (s.port q).queue := by
    rw [s.terminate_queue, List.filter_eq_self]
    intro r mem
    rw [State.not_isFrom lawful other mem]
    rfl
  have used : ((s.terminate .portReset (Request.isFrom p)).port q).used = (s.port q).used := by
    rw [s.terminate_used, List.countP_eq_zero.2 fun r mem => by simp [State.not_isFrom lawful other mem], Nat.sub_zero]
  have terminated := (s.portsWork_terminate .portReset (Request.isFrom p)).rest q
  rw [queue, used, s.terminate_credit] at terminated
  have dropped := State.port_resetDropped (s := s) (p := p) q
  rw [if_neg other, terminated] at dropped
  rw [State.resetEnded_eq, State.port_handOverDemand, dropped]

/-- Another port after a port's reset (R129). -/
theorem State.port_resetFreed_other {q : Port} (other : q ≠ p) : (s.resetFreed p).port q =
    { s.port q with
      queue := ((s.resetFreed p).port q).queue, reservations := ((s.resetFreed p).port q).reservations
      credit := ((s.resetFreed p).port q).credit, notices := ((s.resetFreed p).port q).notices
      lost := ((s.resetFreed p).port q).lost, alertLow := ((s.resetFreed p).port q).alertLow } := by
  have frees := State.resetFreed_frees (p := p) lawful
  have rest := frees.ports.rest q
  rw [frees.used, State.port_resetEnded_other lawful other] at rest
  exact rest

theorem State.entries_resetFreed_other {q : Port} (other : q ≠ p) : ((s.resetFreed p).port q).entries = (s.port q).entries := by
  rw [(State.resetFreed_frees lawful).entries, State.port_resetEnded_other lawful other]
  rfl

/-- The notices to another port (R30, R156, R72). -/
theorem State.posts_resetFreed {q : Port} (other : q ≠ p) : s.Posts (s.resetFreed p) q
    (s.retireNotices q (Request.isFrom p) ++ s.withdrawalNotices p q ++ downNotice (s.resetHalts p)) := by
  have ended := (s.portsWork_terminate .portReset (Request.isFrom p)).posts (lawful.capacity q)
  rw [State.terminationNotices_eq lawful.counts lawful.room] at ended
  have cleared : s.Posts ((s.terminate .portReset (Request.isFrom p)).modPort p (·.cleared)) q
      (s.retireNotices q (Request.isFrom p)) := by
    rw [State.Posts, State.port_modPort, if_neg other]
    exact ended
  have short : ∀ {w : State} {new}, s.Posts w q new → (w.port q).notices.length ≤ 8 := fun posts => by
    rw [posts.1, List.length_take]
    omega
  have offer : ((s.terminate .portReset (Request.isFrom p)).modPort p (·.cleared)).withdrawalNotices p q =
      s.withdrawalNotices p q := by
    have same : ((s.terminate .portReset (Request.isFrom p)).modPort p (·.cleared)).offer = s.offer :=
      (s.quiet_terminate .portReset (Request.isFrom p)).1.offer
    rw [State.withdrawalNotices, State.withdrawalNotices, same]
  have withdrawn := cleared.trans (lawful.capacity q) (((State.portsWork_withdrawFor _ p).trans_quiet
    (State.portsWork_handOverDemand _ (·.vote p false))).posts (short cleared))
  rw [offer] at withdrawn
  exact withdrawn.trans (lawful.capacity q) ((State.resetFreed_frees lawful).ports.posts (short withdrawn))

end

/-! ## The rights (R156) -/

theorem Offer.otherParty_iff {o : Offer} {p q : Port} (other : q ≠ p) : o.otherParty p = some q ↔
    o.offering = p ∧ o.target = q ∨ o.target = p ∧ o.offering = q := by
  unfold Offer.otherParty
  by_cases offers : o.offering = p
  · simp [offers, Ne.symm other]
  · by_cases gets : o.target = p
    · simp [offers, gets]
    · simp [offers, gets]

theorem State.withdrawalNotices_eq {q : Port} (other : q ≠ p) : s.withdrawalNotices p q =
    if ∃ o, s.offer = some o ∧ (o.offering = p ∧ o.target = q ∨ o.target = p ∧ o.offering = q) then [.offerWithdrawn p]
    else [] := by
  have iff : s.offer.bind (·.otherParty p) = some q ↔
      ∃ o, s.offer = some o ∧ (o.offering = p ∧ o.target = q ∨ o.target = p ∧ o.offering = q) := by
    rw [Option.bind_eq_some_iff]
    simp only [Offer.otherParty_iff other]
  rw [State.withdrawalNotices]
  simp only [iff]

/-- The offer after a withdrawal. -/
theorem State.offer_withdrawFor (w : State) (p : Port) :
    ((∃ o, w.offer = some o ∧ (o.offering = p ∨ o.target = p)) →
      (w.withdrawFor p).offer = none ∧ (w.withdrawFor p).offerTimer = .stopped) ∧
    ((¬ ∃ o, w.offer = some o ∧ (o.offering = p ∨ o.target = p)) →
      (w.withdrawFor p).offer = w.offer ∧ (w.withdrawFor p).offerTimer = w.offerTimer) := by
  unfold State.withdrawFor
  cases pending : w.offer with
  | none => simp [pending]
  | some o =>
    cases party : o.otherParty p with
    | none =>
      have apart : ¬ (o.offering = p ∨ o.target = p) := fun parties => by
        unfold Offer.otherParty at party
        rcases parties with h | h <;> simp [h] at party
        split at party <;> cases party
      simp [party, pending, apart]
    | some q =>
      have parties : o.offering = p ∨ o.target = p := by
        by_contra apart
        rw [not_or] at apart
        simp [Offer.otherParty, apart.1, apart.2] at party
      simp only [party]
      exact ⟨fun _ => ⟨rfl, rfl⟩, fun none => absurd ⟨o, rfl, parties⟩ none⟩

/-- What frees the converter leaves the rights and the target address. -/
theorem State.rights_resetFreed : (s.resetFreed p).offer = (s.resetDropped p).offer ∧
    (s.resetFreed p).offerTimer = (s.resetDropped p).offerTimer ∧ (s.resetFreed p).supervisor = s.supervisor ∧
    (s.resetFreed p).targetAddress = s.targetAddress := by
  have dropped : (s.resetDropped p).supervisor = s.supervisor ∧ (s.resetDropped p).targetAddress = s.targetAddress := by
    rw [State.resetDropped,
      (State.withdrawFor_rest ((s.terminate .portReset (Request.isFrom p)).modPort p (·.cleared)) p).rest]
    exact ⟨(s.quiet_terminate .portReset (Request.isFrom p)).1.supervisor,
      (s.quiet_terminate .portReset (Request.isFrom p)).1.targetAddress⟩
  have handed : ∀ w : State, (w.handOverDemand (·.vote p false)).offer = w.offer ∧
      (w.handOverDemand (·.vote p false)).offerTimer = w.offerTimer ∧
      (w.handOverDemand (·.vote p false)).supervisor = w.supervisor ∧
      (w.handOverDemand (·.vote p false)).targetAddress = w.targetAddress := fun _ => ⟨rfl, rfl, rfl, rfl⟩
  have ended := handed (s.resetDropped p)
  rw [dropped.1, dropped.2, ← State.resetEnded_eq] at ended
  unfold State.resetFreed
  split
  · have keeps := ((s.resetEnded p).quiet_freed false).1
    rw [keeps.offer, keeps.offerTimer, keeps.supervisor, keeps.targetAddress]
    exact ended
  · exact ended

/-- The offer after a port's reset (R156). -/
theorem State.offer_resetFreed :
    ((∃ o, s.offer = some o ∧ (o.offering = p ∨ o.target = p)) →
      (s.resetFreed p).offer = none ∧ (s.resetFreed p).offerTimer = .stopped) ∧
    ((¬ ∃ o, s.offer = some o ∧ (o.offering = p ∨ o.target = p)) →
      (s.resetFreed p).offer = s.offer ∧ (s.resetFreed p).offerTimer = s.offerTimer) := by
  have keeps := (s.quiet_terminate .portReset (Request.isFrom p)).1
  have withdrawn := State.offer_withdrawFor ((s.terminate .portReset (Request.isFrom p)).modPort p (·.cleared)) p
  rw [show ((s.terminate .portReset (Request.isFrom p)).modPort p (·.cleared)).offer = s.offer from keeps.offer,
    show ((s.terminate .portReset (Request.isFrom p)).modPort p (·.cleared)).offerTimer = s.offerTimer from keeps.offerTimer]
    at withdrawn
  rw [State.rights_resetFreed.1, State.rights_resetFreed.2.1]
  exact withdrawn

/-- The answer touches the port's interface alone. -/
theorem State.port_answered (status : Status) (code : Byte) (payload : List Byte) (q : Port) :
    (s.answered p status code payload).port q =
      if q = p then { s.port p with transaction := .closed, holder := .make status code payload } else s.port q := by
  unfold State.answered State.port
  rw [PerPort.get_set]

end Sys2Proof.Machine
end

section
/-! PROOF. The obligation about PORT_RESET (chapter 9). -/

namespace Sys2Proof.Proofs
open Sys2Proof Sys2Proof.Machine

/-- Settles O49: the port's requests end, the port is cleared, and what that leaves is read off clause by clause. -/
theorem portResetClearsThePort : Obligations.PortResetClearsThePort := by
  unfold Obligations.PortResetClearsThePort
  intro s p awaits lawful
  have run : exec (.portReset p) s = .next ((s.resetPort p).answered p .ok 0x02#8 []) := by
    refine exec_accepts (i := .portReset p) (code := .portReset) rfl nofun awaits (.inl rfl) ?_
    rw [← s.resetPort_closedAt]
    rfl
  rw [State.resetPort_alertAt lawful] at run
  have work := State.workEnds_resetEnded (p := p) lawful.flight lawful.room
  have frees := State.resetFreed_frees (p := p) lawful
  have self := State.port_resetFreed_self (p := p) lawful
  have monitor := State.monitor_resetEnded (p := p) lawful
  have port : ∀ q, ((((s.resetFreed p).alertAt p (s.resetHalts p)).answered p .ok 0x02#8 []).port q) =
      if q = p then { (s.resetFreed p).port p with
        alertLow := s.resetHalts p, transaction := .closed, holder := .make .ok 0x02#8 [] }
      else (s.resetFreed p).port q := fun q => by
    rw [State.port_answered, State.alertAt, State.port_modPort, State.port_modPort]
    by_cases own : q = p
    · simp [own]
    · simp [own]
  have credit : ∀ q, q ≠ p → ((s.resetEnded p).port q).credit = (s.port q).credit := fun q other => by
    rw [State.port_resetEnded_other lawful other]
  obtain ⟨-, -, supervisor, address⟩ := State.rights_resetFreed (s := s) (p := p)
  refine ⟨_, run, ?_, fun o => ?_, fun n => ?_, fun stays _ => ?_, fun halts => ?_, fun abandons running => ?_,
    fun q other => ⟨?_, ?_, ?_⟩, (State.offer_resetFreed).1, (State.offer_resetFreed).2, supervisor, address, ?_, ?_⟩
  · rw [port, if_pos rfl, self]
    rfl
  · refine (frees.output o).trans ?_
    rw [State.output_resetEnded lawful.flight lawful.room]
    rfl
  · exact (frees.profile n).trans (State.profile_resetEnded lawful.counts n)
  · obtain ⟨abandons, -⟩ | ⟨abandons, -⟩ | ⟨-, e⟩ := State.resetFreed_cases (p := p) lawful
    · exact absurd (stays.symm.trans abandons) nofun
    · exact absurd (stays.symm.trans abandons) nofun
    · have engine : (s.resetEnded p).engine = s.engine := by
        rw [work.engine, show s.flightEnds (Request.isFrom p) = false from stays]
        rfl
      refine ⟨(congrArg State.engine e).trans engine, (congrArg State.arbiter e).trans work.arbiter,
        (congrArg State.monitor e).trans monitor, fun q other => ?_⟩
      rw [port, if_neg other, e, credit q other]
  · obtain ⟨abandons, halting⟩ := Bool.and_eq_true_iff.1 halts
    have free := State.free_resetEnded lawful (p := p) abandons
    obtain ⟨-, running, -⟩ | ⟨-, -, e⟩ | ⟨stays, -⟩ := State.resetFreed_cases (p := p) lawful
    · rw [running] at halting
      cases halting
    · obtain ⟨engine, -, arbiter, credits⟩ := State.haltEnds_enterDown (s := s.resetEnded p) free rfl fun _ => rfl
      refine ⟨(congrArg State.engine e).trans engine, (congrArg State.arbiter e).trans (arbiter.trans work.arbiter),
        (congrArg State.monitor e).trans ?_, fun q other => ?_⟩
      · rw [State.enterDown_of_free free, monitor]
      · rw [port, if_neg other, e, credits, credit q other]
    · exact absurd (stays.symm.trans abandons) nofun
  · obtain ⟨-, -, e⟩ | ⟨-, halting, -⟩ | ⟨stays, -⟩ := State.resetFreed_cases (p := p) lawful
    · have halts : s.resetHalts p = false := by
        rw [State.resetHalts, running]
        exact Bool.and_false _
      have alerts : s.WorkEnds ((s.resetEnded p).alertAt p false) (Request.isFrom p) := by
        have same : ∀ {α : Type} (f : PortState → α), (∀ ps : PortState, f { ps with alertLow := false } = f ps) → ∀ q,
            f (((s.resetEnded p).alertAt p false).port q) = f ((s.resetEnded p).port q) := fun f unread q => by
          rw [State.alertAt, State.port_modPort]
          split
          next own => rw [unread, own]
          next => rfl
        exact work.then_same (same (·.queue) fun _ => rfl) (same (·.weight) fun _ => rfl)
          (fun q => .inl (same (·.reservations) (fun _ => rfl) q)) rfl rfl rfl fun _ => .refl _
      refine ⟨(s.resetEnded p).alertAt p false, alerts.abandonsAt lawful.flight abandons fun q => ?_, ?_⟩
      · rw [State.alertAt, State.port_modPort]
        split
        · rw [State.port_resetEnded_self lawful.slots lawful.offer]
          rfl
        next other => exact credit q other
      · rw [State.grantPoint_alertAt, ← e, halts]
    · rw [running] at halting
      cases halting
    · exact absurd (stays.symm.trans abandons) nofun
  · rw [port, if_neg other]
    exact State.entries_resetFreed_other lawful other
  · rw [port, if_neg other]
    exact State.port_resetFreed_other lawful other
  · rw [State.Posts, port, if_neg other]
    have posts := State.posts_resetFreed lawful other
    rw [State.withdrawalNotices_eq other] at posts
    exact posts
  · have waiting := congrArg (List.map fun r : Request => (r.kind, r.profile)) frees.waiting
    rw [monitor, List.map_map, List.map_map] at waiting
    exact waiting
  · refine frees.state.trans ?_
    rw [work.state]
    rfl

end Sys2Proof.Proofs
end

section
/-! SUPPORT. A retire with live requests (R15, R16, R9), in the words of the statements. -/

namespace Sys2Proof.Machine

/-- A list that a partial map reads at one element alone. -/
theorem List.filterMap_at {α β : Type} {l : List α} {x : α} {f : α → Option β} (nodup : l.Nodup) (mem : x ∈ l)
    (others : ∀ y, y ≠ x → f y = none) : l.filterMap f = (f x).toList := by
  obtain ⟨before, after, rfl⟩ := List.append_of_mem mem
  have apart := List.nodup_append.1 nodup
  have none : ∀ part : List α, x ∉ part → part.filterMap f = [] := fun part absent =>
    List.filterMap_eq_nil_iff.2 fun y mem => others y fun same => absent (same ▸ mem)
  have absentBefore : x ∉ before := fun mem => apart.2.2 x mem x List.mem_cons_self rfl
  have absentAfter : x ∉ after := (List.nodup_cons.1 apart.2.1).1
  rw [List.filterMap_append, none before absentBefore, List.nil_append, List.filterMap_cons, none after absentAfter]
  cases f x <;> rfl

/-- The request but for its final mark. -/
def Request.unmarked (r : Request) : Request := { r with finalMark := false }

/-- What reads no final mark selects the same of two lists that are equal but for the marks. -/
theorem filter_unmarked {α : Type} {l m : List Request} (same : l.map Request.unmarked = m.map Request.unmarked)
    {ends : Request → Bool} (blind : ∀ r : Request, ends r.unmarked = ends r) {f : Request → α}
    (f_blind : ∀ r : Request, f r.unmarked = f r) : (l.filter ends).map f = (m.filter ends).map f := by
  have through : ∀ k : List Request, (k.filter ends).map f = ((k.map Request.unmarked).filter ends).map f := fun k => by
    rw [List.filter_map, List.map_map]
    simp only [Function.comp_def, blind, f_blind]
  rw [through l, same, ← through m]

section

variable {s : State} {n : Fin 32}

/-- What a change of the request in flight leaves of every queue. -/
theorem State.modFlight_map {α : Type} (g : Request → α) (f : Request → Request) (stands : ∀ r, g (f r) = g r) :
    (∀ q, ((s.modFlight f).port q).queue.map g = (s.port q).queue.map g) ∧
    (s.modFlight f).monitor.queue.map g = s.monitor.queue.map g := by
  unfold State.modFlight
  split
  · exact ⟨fun _ => rfl, rfl⟩
  next p _ =>
    refine ⟨fun q => ?_, rfl⟩
    rw [State.port_modPort]
    split
    next own =>
      rw [own]
      show (modHead f (s.port p).queue).map _ = _
      cases (s.port p).queue with
      | nil => rfl
      | cons r rest => rw [modHead, List.map_cons, List.map_cons, stands]
    next => rfl
  next m _ =>
    refine ⟨fun _ => rfl, ?_⟩
    show (s.monitor.queue.map _).map _ = _
    rw [List.map_map]
    refine List.map_congr_left fun r _ => ?_
    simp only [Function.comp_apply]
    split
    · exact stands r
    · rfl

/-- A retire marks nothing but the request in flight (R16). -/
theorem State.retireMarked_unmarked :
    (∀ q, ((s.retireMarked n).port q).queue.map Request.unmarked = (s.port q).queue.map Request.unmarked) ∧
    (s.retireMarked n).live.map Request.unmarked = s.live.map Request.unmarked := by
  have parts : (∀ q, ((s.retireMarked n).port q).queue.map Request.unmarked = (s.port q).queue.map Request.unmarked) ∧
      (s.retireMarked n).monitor.queue.map Request.unmarked = s.monitor.queue.map Request.unmarked := by
    unfold State.retireMarked State.markFinal
    split
    · exact State.modFlight_map Request.unmarked _ fun _ => rfl
    · exact ⟨fun _ => rfl, rfl⟩
  obtain ⟨queue, monitor⟩ := parts
  refine ⟨queue, ?_⟩
  have live : ∀ u : State, u.live.map Request.unmarked = (u.port .a).queue.map Request.unmarked ++
      (u.port .b).queue.map Request.unmarked ++ (u.port .c).queue.map Request.unmarked ++
      u.monitor.queue.map Request.unmarked := fun u => by
    rw [← List.map_append, ← List.map_append, ← List.map_append]
    rfl
  rw [live, live, queue, queue, queue, monitor]

/-- A retire's marks change nothing that reads no mark. -/
theorem State.any_retireMarked {f : Request → Bool} (blind : ∀ r : Request, f r.unmarked = f r) :
    (s.retireMarked n).live.any f = s.live.any f ∧ (s.retireMarked n).live.countP f = s.live.countP f := by
  have any : ∀ l : List Request, l.any f = (l.map Request.unmarked).any f := fun l => by
    rw [List.any_map]
    simp only [Function.comp_def, blind]
  have count : ∀ l : List Request, l.countP f = (l.map Request.unmarked).countP f := fun l => by
    rw [List.countP_map]
    simp only [Function.comp_def, blind]
  rw [any, any s.live, count, count s.live, State.retireMarked_unmarked.2]
  exact ⟨rfl, rfl⟩

theorem State.profile_retireMarked (m : Fin 32) : (s.retireMarked n).profile m =
    if m = n then { s.profile n with state := .retiring } else s.profile m := by
  have marked : (s.retireMarked n).profile m = (s.modProfile n fun old => { old with state := .retiring }).profile m := by
    unfold State.retireMarked State.markFinal
    split
    · unfold State.modFlight
      split <;> rfl
    · rfl
  rw [marked]
  split
  next same => rw [same, State.profile_modProfile_self]
  next other => rw [State.profile_modProfile_other _ other]

theorem State.CountsMatch.retireMarked (counts : s.CountsMatch) (n : Fin 32) : (s.retireMarked n).CountsMatch := fun m => by
  have named : (s.retireMarked n).named m = s.named m :=
    (State.any_retireMarked (f := fun r => decide (r.profile = m)) fun _ => rfl).2
  rw [named, ← counts m, State.profile_retireMarked]
  split
  next same => rw [same]
  next => rfl

theorem State.works_retireMarked (user : n ≠ 0) : s.Works (s.retireMarked n) :=
  (State.Works.of_stands (.modProfile s n (f := fun old => { old with state := .retiring }) (.inl user))).trans
    (.of_step (.marks n))

/-- A retire with live requests completes where each that names the profile ends (R9, R15). -/
theorem State.retireCompletes_retireMarked (held : 0 < s.named n) (m : Fin 32) :
    (s.retireMarked n).retireCompletes (Request.endsAtRetire n) m =
      (decide (m = n) && !s.live.any fun r => decide (r.profile = n) && !Request.endsAtRetire n r) := by
  by_cases same : m = n
  · subst same
    have state : ((s.retireMarked m).profile m).state = .retiring := by rw [State.profile_retireMarked, if_pos rfl]
    have all : ((s.retireMarked m).live.all fun r => !decide (r.profile = m) || Request.endsAtRetire m r) =
        !s.live.any fun r => decide (r.profile = m) && !Request.endsAtRetire m r := by
      rw [← (State.any_retireMarked (n := m) (f := fun r => decide (r.profile = m) && !Request.endsAtRetire m r)
        fun _ => rfl).1, List.not_any_eq_all_not]
      simp only [Bool.not_and, Bool.not_not]
    rw [State.retireCompletes, state, all]
    cases left : s.live.any fun r => decide (r.profile = m) && !Request.endsAtRetire m r with
    | true => simp
    | false =>
      have some : ((s.retireMarked m).live.any fun r => decide (r.profile = m) && Request.endsAtRetire m r) = true := by
        rw [(State.any_retireMarked (f := fun r => decide (r.profile = m) && Request.endsAtRetire m r) fun _ => rfl).1]
        obtain ⟨r, mem, named⟩ := List.countP_pos_iff.1 held
        have ends := List.any_eq_false.1 left r mem
        rw [List.any_eq_true]
        refine ⟨r, mem, ?_⟩
        rw [named] at ends ⊢
        simpa using ends
      simp [some]
  · have none : ((s.retireMarked n).live.any fun r => decide (r.profile = m) && Request.endsAtRetire n r) = false :=
      List.any_eq_false.2 fun r _ => by
        simp only [Request.endsAtRetire, Bool.and_eq_true, decide_eq_true_eq, not_and]
        rintro named ⟨names, -⟩
        exact absurd (named.symm.trans names) same
    simp [State.retireCompletes, none, same]

/-- The requests of the profile that a retire leaves. -/
def State.retireLeaves (s : State) (n : Fin 32) : Bool :=
  s.live.any fun r => decide (r.profile = n) && !Request.endsAtRetire n r

theorem State.profile_retireEnded (counts : s.CountsMatch) (held : 0 < s.named n) : (s.retireEnded n).profile n =
    { s.profile n with
      state := if s.retireLeaves n then .retiring else .claimed
      refCount := s.live.countP fun r => decide (r.profile = n) && !Request.endsAtRetire n r } := by
  have ended : (s.retireEnded n).profile n = _ :=
    (State.profile_refreshDemand _ n).trans <| State.profile_terminate (counts.retireMarked n) .retired (Request.endsAtRetire n) n
  rw [ended, State.profileAfter, State.retireCompletes_retireMarked held, State.profile_retireMarked, if_pos rfl,
    (State.any_retireMarked (f := fun r => decide (r.profile = n) && !Request.endsAtRetire n r) fun _ => rfl).2]
  show ({ s.profile n with state := _, refCount := _ } : Profile) = _
  cases left : s.retireLeaves n <;> rw [State.retireLeaves] at left <;> simp [left]

/-- The notices of a retire with live requests (R15, R9). -/
theorem State.posts_retireEnded (counts : s.CountsMatch) (room : s.RoomLaw) (held : 0 < s.named n) (user : n ≠ 0) {p q : Port}
    (owner : (s.profile n).owner = some (.port p)) (capacity : (s.port q).notices.length ≤ 8) :
    s.Posts (s.retireEnded n) q ((s.port q).endNotices .retired (Request.endsAtRetire n) ++
      if q = p ∧ s.retireLeaves n = false then [.profileRetired n] else []) := by
  have posts := (s.portsWork_retireEnded n).posts capacity
  have marked : (s.retireMarked n).RoomLaw :=
    State.Works.keeps (fun _ _ step law => law.step step) (State.works_retireMarked user) room
  have ends : ((s.retireMarked n).port q).endNotices .retired (Request.endsAtRetire n) =
      (s.port q).endNotices .retired (Request.endsAtRetire n) := by
    have tags := filter_unmarked (State.retireMarked_unmarked (s := s) (n := n).1 q) (ends := Request.endsAtRetire n)
      (fun _ => rfl) (f := Request.tag) fun _ => rfl
    have through : ∀ ps : PortState, ps.endNotices .retired (Request.endsAtRetire n) =
        ((ps.queue.filter (Request.endsAtRetire n)).map Request.tag).filterMap (·.map (Notice.requestEnded · .retired)) :=
      fun ps => by rw [List.filterMap_map]; rfl
    rw [through, through, tags]
  have retires : (s.retireMarked n).retireNotices q (Request.endsAtRetire n) =
      if q = p ∧ s.retireLeaves n = false then [.profileRetired n] else [] := by
    rw [State.retireNotices, List.filterMap_at (List.nodup_finRange 32) (List.mem_finRange n)]
    · rw [State.retireCompletes_retireMarked held, State.profile_retireMarked, if_pos rfl, owner]
      rw [show (s.live.any fun r => decide (r.profile = n) && !Request.endsAtRetire n r) = s.retireLeaves n from rfl]
      by_cases own : q = p
      · cases s.retireLeaves n <;> simp [own]
      · simp [own, Ne.symm own]
    · intro m other
      rw [State.retireCompletes_retireMarked held, decide_eq_false other]
      simp
  rw [State.terminationNotices_eq (counts.retireMarked n) marked, ends, retires] at posts
  exact posts

theorem Request.endsAtRetire_eq (n : Fin 32) :
    Request.endsAtRetire n = fun r => decide (r.profile = n ∧ r.count = 0 ∧ r.state = .queued) := by
  funext r
  rw [Request.endsAtRetire, Request.continuous, Bool.decide_and, Bool.decide_and, Bool.and_assoc]

theorem State.tags_retireEnded (q : Port) : ((s.retireEnded n).port q).tags =
    ((s.port q).queue.filter (!Request.endsAtRetire n ·)).map (·.tag) := by
  rw [PortState.tags, State.retireEnded, State.port_refreshDemand, State.terminate_queue]
  exact filter_unmarked (State.retireMarked_unmarked.1 q) (fun _ => rfl) fun _ => rfl

/-- A retire marks the continuous request in flight at the head of a port's queue (R16). -/
theorem State.flight_retireMarked {q : Port} {r : Request} (flies : s.engine.inFlight = some (.port q))
    (head : (s.port q).queue.head? = some r) (names : r.profile = n) (continuous : r.count = 0) :
    (s.retireMarked n).flight = some { r with finalMark := true } := by
  have flight : (s.modProfile n fun old => { old with state := .retiring }).flight = some r := by
    exact (State.flight_port (s := s.modProfile n _) (p := q) flies).trans head
  have marks : (s.modProfile n fun old => { old with state := .retiring }).flightIsContinuous n = true := by
    rw [State.flightIsContinuous, flight]
    simp [names, Request.continuous, continuous]
  have marked : s.retireMarked n = (s.modProfile n fun old => { old with state := .retiring }).modPort q fun ps =>
      { ps with queue := modHead (fun r => { r with finalMark := true }) ps.queue } := by
    rw [State.retireMarked, State.markFinal, if_pos marks, State.modFlight]
    rw [show (s.modProfile n fun old => { old with state := .retiring }).engine.inFlight = some (.port q) from flies]
  obtain ⟨rest, queue⟩ := List.head?_eq_some_iff.1 head
  rw [marked]
  refine (State.flight_port (s := (s.modProfile n _).modPort q _) (p := q) flies).trans ?_
  rw [State.port_modPort, if_pos rfl]
  show (modHead _ (s.port q).queue).head? = _
  rw [queue]
  rfl

/-- The request in flight stays through a retire (R16). -/
theorem State.flight_retireEnded {x : Request} (flight : (s.retireMarked n).FlightLawful)
    (flies : (s.retireMarked n).flight = some x) : (s.retireEnded n).flight = some x := by
  have stays : (s.retireMarked n).flightEnds (Request.endsAtRetire n) = false := by
    rw [State.flightEnds, flies, Option.any_some, Request.endsAtRetire, flight.state_of_flight flies]
    simp
  rw [State.retireEnded, State.flight_refreshDemand, State.flight_terminate, stays]
  exact flies

theorem profileRetire_of_user (user : n ≠ 0) (p : Port) : profileRetire p (unsigned8 n.val) s =
    if (s.profile n).state = .free ∨ (s.profile n).state = .claimed then .refuse s .profileState
    else if (s.profile n).state = .retiring then .refuse s .profileRetiring
    else if (s.profile n).owner ≠ some (.port p) then .refuse s .notOwner
    else .accept (s.retire n) [(s.retire n).retireOutcome n] := by
  simp only [profileRetire, userNumberOfCode_unsigned8 user, ne_eq, ← Profile.ownedBy_iff, Bool.not_eq_true, Bool.not_eq_true']

end

end Sys2Proof.Machine
end

section
/-! PROOF. The obligation about PROFILE_RETIRE (chapter 1). -/

namespace Sys2Proof.Proofs
open Sys2Proof Sys2Proof.Machine

/-- Settles O23, check by check in the order of R15; with live requests, the state in which an idle converter is tried is
read off clause by clause. -/
theorem retireEndsContinuousRequests : Obligations.RetireEndsContinuousRequests := by
  unfold Obligations.RetireEndsContinuousRequests
  intro s p number awaits
  have refuses : ∀ {status}, profileRetire p number (s.closedAt p) = .refuse (s.closedAt p) status →
      exec (.profileRetire p number) s = .next (s.answered p status 0x14#8 []) :=
    exec_refuses (i := .profileRetire p number) rfl nofun awaits (.inl rfl)
  refine ⟨fun above => refuses ?_, fun n user code => ?_⟩
  · simp only [profileRetire, (userNumberOfCode_eq_none_iff _).2 above]
  subst code
  have checks := profileRetire_of_user (s := s.closedAt p) user p
  rw [State.profile_closedAt, State.retire_closedAt] at checks
  have accepts : (s.profile n).state = .active → (s.profile n).owner = some (.port p) →
      exec (.profileRetire p (unsigned8 n.val)) s =
        .next ((s.retire n).answered p .ok 0x14#8 [(s.retire n).retireOutcome n]) := fun active owner => by
    refine exec_accepts (i := .profileRetire p _) (code := .profileRetire) rfl nofun awaits (.inl rfl) ?_
    refine checks.trans ?_
    rw [active, owner, if_neg (by decide), if_neg (by decide), if_neg (by simp)]
    rfl
  refine ⟨fun state => refuses (checks.trans (if_pos state)), fun retiring => refuses ?_, fun active other => refuses ?_,
    fun active owner unused => ?_, fun active owner used lawful => ?_⟩
  · rw [checks, retiring, if_neg (by decide), if_pos rfl]
  · rw [checks, active, if_neg (by decide), if_neg (by decide), if_pos other]
  · rw [accepts active owner, State.retire, if_pos unused, State.retireOutcome, State.profile_modProfile_self]
    rfl
  have held : 0 < s.named n := lawful.counts n ▸ used
  have retire : s.retire n = (s.retireEnded n).kick := by
    rw [State.retire, if_neg (by omega), State.retireBusy_eq]
  have run := accepts active owner
  have frees := State.Frees.kick (s.retireEnded n)
  have profile := (frees.profile n).trans (State.profile_retireEnded lawful.counts held)
  have outcome : (s.retire n).retireOutcome n = if s.retireLeaves n then 0x01#8 else 0x00#8 := by
    rw [State.retireOutcome, retire, profile]
    cases s.retireLeaves n <;> rfl
  have posts := fun q => State.posts_retireEnded lawful.counts lawful.room held user (q := q) owner (lawful.capacity q)
  have tags := fun q => State.tags_retireEnded (s := s) (n := n) q
  simp only [State.retireLeaves, Request.endsAtRetire_eq] at outcome profile posts tags
  rw [outcome, retire] at run
  have same := State.sameCore_answered (s.retireEnded n).kick p .ok 0x14#8 [if s.live.any fun r =>
    decide (r.profile = n) && !decide (r.profile = n ∧ r.count = 0 ∧ r.state = .queued) then 0x01#8 else 0x00#8]
  refine ⟨_, run, (same.profile n).trans profile, ?_, fun q => ?_, fun q => ?_, fun q r flies head names continuous => ?_⟩
  · exact (((s.retireEnded n).kick).answered_interfaces p p _ _ _).1.trans (if_pos rfl)
  · have entries := congrArg (List.map Request.tag) (frees.entries q)
    rw [PortState.entries, PortState.entries, List.map_map, List.map_map] at entries
    rw [PortState.tags, same.queue]
    exact entries.trans (tags q)
  · have short : ((s.retireEnded n).port q).notices.length ≤ 8 := by
      rw [(posts q).1, List.length_take]
      omega
    have last := (posts q).trans (lawful.capacity q) (frees.ports.posts short)
    rw [show downNotice false = [] from rfl, List.append_nil] at last
    exact last.sameCore same
  · have marked : (s.retireMarked n).FlightLawful :=
      State.Works.keeps (fun _ _ step law => law.step step) (State.works_retireMarked user) lawful.flight
    have flight := State.flight_retireEnded marked (State.flight_retireMarked flies head names continuous)
    have busy : (s.retireEnded n).kick = s.retireEnded n :=
      State.kick_of_busy (.inl fun free => by
        rw [State.flight_free free] at flight
        cases flight)
    rw [same.flight, busy]
    exact flight

end Sys2Proof.Proofs
end

section
/-! SUPPORT. An entry to DOWN with a request in flight (R72, R16, R138). -/

namespace Sys2Proof.Machine

/-- Only a faulted output is not switched off by an entry to DOWN (R138). -/
theorem OutputState.inDown_state (x : OutputState) :
    x.inDown.state = if x.state = .tripped ∨ x.state = .lockedOut then x.state else .off := by
  unfold OutputState.inDown
  cases state : x.state <;> simp [state]

theorem OutputState.inDown_afterDemand (x : OutputState) (now down : Bool) :
    (x.afterDemand now down).inDown.state = x.inDown.state := by
  rw [OutputState.inDown_state, OutputState.inDown_state]
  unfold OutputState.afterDemand
  cases state : x.state <;> cases now <;> dsimp only <;> try rw [state]
  · split <;> simp [state]
  all_goals simp
  split <;> simp

/-- A demand handed over changes nothing of which outputs an entry to DOWN switches off. -/
theorem State.inDown_refreshDemand (s : State) (o : OutputId) :
    (s.refreshDemand.output o).inDown.state = (s.output o).inDown.state := by
  rw [s.output_refreshDemand, OutputState.judgedFrom_eq]
  split
  · rw [OutputState.inDown_state, OutputState.inDown_state]
  · rw [OutputState.inDown_afterDemand, OutputState.inDown_state, OutputState.inDown_state]

theorem Request.map_queued_of_queued {l : List Request} (queued : ∀ r ∈ l, r.state = .queued) :
    l.map (fun r => { r with state := .queued }) = l := by
  refine (List.map_congr_left fun r mem => ?_).trans (List.map_id l)
  show ({ r with state := .queued } : Request) = r
  rw [← queued r mem]

theorem State.modFlight_rest (s : State) (f : Request → Request) : (s.modFlight f).profiles = s.profiles ∧
    (s.modFlight f).outputs = s.outputs ∧ (s.modFlight f).arbiter = s.arbiter ∧
    (s.modFlight f).monitor = { s.monitor with queue := (s.modFlight f).monitor.queue } := by
  unfold State.modFlight
  split <;> exact ⟨rfl, rfl, rfl, rfl⟩

theorem State.releaseReservation_rest (s : State) (r : Request) :
    s.releaseReservation r = { s with ports := (s.releaseReservation r).ports } ∧
    ∀ q, (s.releaseReservation r).port q =
      { s.port q with reservations := ((s.releaseReservation r).port q).reservations } := by
  unfold State.releaseReservation State.modSource
  split
  next p _ =>
    refine ⟨rfl, fun q => ?_⟩
    rw [State.port_modPort]
    split
    next same => rw [same]
    next => rfl
  next => exact ⟨rfl, fun _ => rfl⟩

section

variable {s : State}

theorem State.output_enterDown (o : OutputId) : (s.enterDown.output o).state =
    if (s.output o).state = .tripped ∨ (s.output o).state = .lockedOut then (s.output o).state else .off := by
  have outputs : s.enterDown.output o = (s.giveBack.output o).inDown := by
    rw [State.output, s.enterDown_parts.1]
    cases o <;> rfl
  have given : (s.giveBack.output o).inDown.state = (s.output o).inDown.state := by
    rcases s.giveBack_cases with ⟨-, e⟩ | ⟨r, -, -, e⟩ | ⟨r, -, -, e⟩ <;> rw [e]
    · rw [State.inDown_refreshDemand, State.output, s.terminate_outputs]
      rfl
    · have same : ((s.releaseReservation r).modFlight fun r => { r with state := .queued }).output o = s.output o := by
        rw [State.output, (State.modFlight_rest _ _).2.1, (s.releaseReservation_rest r).1]
        rfl
      rw [same]
  rw [outputs, given, OutputState.inDown_state]

/-- A request given back without its final mark stands where it stood, and nothing else moves but its reservation (R72). -/
theorem State.giveBack_unmarked {r : Request} (flight : s.FlightLawful) (flies : s.flight = some r)
    (unmarked : r.finalMark = false) :
    (∀ q, (s.giveBack.port q).queue = (s.port q).queue.map fun x => { x with state := .queued }) ∧
    s.giveBack.monitor.queue = (s.monitor.queue.map fun x => { x with state := .queued }) ∧
    ∀ n, s.giveBack.profile n = s.profile n := by
  obtain ⟨ports, entries⟩ := State.giveBack_queued flight
  rcases s.giveBack_cases with ⟨none, -⟩ | ⟨x, flies', marked, -⟩ | ⟨x, -, -, e⟩
  · rw [flies] at none
    cases none
  · rw [flies] at flies'
    cases flies'
    rw [unmarked] at marked
    cases marked
  · have moved := State.modFlight_map (s := s.releaseReservation x) (fun y : Request => { y with state := .queued })
      (fun y => { y with state := .queued }) fun _ => rfl
    obtain ⟨rest, port⟩ := s.releaseReservation_rest x
    refine ⟨fun q => ?_, ?_, fun n => ?_⟩
    · rw [← Request.map_queued_of_queued (ports q), e, moved.1, port]
    · rw [← Request.map_queued_of_queued entries, e, moved.2, rest]
    · rw [e, State.profile, (State.modFlight_rest _ _).1, rest]
      rfl

theorem State.notices_giveBack {r : Request} (flies : s.flight = some r) (q : Port) : s.giveBackNotices q =
    if r.finalMark then s.terminationNotices .retired (·.isInFlight) q else [] := by
  rw [State.giveBackNotices, flies]
  rfl

/-- A request given back with its final mark ends (R16). -/
theorem State.giveBack_marked {r : Request} (flies : s.flight = some r) (marked : r.finalMark = true) :
    s.giveBack = (s.terminate .retired (·.isInFlight)).refreshDemand := by
  rw [State.giveBack, flies]
  simp [marked]

end

end Sys2Proof.Machine
end

section
/-! PROOF. The obligation about the entry to DOWN (chapter 4). -/

namespace Sys2Proof.Proofs
open Sys2Proof Sys2Proof.Machine

/-- Settles O35: the request given back, by its final mark. -/
theorem entryToDownGivesTheRequestBack : Obligations.EntryToDownGivesTheRequestBack := by
  unfold Obligations.EntryToDownGivesTheRequestBack
  intro s lawful
  obtain ⟨queue, monitor, engine⟩ := s.enterDown_queues
  have posts := fun q => s.portsWork_enterDown.posts (lawful.capacity q)
  refine ⟨engine, rfl, fun o => State.output_enterDown o, fun r flies unmarked => ?_,
    fun p r rest inFlight list marked => ?_⟩
  · obtain ⟨given, entries, profile⟩ := State.giveBack_unmarked lawful.flight flies unmarked
    refine ⟨fun q => (queue q).trans (given q), monitor.trans entries, profile, fun q => ?_, fun q => ?_⟩
    · rw [s.enterDown_port, PortState.post_reservations]
      exact (lawful.room.giveBack.1 q).2.1
    · have posts := posts q
      rw [State.notices_giveBack flies, unmarked] at posts
      exact posts
  · have flies : s.flight = some r := by
      rw [State.flight_port inFlight, list]
      rfl
    have given := State.giveBack_marked flies marked
    refine ⟨?_, fun n => ?_, fun q => ?_⟩
    · have ended : (s.enterDown.port p).queue = (s.port p).queue.filter (!·.isInFlight) := by
        rw [queue, given]
        exact s.terminate_queue .retired (·.isInFlight) p
      have others : rest.filter (!·.isInFlight) = rest := List.filter_eq_self.2 fun x mem => by
        have queued := lawful.oneInFlight.1 p x (by rw [list]; exact mem)
        simp [Request.isInFlight, queued]
      rw [ended, list, List.filter_cons, others, Request.isInFlight, lawful.flight.state_of_flight flies]
      rfl
    · have profile : s.enterDown.profile n = (s.terminate .retired (·.isInFlight)).profile n := by
        show s.giveBack.profile n = _
        rw [given]
        rfl
      exact profile.trans (State.profile_terminate lawful.counts _ _ n)
    · have posts := posts q
      rw [State.notices_giveBack flies, marked, if_pos rfl, State.terminationNotices_eq lawful.counts lawful.room] at posts
      exact posts

end Sys2Proof.Proofs
end

section
/-! SUPPORT. Temperature samples placed by the interval timer and at the entry to RUNNING (R38, R73, R95). -/

namespace Sys2Proof.Machine

section

variable {s : State}

theorem exec_startTimerExpiry {ms : Nat} (starting : s.engine.state = .starting) (runs : s.engine.startTimer = .running ms) :
    exec .startTimerExpiry s = .next s.enterRunning := by
  show execStartTimerExpiry s = _
  rw [execStartTimerExpiry, starting, runs]

theorem exec_intervalTimerExpiry {ms : Nat} (converts : s.engine.state = .running ∨ s.engine.state = .halting)
    (runs : s.monitor.intervalTimer = .running ms) :
    exec .intervalTimerExpiry s = .next s.restartInterval.placeSample.kick := by
  show execIntervalTimerExpiry s = _
  rw [execIntervalTimerExpiry, runs]
  exact congrArg Host.Outcome.next (if_pos converts)

/-- A sample is not placed beside another (R38). -/
theorem State.placeSample_of_present (present : ∃ r ∈ s.monitor.queue, r.kind = .measure) : s.placeSample = s := by
  obtain ⟨r, mem, kind⟩ := present
  rw [State.placeSample, if_pos (List.any_eq_true.2 ⟨r, mem, decide_eq_true kind⟩)]

theorem State.placeSample_of_absent (absent : ∀ r ∈ s.monitor.queue, r.kind ≠ .measure) :
    s.placeSample = (s.place 0 .measure).refreshDemand := by
  rw [State.placeSample, if_neg]
  rw [List.any_eq_true]
  rintro ⟨r, mem, kind⟩
  exact absent r mem (of_decide_eq_true kind)

/-- An idle converter with no candidate waiting is not tried (R53). -/
theorem State.kick_of_noneWaits (none : s.NoCandidateWaits) : s.kick = s := by
  refine State.kick_of_stands ?_
  rintro ⟨running, free, waits⟩
  obtain ⟨entries, heads⟩ := none running free
  obtain candidate | ⟨q, eligible⟩ := waits
  · obtain ⟨r, candidate⟩ := Option.isSome_iff_exists.1 candidate
    obtain ⟨mem, eligible⟩ := State.monitorCandidate_spec candidate
    rw [entries r mem] at eligible
    cases eligible
  · rw [heads q] at eligible
    cases eligible

/-- Where a sample is in the monitor queue of an idle RUNNING converter, it is granted first (R50, R53). -/
theorem State.kick_sample (lawful : s.MonitorQueueLawful) (running : s.engine.state = .running)
    (free : s.engine.inFlight = none) (queued : ∀ r ∈ s.monitor.queue, r.state = .queued)
    (none : ∀ o, (s.profile 0).need.get o = false) {r : Request} (mem : r ∈ s.monitor.queue) (kind : r.kind = .measure) :
    s.kick = s.monitorGranted r := by
  obtain ⟨source, -, -, -, -, sample, -⟩ := lawful.2.2.2 r mem
  have eligible : s.monitorEligible r = true := by
    rw [State.monitorEligible_iff, State.needReady_iff, sample kind]
    exact ⟨queued r mem, running, fun o needs => absurd (needs.symm.trans (none o)) nofun,
      fun zero => absurd (zero.symm.trans kind) nofun⟩
  have candidate : s.monitorCandidate = some r := by
    have only : s.monitor.queue.filter (fun x => decide (x.kind = .measure)) = [r] := by
      have short := lawful.1
      rw [List.countP_eq_length_filter] at short
      have here : r ∈ s.monitor.queue.filter fun x => decide (x.kind = .measure) :=
        List.mem_filter.2 ⟨mem, decide_eq_true kind⟩
      cases found : s.monitor.queue.filter fun x => decide (x.kind = .measure) with
      | nil =>
        rw [found] at here
        cases here
      | cons x rest =>
        rw [found] at here short
        obtain rfl : rest = [] := List.length_eq_zero_iff.1 (by simpa using short)
        rw [List.mem_singleton.1 here]
    have order : s.monitor.inOrder = [r] ++ s.monitor.queue.filter (·.kind = .zero) := by
      rw [Monitor.inOrder, only]
    rw [State.monitorCandidate, order, List.singleton_append, List.find?_cons_of_pos eligible]
  rw [State.kick_of_idleEnds ⟨running, free, .inl (by rw [candidate]; rfl)⟩, State.grantPoint_monitor candidate,
    State.grant_monitor (State.find_monitor lawful mem) source]

/-! ## The entry to RUNNING (R73) -/

/-- The state in which the entry to RUNNING tries the idle converter: its sample is placed. -/
def State.sampled (s : State) : State := s.enteringRunning.restartInterval.placeSample

theorem State.enterRunning_sampled : s.enterRunning = s.sampled.kick := rfl

theorem State.works_sampled : s.Works s.sampled := by
  have running : s.Works s.enteringRunning :=
    (State.Works.of_stands (.modEngine s (f := fun e => { e with state := .running, startTimer := .stopped }.settleBreak) rfl
      fun step now zero => ⟨step, now, zero⟩)).trans (.of_noticesOnly (State.noticesOnly_postAll _ _))
  exact (running.trans (.of_stands (t := s.enteringRunning.restartInterval) (.modMonitor _ rfl))).trans (.placeSample _)

/-- A placement keeps all but the monitor queue, the references of profile 0 and the outputs. -/
theorem State.placeSample_rest (s : State) : s.placeSample.engine = s.engine ∧ s.placeSample.arbiter = s.arbiter ∧
    s.placeSample.ports = s.ports ∧ s.placeSample.monitor = { s.monitor with queue := s.placeSample.monitor.queue } ∧
    ∃ r ∈ s.placeSample.monitor.queue, r.kind = .measure := by
  by_cases present : ∃ r ∈ s.monitor.queue, r.kind = .measure
  · rw [State.placeSample_of_present present]
    exact ⟨rfl, rfl, rfl, rfl, present⟩
  · rw [State.placeSample_of_absent fun r mem kind => present ⟨r, mem, kind⟩]
    exact ⟨rfl, rfl, rfl, rfl, monitorEntry 0 .measure, List.mem_append_right _ List.mem_cons_self, rfl⟩

theorem State.sampled_rest : s.sampled.engine = { s.engine with
      state := .running, startTimer := .stopped, progress := 0, marks := [] } ∧
    s.sampled.arbiter = s.arbiter ∧ (∀ q, s.sampled.port q = (s.port q).post (.engine .running)) ∧
    s.sampled.monitor.intervalTimer = .running (s.monitor.sampleInterval * 1000) ∧
    ∃ r ∈ s.sampled.monitor.queue, r.kind = .measure := by
  obtain ⟨engine, arbiter, ports, monitor, sample⟩ := State.placeSample_rest s.enteringRunning.restartInterval
  refine ⟨engine, arbiter, fun q => ?_, congrArg Monitor.intervalTimer monitor, sample⟩
  rw [State.port, State.sampled, ports]
  exact State.postAll_port _ q _

theorem State.Lawful.profileZero (lawful : s.Lawful) : (s.profile 0).method = .none ∧ (s.profile 0).need = .all false := by
  have fixed := lawful.profiles.2
  exact ⟨congrArg Profile.method fixed, congrArg Profile.need fixed⟩

end

end Sys2Proof.Machine
end

section
/-! PROOF. The obligation about temperature samples (chapters 4 and 5). -/

namespace Sys2Proof.Proofs
open Sys2Proof Sys2Proof.Machine

/-- Settles O34: at the start the sample is the one candidate that goes first; later it is placed unless one is there. -/
theorem timersPlaceTemperatureSamples : Obligations.TimersPlaceTemperatureSamples := by
  unfold Obligations.TimersPlaceTemperatureSamples
  intro s ms
  refine ⟨fun starting runs lawful => ?_, fun converts runs => ⟨fun present => ?_, fun absent => ?_⟩⟩
  · obtain ⟨idle, unloaded, -, -⟩ := lawful.engine.2.2 (.inr starting)
    obtain ⟨engine, arbiter, port, timer, r, mem, kind⟩ := State.sampled_rest (s := s)
    obtain ⟨method, need⟩ := lawful.profileZero
    have flight : s.sampled.FlightLawful :=
      State.Works.keeps (fun _ _ step law => law.step step) State.works_sampled lawful.flight
    have free : s.sampled.engine.inFlight = none := by
      rw [engine]
      exact idle
    have contents : (s.profile 0).SameContents (s.sampled.profile 0) :=
      ((s.quiet_enteringRunning.trans (State.quiet_restartInterval _)).trans (State.quiet_placeSample _)).1.profiles 0
    have granted : s.enterRunning = s.sampled.monitorGranted r := by
      rw [State.enterRunning_sampled]
      refine State.kick_sample flight.monitorQueue (by rw [engine]) free
        (fun x there => flight.queued_of_free free (State.mem_live.2 (.inr there))) (fun o => ?_) mem kind
      rw [contents.need, need]
      cases o <;> rfl
    obtain ⟨-, -, -, -, -, sample, -⟩ := flight.monitorQueue.2.2.2 r mem
    have begins := Engine.begin_other (e := { s.sampled.engine with inFlight := some (.monitor 0) }) (kind := .measure)
      (profile := s.sampled.profile 0) (by rw [engine, unloaded]; nofun)
    have settles : (firstStep .measure (s.sampled.profile 0).method) = .settling ∧
        firstSetup .measure (s.sampled.profile 0) = { setup := (s.profile 0).setup, shorted := false, phase := .none } := by
      rw [firstSetup, contents.method, contents.setup, method]
      exact ⟨rfl, rfl⟩
    rw [settles.1, settles.2, engine] at begins
    have operation : (s.sampled.monitorGranted r).engine =
        ({ s.sampled.engine with inFlight := some (.monitor 0) } : Engine).begin .measure (s.sampled.profile 0) := by
      rw [State.monitorGranted, kind, sample kind]
    rw [engine, begins] at operation
    have one : (s.sampled.monitorGranted r).monitor.queue.countP (fun x => decide (x.kind = .measure)) = 1 := by
      have kinds : (s.sampled.monitorGranted r).monitor.queue.countP (fun x => decide (x.kind = .measure)) =
          s.sampled.monitor.queue.countP fun x => decide (x.kind = .measure) := by
        rw [State.monitorGranted, List.countP_map]
        refine List.countP_congr fun x _ => ?_
        simp only [Function.comp_apply]
        split <;> rfl
      rw [kinds]
      exact le_antisymm flight.monitorQueue.1 (List.countP_pos_iff.2 ⟨r, mem, decide_eq_true kind⟩)
    have ports : ∀ q, (s.sampled.monitorGranted r).port q = (s.port q).post (.engine .running) := port
    refine ⟨_, (exec_startTimerExpiry starting runs).trans (congrArg _ granted), by rw [operation], by rw [operation], timer,
      one, by rw [operation], by rw [operation], by rw [operation], by rw [operation], arbiter, fun q => ⟨?_, ?_, ?_⟩⟩
    · have posts := (s.portsWork_postAll (.engine .running)).posts (lawful.capacity q)
      rw [State.Posts, State.postAll_port] at posts
      rw [State.Posts, ports]
      exact posts
    · rw [ports, PortState.post_queue]
    · rw [ports, PortState.post_credit]
  · have restarted := State.placeSample_of_present (s := s.restartInterval) present
    have run := exec_intervalTimerExpiry converts runs
    rw [restarted] at run
    exact ⟨run, fun none => by rw [run, State.kick_of_noneWaits (s := s.restartInterval) none]; rfl⟩
  · rw [exec_intervalTimerExpiry converts runs, State.placeSample_of_absent (s := s.restartInterval) absent]
    rfl

end Sys2Proof.Proofs
end

section
/-! SUPPORT. The end of a period that delivers: what follows the use of its output (R52, R61, R71). -/

namespace Sys2Proof.Machine

/-- An entry to DOWN costs no credit and raises none (R61). -/
theorem State.credit_enterDown (s : State) (q : Port) : (s.enterDown.port q).credit = (s.port q).credit := by
  rw [s.enterDown_port, PortState.post_credit]
  rcases s.giveBack_cases with ⟨-, e⟩ | ⟨r, -, -, e⟩ | ⟨r, -, -, e⟩ <;> rw [e]
  · rw [State.port_refreshDemand, State.terminate_credit]
  · rw [State.modFlight_ports, (s.releaseReservation_rest r).2]

/-- A halt that ends with an unmarked request in flight: it is given back where it stands. -/
theorem State.Frees.enterDown_unmarked {w : State} {r : Request} (flight : w.FlightLawful) (flies : w.flight = some r)
    (unmarked : r.finalMark = false) : w.Frees w.enterDown true := by
  obtain ⟨queue, entries, profile⟩ := State.giveBack_unmarked flight flies unmarked
  have given : w.giveBack = (w.releaseReservation r).modFlight fun x => { x with state := .queued } := by
    rw [State.giveBack, flies]
    simp [unmarked]
  obtain ⟨rest, port⟩ := w.releaseReservation_rest r
  obtain ⟨outputs, profiles, -, monitor, ports⟩ := w.enterDown_parts
  have sameOutputs : w.giveBack.outputs = w.outputs := by
    rw [given, (State.modFlight_rest _ _).2.1, rest]
  refine ⟨fun q => ?_, fun q => ?_, ?_, ?_, fun n => ?_, fun o => ?_, ?_⟩
  · rw [w.enterDown_port, PortState.entries, PortState.post_queue, queue q, List.map_map]
    rfl
  · rw [w.enterDown_port, PortState.post_used, given, State.modFlight_ports, port]
  · refine w.portsWork_enterDown.congr fun q => ?_
    rw [State.notices_giveBack flies, unmarked]
    rfl
  · rw [monitor]
    show List.map _ w.giveBack.monitor.queue = _
    rw [entries, List.map_map]
    rfl
  · rw [State.profile, profiles]
    exact profile n
  · rw [State.output, outputs, sameOutputs]
    cases o <;> rfl
  · rfl

section

variable {s v : State}

/-- What follows the use of an output, where the converter is free or goes on with a request that holds no final mark. -/
theorem State.frees_afterPeriod (converting : v.engine.state = .running ∨ v.engine.state = .halting)
    (gives : v.engine.inFlight = none ∨ ∃ r, v.FlightLawful ∧ v.flight = some r ∧ r.finalMark = false) :
    v.Frees v.afterPeriod (decide (v.engine.state = .halting)) := by
  rcases converting with running | halting
  · rcases Option.eq_none_or_eq_some v.engine.inFlight with free | ⟨f, busy⟩
    · rw [State.afterPeriod_free running free]
      exact .freed v true free
    · rw [State.afterPeriod_busy running (by rw [busy]; exact nofun), running]
      exact .refl v
  · rw [State.afterPeriod_halting halting, halting]
    rcases gives with free | ⟨r, flight, flies, unmarked⟩
    · exact .enterDown free
    · exact .enterDown_unmarked flight flies unmarked

/-- A free converter in RUNNING is at a result boundary (R52). -/
theorem State.afterPeriod_grants (running : v.engine.state = .running) (free : v.engine.inFlight = none) :
    v.afterPeriod = v.grantPoint true := by
  rw [State.afterPeriod_free running free, State.freed, running]

/-- The cost of a result, and the refill of the grant point that may follow it (R56, R61). -/
theorem State.charges_afterPeriod {payer : Option Port} {granting : Bool}
    (converting : v.engine.state = .running ∨ v.engine.state = .halting)
    (granted : granting = decide (v.engine.state = .running ∧ v.engine.inFlight = none))
    (credit : ∀ q, (v.port q).credit = (s.port q).credit - if payer = some q then 1 else 0)
    (weight : ∀ q, (v.port q).weight = (s.port q).weight)
    (bounded : ∀ q, (s.port q).credit ≤ (s.port q).weight) : s.Charges v.afterPeriod payer granting := by
  have below : ∀ q, (v.port q).credit ≤ (v.port q).weight := fun q => by
    have := bounded q
    rw [credit, weight]
    split <;> omega
  have stands : (∀ q, (v.afterPeriod.port q).credit = (v.port q).credit) → s.Charges v.afterPeriod payer granting :=
    fun same => ⟨0, fun _ => rfl, fun q => by
      have := below q
      rw [credit, weight] at this
      dsimp only
      rw [same, credit]
      generalize (s.port q).credit - (if payer = some q then 1 else 0) = charged at this ⊢
      rw [if_neg (by push_cast; omega)]
      simp⟩
  rcases converting with running | halting
  · rcases Option.eq_none_or_eq_some v.engine.inFlight with free | ⟨f, busy⟩
    · obtain ⟨k, raised⟩ := State.grantPoint_raises below true
      refine ⟨k, fun without => ?_, fun q => ?_⟩
      · rw [granted, running, free] at without
        simp at without
      · have raised := raised q
        rw [credit, weight] at raised
        rw [State.afterPeriod_grants running free]
        exact raised
    · exact stands fun q => by rw [State.afterPeriod_busy running (by rw [busy]; exact nofun)]
  · exact stands fun q => by rw [State.afterPeriod_halting halting, State.credit_enterDown]

end

/-- The record of a delivered result, but for its sequence number (R81, R82, R112). -/
def Request.deliveredRecord (r : Request) (formed : Formed) : ResultRecord :=
  r.resultRecord r.deliveredNext
    { formed.flags with
      last := r.lastNext
      windowLow := (r.window.map (·.side formed.value)) = some .below
      windowHigh := (r.window.map (·.side formed.value)) = some .above } formed.value

theorem Window.sideOf_eq (w : Window) (value : Int) : w.sideOf value = w.side value := rfl

/-- The delivery of a formed result: its record written and charged, then the turn's end (R82). -/
theorem State.deliver_sound {formed : Formed} (sound : formed.Sound) (s : State) (r : Request) :
    s.deliver r formed = (s.written r (r.deliveredRecord formed) formed.value).endTurn r formed.value := by
  have value : (formed.judgeWindow r.window).value = formed.value := by
    cases r.window <;> rfl
  have flags : ({ (formed.judgeWindow r.window).flags with last := r.lastNext } : ResultFlags) =
      { formed.flags with
        last := r.lastNext
        windowLow := (r.window.map (·.side formed.value)) = some .below
        windowHigh := (r.window.map (·.side formed.value)) = some .above } := by
    cases r.window with
    | none => simp [Formed.judgeWindow, sound.windowLow, sound.windowHigh]
    | some w =>
      have side : ∀ x, decide (w.sideOf formed.value = x) = decide ((some w).map (·.side formed.value) = some x) :=
        fun x => decide_eq_decide.2 (by simp [Window.sideOf_eq])
      simp only [Formed.judgeWindow, side]
  unfold State.deliver State.written Request.deliveredRecord
  dsimp only
  rw [value, r.endsAt_eq, flags, r.nextDelivered_eq]

section

variable {s : State} {r : Request} {p : Port}

/-- An unchopped output of a port request is formed and delivered (R79, R82). -/
theorem State.useOutput_output (source : r.source = .port p) (s : State) (l : LoadedSetup) (raw : Int) (overload : Bool) :
    s.useOutput r .output l raw overload = s.deliver r (formUnchopped r.profile (s.profile r.profile) raw overload) := by
  show s.useResult r _ = _
  rw [State.useResult, source]

/-- The phase − output completes a chopped result (R78). -/
theorem State.useOutput_chopMinus {plus : Int} {before : Bool} (held : s.engine.held = .plus plus before) (r : Request)
    (l : LoadedSetup) (raw : Int) (overload : Bool) :
    s.useOutput r .chopMinusOutput l raw overload = s.deliver r (formChopped plus raw (before || overload)) := by
  show s.chopOutput r raw overload = _
  rw [State.chopOutput, held]

end

end Sys2Proof.Machine
end

section
/-! SUPPORT. A delivered result: what is written to its port, and the three ends of its turn (R61, R82, R114, R119, R35). -/

namespace Sys2Proof.Machine

/-- The high-water state and the lost flag after a result write (R119, R123). -/
theorem PortState.writeResult_marks (ps : PortState) (reserved : Bool) (record : ResultRecord) :
    (ps.writeResult reserved record).highWater = ps.highAfter ∧
      (ps.writeResult reserved record).lost =
        (ps.lost || decide (ps.highNotices ≠ []) && decide (8 ≤ ps.notices.length)) := by
  unfold PortState.writeResult PortState.judgeHighWater PortState.judgeAlert PortState.highAfter PortState.highNotices
    highWaterMark
  simp only [List.length_append, List.length_singleton, Nat.reduceEqDiff]
  by_cases full : ps.ring.length = 11
  · cases state : ps.highWater <;> simp [full, PortState.post_lost]
  · simp [full]

theorem State.port_writeToRing {s : State} {r : Request} {p : Port} (source : r.source = .port p) (record : ResultRecord)
    (q : Port) : (s.writeToRing r record).port q =
      if q = p then ((s.port p).writeResult (r.run = .contiguous) record).charge else s.port q := by
  simp only [State.writeToRing, State.modSource, source, State.port_modPort]

/-- A result write posts RING_HIGH where it brings the ring to 12 (R119). -/
theorem State.posts_writeToRing {s : State} {r : Request} {p : Port} (source : r.source = .port p) (record : ResultRecord)
    {q : Port} (capacity : (s.port q).notices.length ≤ 8) :
    s.Posts (s.writeToRing r record) q (if q = p then (s.port p).highNotices else []) := by
  have port := State.port_writeToRing (s := s) source record q
  by_cases same : q = p
  · subst same
    rw [if_pos rfl] at port ⊢
    have notices : ((s.writeToRing r record).port q).notices = _ :=
      (congrArg PortState.notices port).trans ((s.port q).writeResult_notices (r.run = .contiguous) record capacity)
    have lost : ((s.writeToRing r record).port q).lost = _ :=
      (congrArg PortState.lost port).trans ((s.port q).writeResult_marks (r.run = .contiguous) record).2
    refine ⟨notices, ?_⟩
    rw [lost]
    unfold PortState.highNotices
    split
    · simp
    · simp
      omega
  · rw [if_neg same] at port ⊢
    exact .refl capacity (by rw [port]) (by rw [port])

theorem State.portsWork_foldl_post (p : Port) (l : List Notice) (s : State) :
    s.PortsWork (l.foldl (·.post p ·) s) fun q => if q = p then l else [] := by
  induction l generalizing s with
  | nil => exact (State.PortsWork.refl s).congr fun q => by simp [noNotices]
  | cons n rest ih =>
    refine ((s.portsWork_post p n).trans (ih (s.post p n))).congr fun q => ?_
    split <;> rfl

/-- Everything a written result changes lies in the ports (R61, R114). -/
theorem State.written_ports (s : State) (r : Request) (record : ResultRecord) (value : Int) :
    s.written r record value = { s with ports := (s.written r record value).ports } := by
  have wrote : s.writeToRing r record = { s with ports := (s.writeToRing r record).ports } := by
    unfold State.writeToRing State.modSource
    split <;> rfl
  exact ((s.writeToRing r record).noticesOnly_postWindow r value).rest.trans
    (congrArg (fun t : State => { t with ports := (s.written r record value).ports }) wrote)

section

variable {s : State} {r : Request} {p : Port}

/-- A written result posts RING_HIGH, then WINDOW, at its own port (R81, R119). -/
theorem State.posts_written (source : r.source = .port p) (record : ResultRecord) (value : Int) {q : Port}
    (capacity : (s.port q).notices.length ≤ 8) :
    s.Posts (s.written r record value) q (if q = p then (s.port p).highNotices ++ r.windowNotices value else []) := by
  have high := State.posts_writeToRing source record capacity
  have room : ((s.writeToRing r record).port q).notices.length ≤ 8 := by
    rw [high.1, List.length_take]
    omega
  have window : (s.writeToRing r record).Posts (s.written r record value) q (if q = p then r.windowNotices value else []) := by
    rw [State.written, State.postWindow_eq _ r value p source]
    exact (State.portsWork_foldl_post p _ _).posts room
  refine (congrArg (s.Posts _ q) ?_).mp (high.trans capacity window)
  split <;> rfl

/-- The ring's items of a port after a result is written to `p`. -/
theorem State.written_marks (source : r.source = .port p) (record : ResultRecord) (value : Int) (q : Port) :
    ((s.written r record value).port q).nextSeq = (s.port q).nextSeq + (if q = p then 1 else 0) ∧
      ((s.written r record value).port q).highWater = if q = p then (s.port p).highAfter else (s.port q).highWater := by
  have posted := (s.writeToRing r record).noticesOnly_postWindow r value
  unfold State.written
  rw [posted.ports q, State.port_writeToRing source]
  split
  next same =>
    subst same
    exact ⟨((s.port q).writeResult_parts (r.run = .contiguous) record).2.1,
      ((s.port q).writeResult_marks (r.run = .contiguous) record).1⟩
  next => exact ⟨by simp, rfl⟩

/-! ## The ends of a turn -/

/-- A port whose queue alone is another. -/
def PortState.queueBy (f : List Request → List Request) (ps : PortState) : PortState := { ps with queue := f ps.queue }

theorem State.port_queueBy (s : State) (p q : Port) (f : List Request → List Request) (g : Engine → Engine) :
    ((s.modPort p (·.queueBy f)).modEngine g).port q = if q = p then (s.port p).queueBy f else s.port q := by
  rw [State.modEngine_port, State.port_modPort]

/-- The rotation of the head of a port's queue (R35). -/
theorem State.rotateFlight_eq (source : r.source = .port p) (f : Request → Request) :
    s.rotateFlight r f = (s.modPort p (·.queueBy (rotate f))).modEngine (·.noFlight) := by
  rw [State.rotateFlight, State.modSource, source]
  rfl

/-- A request of a port that goes on with its next result (R82). -/
theorem State.goesOn_eq (flies : s.engine.inFlight = some (.port p)) (r : Request) (f : Request → Request) :
    (s.modFlight f).beginOperation r =
      (s.modPort p (·.queueBy (modHead f))).modEngine (·.begin r.kind (s.profile r.profile)) := by
  rw [State.modFlight, flies]
  rfl

theorem Engine.state_begin (e : Engine) (kind : Kind) (profile : Profile) : (e.begin kind profile).state = e.state :=
  (e.load_parts (firstSetup kind profile)).2.1

end

end Sys2Proof.Machine
end

section
/-! PROOF. The obligation about runs that owe more (chapter 3). -/

namespace Sys2Proof.Proofs
open Sys2Proof Sys2Proof.Machine

/-- Settles O38: the delivery writes, charges one credit and frees one reserved place, and the run begins its next result. -/
theorem runsPayForEachResult : Obligations.RunsPayForEachResult := by
  unfold Obligations.RunsPayForEachResult
  intro s p r rest l raw overload lawful running inFlight queue run more loaded range step
  have flies : s.flight = some r := by rw [State.flight_port inFlight, queue]; rfl
  have source : r.source = .port p := lawful.flight.source p r (by rw [queue]; exact List.mem_cons_self)
  have goesOn : r.endsAt r.nextDelivered = false := by
    rw [r.endsAt_eq, Request.lastNext]
    have unmarked : r.finalMark = false := by
      obtain ⟨-, -, final⟩ := (lawful.room.requests p r (by rw [queue]; exact List.mem_cons_self)).2
      rw [← Bool.not_eq_true]
      intro mark
      have := final mark
      omega
    rw [unmarked]
    simp
    omega
  have delivered : ∃ operation formed, s.engine.step = some operation ∧
      (s.counted l overload).useOutput r operation l raw (s.engine.overloadSpan l overload) =
        (s.counted l overload).deliver r formed := by
    rcases step with output | ⟨chop, plus, before, held⟩
    · exact ⟨_, _, output, State.useOutput_output source _ _ _ _⟩
    · exact ⟨_, _, chop, State.useOutput_chopMinus (s := s.counted l overload) held _ _ _ _⟩
  obtain ⟨operation, formed, under, used⟩ := delivered
  obtain ⟨record, value, turned⟩ := (s.counted l overload).deliver_eq r formed
  let w := (s.counted l overload).written r record value
  have engine : w.engine = (s.counted l overload).engine := by rw [show w = _ from State.written_ports _ _ _ _]
  have flown : w.engine.inFlight = some (.port p) := by rw [engine]; exact inFlight
  have turn : (s.counted l overload).deliver r formed =
      (w.modPort p (·.queueBy (modHead (·.after value)))).modEngine (·.begin r.kind (w.profile r.profile)) := by
    refine turned.trans (Eq.trans ?_ (State.goesOn_eq flown r _))
    rw [State.endTurn, goesOn, run]
    rfl
  have ports : ∀ q, (((s.counted l overload).deliver r formed).port q) = _ := fun q =>
    (congrArg (State.port · q) turn).trans (w.port_queueBy p q _ _)
  have converter : ((s.counted l overload).deliver r formed).engine = w.engine.begin r.kind (w.profile r.profile) := by
    rw [turn]
    rfl
  have flying : ((s.counted l overload).deliver r formed).engine.inFlight = some (.port p) := by
    rw [converter, Engine.inFlight_begin, flown]
  obtain ⟨queue', -, reservations, credit, -⟩ := State.written_port (s := s.counted l overload) source record value p
  have owes : 1 ≤ (s.port p).reservations := by
    obtain ⟨x, rest', list, -, -, room⟩ := lawful.room.flying p inFlight
    rw [queue] at list
    cases list
    have := room.1 run
    omega
  refine ⟨(s.counted l overload).deliver r formed, ?_, ?_, ?_, flying, ?_, fun q other => ?_, ?_⟩
  · rw [exec_outputPeriodEnd overload range flies loaded under (.inl running), used, State.afterPeriod_busy]
    · rw [converter, Engine.state_begin, engine]
      exact running
    · rw [flying]
      exact nofun
  · rw [ports, if_pos rfl]
    exact credit.trans (by rw [if_pos rfl]; rfl)
  · rw [ports, if_pos rfl]
    have freed : (w.port p).reservations = (s.port p).reservations - 1 := reservations.trans (by simp [run]; rfl)
    show (w.port p).reservations + 1 = _
    omega
  · rw [turn]
    show w.arbiter = _
    rw [show w = _ from State.written_ports _ _ _ _]
    rfl
  · rw [ports, if_neg other]
    have stands := (State.written_port (s := s.counted l overload) source record value q).2.2.2.1
    rw [if_neg other] at stands
    exact stands.trans (Int.sub_zero _)
  · refine ⟨r.after value, ?_, ?_, (lawful.flight.state_of_flight flies : r.state = .inFlight), rfl⟩
    · rw [ports, if_pos rfl]
      show modHead _ (w.port p).queue = _
      rw [show (w.port p).queue = r :: rest from queue'.trans queue]
      rfl
    · show r.nextDelivered = _
      rw [r.nextDelivered_eq, Request.deliveredNext, if_neg (by omega)]

end Sys2Proof.Proofs
end

section
/-! SUPPORT. The end of the request in flight by completion: its queue, its profile, its notices, and the converter that it
leaves (R9, R28, R29, R52). -/

namespace Sys2Proof.Machine

/-! ## The single request in flight -/

section

variable {s : State} {r : Request}

/-- A port's queue marks its head alone, where the engine holds it (R60). -/
theorem State.OneInFlight.inFlight_port (h : s.OneInFlight) (q : Port) :
    (s.port q).queue.countP (·.isInFlight) = (if s.engine.inFlight = some (.port q) then 1 else 0) ∧
      (s.port q).queue.filter (!·.isInFlight) =
        if s.engine.inFlight = some (.port q) then (s.port q).queue.tail else (s.port q).queue := by
  obtain ⟨tails, heads, -, ports, -⟩ := h
  cases queue : (s.port q).queue with
  | nil => simp [show s.engine.inFlight ≠ some (.port q) from fun flies => ports q flies queue]
  | cons head rest =>
    have later : ∀ x ∈ rest, x.isInFlight = false := fun x mem => by
      rw [Request.isInFlight, tails q x (by rw [queue]; exact mem)]
      rfl
    have first := heads q head (by rw [queue]; rfl)
    have none : rest.countP (·.isInFlight) = 0 := List.countP_eq_zero.2 fun x mem => by simp [later x mem]
    have all : rest.filter (!·.isInFlight) = rest := List.filter_eq_self.2 fun x mem => by simp [later x mem]
    by_cases flies : s.engine.inFlight = some (.port q)
    · have marked : head.isInFlight = true := decide_eq_true (first.2 flies)
      simp [marked, flies, none, all]
    · have unmarked : head.isInFlight = false := decide_eq_false (mt first.1 flies)
      simp [unmarked, flies, none, all]

theorem State.FlightLawful.inFlight_monitor (h : s.FlightLawful) : s.monitor.queue.countP (·.isInFlight) ≤ 1 ∧
    ((∃ p, s.engine.inFlight = some (.port p)) → s.monitor.queue.countP (·.isInFlight) = 0) := by
  obtain ⟨-, -, entries, -, -⟩ := h.one
  have marked : ∀ x ∈ s.monitor.queue, x.isInFlight = true ↔ s.engine.inFlight = some (.monitor x.profile) :=
    fun x mem => decide_eq_true_iff.trans (entries x mem)
  refine ⟨?_, fun ⟨p, flies⟩ => List.countP_eq_zero.2 fun x mem => ?_⟩
  · by_contra many
    obtain ⟨x, y, pair⟩ : ∃ x y, [x, y].Sublist (s.monitor.queue.filter (·.isInFlight)) := by
      rw [List.countP_eq_length_filter] at many
      generalize s.monitor.queue.filter (·.isInFlight) = marks at many ⊢
      match marks with
      | [] | [_] => simp at many
      | x :: y :: rest => exact ⟨x, y, ((List.nil_sublist rest).cons_cons y).cons_cons x⟩
    have profiles := (MonitorQueue.nodup_profiles h.monitorQueue).sublist
      ((pair.trans List.filter_sublist).map Request.profile)
    have flying : ∀ z ∈ [x, y], s.engine.inFlight = some (.monitor z.profile) := fun z mem => by
      obtain ⟨mem, state⟩ := List.mem_filter.1 (pair.subset mem)
      exact (marked z mem).1 state
    have same := (flying x (by simp)).symm.trans (flying y (by simp))
    simp only [Option.some.injEq, Flight.monitor.injEq] at same
    simp [same] at profiles
  · rw [marked x mem, flies]
    exact nofun

/-- At most one live request is in flight (R60). -/
theorem State.FlightLawful.inFlight_live (h : s.FlightLawful) : s.live.countP (·.isInFlight) ≤ 1 := by
  have a := (h.one.inFlight_port .a).1
  have b := (h.one.inFlight_port .b).1
  have c := (h.one.inFlight_port .c).1
  obtain ⟨monitor, elsewhere⟩ := h.inFlight_monitor
  show List.countP _ ((s.port .a).queue ++ (s.port .b).queue ++ (s.port .c).queue ++ s.monitor.queue) ≤ 1
  rw [List.countP_append, List.countP_append, List.countP_append, a, b, c]
  by_cases port : ∃ p, s.engine.inFlight = some (.port p)
  · obtain ⟨p, flies⟩ := port
    rw [elsewhere ⟨p, flies⟩, flies]
    cases p <;> decide
  · rw [if_neg fun e => port ⟨_, e⟩, if_neg fun e => port ⟨_, e⟩, if_neg fun e => port ⟨_, e⟩]
    omega

/-- The completion of the request in flight completes a retire where it alone held it open (R9). -/
theorem State.retireCompletes_flight (counts : s.CountsMatch) (flight : s.FlightLawful) (flies : s.flight = some r)
    (n : Fin 32) : s.retireCompletes (·.isInFlight) n = true ↔
      n = r.profile ∧ (s.profile r.profile).refCount = 1 ∧ (s.profile r.profile).state = .retiring := by
  have mem : r ∈ s.live := State.flight_mem_live flies
  have state : r.isInFlight = true := decide_eq_true (flight.state_of_flight flies)
  have only : ∀ x ∈ s.live, x.isInFlight = true → x = r := fun x live marked => by
    have same := flight.flight_of_state live (of_decide_eq_true marked)
    rw [flies] at same
    exact (Option.some.inj same).symm
  have once : (s.live.filter (·.isInFlight)).countP (fun x => decide (x.profile = r.profile)) = 1 := by
    refine le_antisymm (List.countP_le_length.trans ?_) (List.countP_pos_iff.2 ⟨r, List.mem_filter.2 ⟨mem, state⟩, by simp⟩)
    rw [← List.countP_eq_length_filter]
    exact flight.inFlight_live
  have split := countP_split s.live (fun x => decide (x.profile = r.profile)) (·.isInFlight)
  have counted : (s.profile r.profile).refCount = s.live.countP fun x => decide (x.profile = r.profile) := counts r.profile
  have none : (s.live.filter (!·.isInFlight)).countP (fun x => decide (x.profile = r.profile)) = 0 ↔
      (s.live.all fun x => !decide (x.profile = r.profile) || x.isInFlight) = true := by
    rw [List.countP_filter, List.countP_eq_zero, List.all_eq_true]
    refine forall_congr' fun x => forall_congr' fun _ => ?_
    cases x.isInFlight <;> simp
  rw [State.retireCompletes, Bool.and_eq_true, Bool.and_eq_true, decide_eq_true_eq]
  constructor
  · rintro ⟨⟨retiring, held⟩, all⟩
    obtain ⟨x, live, both⟩ := List.any_eq_true.1 held
    simp only [Bool.and_eq_true, decide_eq_true_eq] at both
    obtain ⟨rfl, marked⟩ := both
    obtain rfl := only x live marked
    have alone := none.2 all
    exact ⟨rfl, by omega, retiring⟩
  · rintro ⟨rfl, one, retiring⟩
    refine ⟨⟨retiring, List.any_eq_true.2 ⟨r, mem, by simp [state]⟩⟩, none.1 (by omega)⟩

/-- PROFILE_RETIRED for the completion of the request in flight (R9, R30). -/
theorem State.retireNotices_flight (counts : s.CountsMatch) (flight : s.FlightLawful) (flies : s.flight = some r)
    (q : Port) : s.retireNotices q (·.isInFlight) =
      if (s.profile r.profile).refCount = 1 ∧ (s.profile r.profile).state = .retiring ∧
          (s.profile r.profile).owner = some (.port q) then [.profileRetired r.profile] else [] := by
  have completes := State.retireCompletes_flight counts flight flies
  rw [State.retireNotices, List.filterMap_at (x := r.profile) (List.nodup_finRange 32) (List.mem_finRange _) fun n other =>
    if_neg fun both => other ((completes n).1 both.1).1]
  simp only [completes, true_and, and_assoc]
  split <;> rfl

/-! ## The completion -/

theorem State.finish_profileAfter (counts : s.CountsMatch) (n : Fin 32) :
    s.finish.profile n = s.profileAfter (·.isInFlight) n := by
  have refs := State.refCount_drop counts (·.isInFlight) n
  rw [s.finish_profile, State.retireEnds_drop counts]
  rw [State.profile_drop] at refs ⊢
  simp only [State.profileAfter, ← refs]
  split <;> rfl

theorem State.portsWork_finish_flight (counts : s.CountsMatch) (flight : s.FlightLawful) (flies : s.flight = some r) :
    s.PortsWork s.finish fun q => if (s.profile r.profile).refCount = 1 ∧ (s.profile r.profile).state = .retiring ∧
      (s.profile r.profile).owner = some (.port q) then [.profileRetired r.profile] else [] :=
  s.portsWork_finish.congr fun q => by
    rw [State.retiredNotices_drop counts, State.retireNotices_flight counts flight flies]

theorem State.finish_entries (h : s.OneInFlight) (q : Port) : (s.finish.port q).entries =
    if s.engine.inFlight = some (.port q) then (s.port q).entries.tail else (s.port q).entries := by
  rw [PortState.entries, s.finish_queue, (h.inFlight_port q).2]
  split
  · exact List.map_tail
  · rfl

/-- A completion leaves every live request QUEUED. -/
theorem State.finish_queued {x : Request} (mem : x ∈ s.finish.live) : x.state = .queued := by
  rcases State.mem_live.1 mem with ⟨q, port⟩ | monitor
  · rw [s.finish_queue] at port
    exact Request.queued_of_not_isInFlight (List.mem_filter.1 port).2
  · rw [s.finish_monitor] at monitor
    exact Request.queued_of_not_isInFlight (List.mem_filter.1 monitor).2

end

/-! ## The converter that a turn leaves -/

/-- The end of a turn leaves the state that the statements describe (R52, R61). -/
theorem State.turnEndsAt_of {s v : State} {l : LoadedSetup} {overload : Bool} {monitor : Monitor} {payer : Option Port}
    (engine : v.engine = (s.counted l overload).engine.noFlight) (arbiter : v.arbiter = s.arbiter)
    (items : v.monitor = monitor)
    (credit : ∀ q, (v.port q).credit = (s.port q).credit - if payer = some q then 1 else 0)
    (weight : ∀ q, (v.port q).weight = (s.port q).weight) (reservations : ∀ q, (v.port q).reservations = 0)
    (queued : ∀ r ∈ v.live, r.state = .queued) (contents : ∀ n, (s.profile n).SameContents (v.profile n)) :
    s.TurnEndsAt v l overload monitor payer := by
  refine ⟨?_, arbiter, items, fun q => ⟨credit q, weight q, reservations q⟩, fun r mem => ?_⟩
  · rw [engine, State.counted, State.modEngine_engine, Engine.countPeriod_eq]
    rfl
  · have same := contents r.profile
    exact ⟨queued r mem, same.setup, same.method, same.need⟩

/-! ## The period counted -/

section

variable {s : State} (h : s.Lawful) (l : LoadedSetup) (overload : Bool)
include h

theorem State.Lawful.counted_flight : (s.counted l overload).FlightLawful :=
  h.flight.of_work rfl rfl rfl fun _ => rfl

theorem State.Lawful.counted_room : (s.counted l overload).RoomLaw :=
  h.room.of_core (fun _ => rfl) h.room.entries rfl (fun step now zero => ⟨step, now, zero⟩) (fun _ => le_rfl) fun _ => rfl

theorem State.Lawful.counted_counts : (s.counted l overload).CountsMatch := h.counts

end

end Sys2Proof.Machine
end

section
/-! SUPPORT. The completion of a temperature sample (R84, R93, R98, R102). -/

namespace Sys2Proof.Machine

/-- Profiles that are not RETIRING are told nothing at a completion (R9, R30). -/
theorem State.portsWork_finish_active {w : State} {r : Request} (flight : w.FlightLawful) (flies : w.flight = some r)
    (active : (w.profile r.profile).state ≠ .retiring) : w.PortsWork w.finish noNotices := by
  refine w.portsWork_finish.congr fun q => List.filterMap_eq_nil_iff.2 fun n _ => if_neg ?_
  rintro ⟨ends, -⟩
  rw [State.retireEnds, Bool.and_eq_true, Bool.and_eq_true, decide_eq_true_eq, State.profile_drop] at ends
  obtain ⟨⟨named, retiring⟩, -⟩ := ends
  obtain ⟨x, mem, names⟩ := List.any_eq_true.1 named
  obtain ⟨live, marked⟩ := List.mem_filter.1 mem
  have same := flight.flight_of_state live (of_decide_eq_true marked)
  rw [flies] at same
  cases same
  cases of_decide_eq_true names
  exact active retiring

theorem State.placedZeros_queued {s : State} {x : Request} (mem : x ∈ s.placedZeros) : x.state = .queued := by
  rw [State.placedZeros_eq] at mem
  obtain ⟨n, -, rfl⟩ := List.mem_map.1 mem
  rfl

/-- The state with the current temperature that a sample gives (R93). -/
def State.measured (s : State) (value : Int) : State := s.modMonitor fun m => { m with temperature := value, valid := true }

section

variable {s : State} {r : Request} (lawful : s.Lawful) (inFlight : s.engine.inFlight = some (.monitor 0))
  (flies : s.flight = some r)
include inFlight flies

theorem State.sample_profile : r.profile = 0 := by
  rw [State.flight_monitor inFlight] at flies
  simpa using List.find?_some flies

include lawful

theorem State.sample_source : r.source = .monitor := by
  rcases lawful.flight.flight_source flies with ⟨p, rest, port, -⟩ | ⟨-, -, source, -⟩
  · rw [inFlight] at port
    cases port
  · exact source

/-- The sample's output completes it (R84). -/
theorem State.useOutput_sample (l : LoadedSetup) (raw : Int) (overload span : Bool) :
    (s.counted l overload).useOutput r .output l raw span =
      ((s.counted l overload).measured (clampTemperature (Config.dieTemperature raw))).ageingPass.finish := by
  show (s.counted l overload).useResult r _ = _
  rw [State.useResult, State.sample_source lawful inFlight flies, State.sample_profile inFlight flies]
  rfl

omit flies in
/-- The sample leaves the monitor queue with its ZEROs (R102). -/
theorem State.filter_sample : s.monitor.queue.filter (!·.isInFlight) =
    s.monitor.queue.filter fun x => decide (x.kind = .zero) := by
  refine List.filter_congr fun x mem => ?_
  have marked := lawful.flight.one.2.2.1 x mem
  obtain ⟨-, -, -, -, -, sample, zero⟩ := lawful.monitorQueue.2.2.2 x mem
  rw [inFlight] at marked
  simp only [Option.some.injEq, Flight.monitor.injEq] at marked
  cases kind : x.kind with
  | measure => simp [Request.isInFlight, marked.2 (sample kind).symm]
  | zero =>
    have queued : x.state ≠ .inFlight := fun flying => zero kind (marked.1 flying).symm
    simp [Request.isInFlight, queued]

end

end Sys2Proof.Machine
end

section
/-! PROOF. The obligation about the temperature sample (chapter 5). -/

namespace Sys2Proof.Proofs
open Sys2Proof Sys2Proof.Machine

/-- Settles O41: the output moves the temperature, the ageing pass follows, the sample ends, and the free converter halts or
grants. -/
theorem sampleUpdatesTheTemperature : Obligations.SampleUpdatesTheTemperature := by
  unfold Obligations.SampleUpdatesTheTemperature
  intro s r l raw overload lawful converting inFlight flies loaded under range read value now zeros
  let measured := (s.counted l overload).measured value
  let aged := measured.ageingPass
  let v := aged.finish
  have run : exec (.outputPeriodEnd raw overload) s = .next v.afterPeriod := by
    rw [exec_outputPeriodEnd overload range flies loaded under converting, State.useOutput_sample lawful inFlight flies]
    rfl
  have agedEngine : aged.engine = (s.counted l overload).engine := measured.ageingPass_engine
  have engine : v.engine = (s.counted l overload).engine.noFlight := aged.finish_engine.trans (by rw [agedEngine])
  have state : v.engine.state = s.engine.state := by rw [engine]; rfl
  have free : v.engine.inFlight = none := by rw [engine]; rfl
  have converts : v.engine.state = .running ∨ v.engine.state = .halting := by rw [state]; exact converting
  have agedFlight : aged.FlightLawful := by
    have counted : measured.FlightLawful := (lawful.counted_flight l overload).of_work rfl rfl rfl fun _ => rfl
    exact State.Works.keeps (fun _ _ step law => law.step step) (.ageingPass measured) counted
  have agedFlying : aged.engine.inFlight = some (.monitor 0) := by rw [agedEngine]; exact inFlight
  have agedQueue : aged.monitor = { measured.monitor with queue := s.monitor.queue ++ now.placedZeros } :=
    measured.ageingPass_monitor
  obtain ⟨x, agedFlies⟩ := agedFlight.exists_flight agedFlying
  have sampled : x.profile = 0 := State.sample_profile agedFlying agedFlies
  have profile : ∀ n, (v.profile n).record = (s.profile n).record.map (·.afterPass now.monitor) := fun n =>
    (aged.quiet_finish.2.record n).trans (congrArg Profile.record (measured.ageingPass_profile n))
  have active : (aged.profile x.profile).state ≠ .retiring := by
    rw [sampled, show aged.profile 0 = _ from measured.ageingPass_profile 0]
    show (s.profile 0).state ≠ .retiring
    rw [lawful.references.2.2]
    decide
  have monitor : v.monitor = { now.monitor with queue := zeros } := by
    have waiting : (aged.monitor.queue.filter (!·.isInFlight)) = zeros := by
      rw [agedQueue, List.filter_append, State.filter_sample lawful inFlight]
      exact congrArg _ (List.filter_eq_self.2 fun x mem => by simp [Request.isInFlight, State.placedZeros_queued mem])
    rw [show v.monitor = _ from aged.finish_monitor, waiting, agedQueue]
    rfl
  have ports : ∀ {α : Type} (f : PortState → α) (_ : ∀ ps notices lost alertLow, f { ps with notices, lost, alertLow } = f ps)
      q, f (aged.port q) = f (s.port q) := fun f unmoved q => measured.ageingPass_port f unmoved q
  have posted : s.PortsWork v now.staleNotices :=
    (show s.PortsWork aged now.staleNotices from measured.portsWork_ageingPass).trans_quiet
      (State.portsWork_finish_active agedFlight agedFlies active)
  have credit : ∀ q, (v.port q).credit = (s.port q).credit - if (none : Option Port) = some q then 1 else 0 := fun q =>
    (aged.finish_credit q).trans ((ports (·.credit) (fun _ _ _ _ => rfl) q).trans (by simp))
  have elsewhere : ∀ q, s.engine.inFlight ≠ some (.port q) := fun q => by rw [inFlight]; exact nofun
  have frees := State.frees_afterPeriod converts (.inl free)
  have queued : ∀ x ∈ zeros, x.state = .queued := fun x mem =>
    State.finish_queued (s := aged) (State.mem_live.2 (.inr (by rw [show aged.finish.monitor = _ from monitor]; exact mem)))
  refine ⟨v.afterPeriod, run, ?_, ?_, fun n => ?_, ?_, fun running => ⟨v, ?_, ?_⟩, ?_, fun q => ⟨?_, ?_, ?_⟩⟩
  · rw [v.quiet_afterPeriod.2.temperature, monitor]
  · rw [v.quiet_afterPeriod.2.valid, monitor]
  · rw [frees.profile, profile]
  · rw [frees.waiting, monitor]
    exact Request.map_queued_of_queued queued
  · refine State.turnEndsAt_of engine ?_ monitor credit posted.weight (fun q => ?_) (fun x mem => State.finish_queued mem) fun n => ?_
    · exact aged.finish_arbiter.trans measured.ageingPass_arbiter
    · exact (aged.finish_reservations q).trans
        ((ports (·.reservations) (fun _ _ _ _ => rfl) q).trans (lawful.room.unreserved q (elsewhere q)))
    · exact ((State.keeps_ageingPass measured).trans aged.quiet_finish.1).profiles n
  · exact State.afterPeriod_grants (state.trans running) free
  · refine State.charges_afterPeriod converts ?_ credit posted.weight fun q => (lawful.creditLaw.sound q).2.1
    rw [state, free]
    simp
  · rw [frees.ports.ring, posted.ring]
  · have own : (aged.port q).entries = (s.port q).entries := ports (·.entries) (fun _ _ _ _ => rfl) q
    rw [frees.entries, show (v.port q).entries = _ from State.finish_entries agedFlight.one q, agedFlying, if_neg nofun, own]
  · rw [← state]
    exact (posted.trans frees.ports).posts (lawful.capacity q)

end Sys2Proof.Proofs
end

section
/-! SUPPORT. The completion of a ZERO by its fourth averaged output (R83, R105, R114). -/

namespace Sys2Proof.Machine

theorem State.live_of_queues {s t : State} (queue : ∀ q, (t.port q).queue = (s.port q).queue)
    (monitor : t.monitor.queue = s.monitor.queue) : t.live = s.live := by
  show (t.port .a).queue ++ (t.port .b).queue ++ (t.port .c).queue ++ t.monitor.queue = _
  rw [queue, queue, queue, monitor]
  rfl

/-- The port that pays for a result of the request in flight (R61). -/
def Request.payer (r : Request) : Option Port :=
  match r.source with
  | .port p => some p
  | .monitor => none

section

variable {s : State} {r : Request} (flight : s.FlightLawful) (flies : s.flight = some r)
include flight flies

theorem State.payer_iff (q : Port) : r.payer = some q ↔ s.engine.inFlight = some (.port q) := by
  rcases flight.flight_source flies with ⟨p, rest, port, -, source⟩ | ⟨monitor, -, source, -⟩
  · rw [Request.payer, source, port]
    simp
  · rw [Request.payer, source, monitor]
    simp

/-- A result of the request in flight is written to the ring of the port it flies from (R114). -/
theorem State.port_writeToRing_flight (record : ResultRecord) (q : Port) : (s.writeToRing r record).port q =
    if s.engine.inFlight = some (.port q) then ((s.port q).writeResult (r.run = .contiguous) record).charge
    else s.port q := by
  have payer := State.payer_iff flight flies q
  cases source : r.source with
  | monitor =>
    rw [Request.payer, source] at payer
    rw [State.writeToRing, State.modSource_of_monitor source, if_neg fun e => nomatch payer.2 e]
  | port p =>
    rw [Request.payer, source] at payer
    rw [State.port_writeToRing source]
    by_cases same : q = p
    · subst same
      rw [if_pos rfl, if_pos (payer.1 rfl)]
    · rw [if_neg same, if_neg fun e => same (Option.some.inj (payer.2 e)).symm]

theorem State.writeToRing_parts (record : ResultRecord) (q : Port) :
    ((s.writeToRing r record).port q).queue = (s.port q).queue ∧
      ((s.writeToRing r record).port q).ring = (s.port q).ring ++
        (if s.engine.inFlight = some (.port q) then [{ record with sequence := (s.port q).nextSeq }] else []) ∧
      ((s.writeToRing r record).port q).highWater =
        (if s.engine.inFlight = some (.port q) then (s.port q).highAfter else (s.port q).highWater) ∧
      ((s.writeToRing r record).port q).credit = (s.port q).credit - (if r.payer = some q then 1 else 0) ∧
      ((s.writeToRing r record).port q).weight = (s.port q).weight := by
  have cost : (if r.payer = some q then (1 : Int) else 0) = if s.engine.inFlight = some (.port q) then 1 else 0 :=
    if_congr (State.payer_iff flight flies q) rfl rfl
  rw [State.port_writeToRing_flight flight flies, cost]
  split
  · obtain ⟨ring, -, -, queue, -, credit⟩ := (s.port q).writeResult_parts (r.run = .contiguous) record
    have weight := ((s.port q).sameSettings_writeResult (r.run = .contiguous) record).weight
    have highWater := ((s.port q).writeResult_marks (r.run = .contiguous) record).1
    exact ⟨queue, ring, highWater, congrArg (· - 1) credit, weight⟩
  · simp

theorem State.posts_writeToRing_flight (record : ResultRecord) {q : Port} (capacity : (s.port q).notices.length ≤ 8) :
    s.Posts (s.writeToRing r record) q (if s.engine.inFlight = some (.port q) then (s.port q).highNotices else []) := by
  have payer := State.payer_iff flight flies q
  cases source : r.source with
  | monitor =>
    rw [Request.payer, source] at payer
    rw [State.writeToRing, State.modSource_of_monitor source, if_neg fun e => nomatch payer.2 e]
    exact .refl capacity rfl rfl
  | port p =>
    rw [Request.payer, source] at payer
    have posts := State.posts_writeToRing source record capacity
    by_cases same : q = p
    · subst same
      rw [if_pos rfl] at posts
      rw [if_pos (payer.1 rfl)]
      exact posts
    · rw [if_neg same] at posts
      rw [if_neg fun e => same (Option.some.inj (payer.2 e)).symm]
      exact posts

end

theorem State.writeToRing_ports (s : State) (r : Request) (record : ResultRecord) :
    s.writeToRing r record = { s with ports := (s.writeToRing r record).ports } := by
  unfold State.writeToRing State.modSource
  split <;> rfl

/-- The profile whose record a completed ZERO writes, and no other (R105). -/
theorem State.profile_writeRecord (s : State) (r : Request) (value : Int) (n : Fin 32) :
    (s.writeRecord r value).profile n =
      { s.profile n with
        record := if n = r.profile then some (s.monitor.freshRecord value) else (s.profile n).record } := by
  rw [State.writeRecord, (State.noticesOnly_postOwner _ _ _).profile, State.profile_modProfile]
  split <;> simp_all

/-- The state in which a completed ZERO has written its ring and its record (R83, R105, R114). -/
def State.zeroWritten (s : State) (r : Request) (record : ResultRecord) (value : Int) : State :=
  (s.writeToRing r record).writeRecord r value

section

variable (s : State) (r : Request) (record : ResultRecord) (value : Int)

theorem State.zeroWritten_rest : (s.zeroWritten r record value).engine = s.engine ∧
    (s.zeroWritten r record value).monitor = s.monitor ∧ (s.zeroWritten r record value).arbiter = s.arbiter := by
  have posted := State.noticesOnly_postOwner ((s.writeToRing r record).modProfile r.profile fun profile =>
    { profile with record := some ((s.writeToRing r record).monitor.freshRecord value) })
    ((s.writeToRing r record).profile r.profile).owner (.offsetUpdated r.profile r.source)
  unfold State.zeroWritten State.writeRecord
  rw [posted.engine, posted.monitor, posted.rest]
  rw [s.writeToRing_ports r record]
  exact ⟨rfl, rfl, rfl⟩

theorem State.zeroWritten_profile (n : Fin 32) : (s.zeroWritten r record value).profile n =
    { s.profile n with record := if n = r.profile then some (s.monitor.freshRecord value) else (s.profile n).record } := by
  rw [State.zeroWritten, State.profile_writeRecord, s.writeToRing_ports r record]
  rfl

theorem State.zeroWritten_port {α : Type} (f : PortState → α)
    (unmoved : ∀ ps notices lost alertLow, f { ps with notices, lost, alertLow } = f ps) (q : Port) :
    f ((s.zeroWritten r record value).port q) = f ((s.writeToRing r record).port q) := by
  rw [State.zeroWritten, State.writeRecord, (State.noticesOnly_postOwner _ _ _).ports q, unmoved]
  rfl

theorem State.portsWork_zeroWritten : (s.writeToRing r record).PortsWork (s.zeroWritten r record value)
    (ownerNotice (s.profile r.profile).owner (.offsetUpdated r.profile r.source)) := by
  have owner : ((s.writeToRing r record).profile r.profile).owner = (s.profile r.profile).owner := by
    rw [s.writeToRing_ports r record]
    rfl
  rw [← owner]
  exact (State.PortsWork.of_ports (s := s.writeToRing r record) fun _ => rfl).quiet_trans (State.portsWork_postOwner _ _ _)

end

/-- What the end of some live requests makes of a profile, where records alone differ. -/
theorem State.profileAfter_congr {s t : State} (live : t.live = s.live) {record : Fin 32 → Option OffsetRecord}
    (profile : ∀ n, t.profile n = { s.profile n with record := record n }) (ends : Request → Bool) (n : Fin 32) :
    t.profileAfter ends n = { s.profileAfter ends n with record := record n } := by
  have completes : t.retireCompletes ends n = s.retireCompletes ends n := by
    rw [State.retireCompletes, State.retireCompletes, live, profile n]
  rw [State.profileAfter, State.profileAfter, completes, live, profile n]

end Sys2Proof.Machine
end

section
/-! PROOF. The obligation about the fourth output of a ZERO (chapter 5). -/

namespace Sys2Proof.Proofs
open Sys2Proof Sys2Proof.Machine

/-- Settles O39: the ring is written and the record rewritten, the request ends, and the free converter halts or grants. -/
theorem fourthOutputCompletesTheZero : Obligations.FourthOutputCompletesTheZero := by
  unfold Obligations.FourthOutputCompletesTheZero
  intro s r l raw sum overload before lawful converting flies zero loaded under held range value profile payer
  let spanned := before || s.engine.overloadSpan l overload
  let c := s.counted l overload
  let record := r.resultRecord 1 { ResultFlags.clear with last := true, overrange := spanned, zero := true } value
  let m := c.zeroWritten r record value
  let v := m.finish
  have used : c.useOutput r .zeroAveraging l raw (s.engine.overloadSpan l overload) = c.completeZero r value spanned :=
    State.averageOutput_of_fourth (s := c) (averaged_of_held (.inl held)) r raw _
  have completed : c.completeZero r value spanned = v := rfl
  have run : exec (.outputPeriodEnd raw overload) s = .next v.afterPeriod := by
    rw [exec_outputPeriodEnd overload range flies loaded under converting, used]
    rfl
  obtain ⟨wroteEngine, wroteMonitor, wroteArbiter⟩ := c.zeroWritten_rest r record value
  have wroteProfile : ∀ n, m.profile n = { s.profile n with
      record := if n = r.profile then some (s.monitor.freshRecord value) else (s.profile n).record } :=
    fun n => c.zeroWritten_profile r record value n
  have parts := State.writeToRing_parts (lawful.counted_flight l overload) flies record
  have port : ∀ {α : Type} (f : PortState → α) (_ : ∀ ps notices lost alertLow, f { ps with notices, lost, alertLow } = f ps) q,
      f (m.port q) = f ((c.writeToRing r record).port q) := fun f unmoved q => c.zeroWritten_port r record value f unmoved q
  have queue : ∀ q, (m.port q).queue = (s.port q).queue := fun q =>
    (port (·.queue) (fun _ _ _ _ => rfl) q).trans (parts q).1
  have live : m.live = s.live := State.live_of_queues queue (congrArg Monitor.queue wroteMonitor)
  have counts : m.CountsMatch := fun n => by
    rw [wroteProfile n, State.named, live]
    exact lawful.counts n
  have wroteFlight : m.FlightLawful :=
    (lawful.counted_flight l overload).of_work (congrArg Engine.inFlight wroteEngine) (congrArg Monitor.queue wroteMonitor)
      (by rw [wroteProfile 0]; rfl) queue
  have wroteFlies : m.flight = some r := wroteFlight.flight_of_state (by rw [live]; exact State.flight_mem_live flies)
    (lawful.flight.state_of_flight flies)
  have finished := State.portsWork_finish_flight counts wroteFlight wroteFlies
  have engine : v.engine = c.engine.noFlight := m.finish_engine.trans (by rw [wroteEngine])
  have state : v.engine.state = s.engine.state := by rw [engine]; rfl
  have free : v.engine.inFlight = none := by rw [engine]; rfl
  have converts : v.engine.state = .running ∨ v.engine.state = .halting := by rw [state]; exact converting
  have frees := State.frees_afterPeriod converts (.inl free)
  have credit : ∀ q, (v.port q).credit = (s.port q).credit - if payer = some q then 1 else 0 := fun q =>
    (m.finish_credit q).trans ((port (·.credit) (fun _ _ _ _ => rfl) q).trans (parts q).2.2.2.1)
  have weight : ∀ q, (v.port q).weight = (s.port q).weight := fun q =>
    (finished.weight q).trans ((port (·.weight) (fun _ _ _ _ => rfl) q).trans (parts q).2.2.2.2)
  have room : v.RoomLaw := (lawful.counted_room l overload).completeZero flies under value spanned
  refine ⟨v.afterPeriod, run, fun n => ?_, fun q => ?_, fun q => ?_, fun q => ?_, ?_, fun running => ⟨v, ?_, ?_⟩, fun q => ?_⟩
  · rw [frees.profile, show v.profile n = _ from State.finish_profileAfter counts n,
      State.profileAfter_congr live wroteProfile]
    rfl
  · rw [frees.ports.ring, finished.ring, port (·.ring) (fun _ _ _ _ => rfl) q, (parts q).2.1]
    rfl
  · rw [frees.entries, show (v.port q).entries = _ from State.finish_entries wroteFlight.one q, wroteEngine,
      PortState.entries, queue q]
    rfl
  · rw [frees.ports.highWater, finished.highWater, port (·.highWater) (fun _ _ _ _ => rfl) q, (parts q).2.2.1]
    rfl
  · refine State.charges_afterPeriod converts ?_ credit weight fun q => (lawful.creditLaw.sound q).2.1
    rw [state, free]
    simp
  · refine State.turnEndsAt_of engine ?_ ?_ credit weight (fun q => room.unreserved q (by rw [free]; exact nofun))
      (fun x mem => State.finish_queued mem) fun n => ?_
    · exact m.finish_arbiter.trans wroteArbiter
    · rw [show v.monitor = _ from m.finish_monitor, wroteMonitor]
      have kept : s.monitor.queue.filter (!·.isInFlight) = s.monitor.queue.filter fun x => decide (x.state ≠ .inFlight) :=
        List.filter_congr fun x _ => by simp [Request.isInFlight]
      rw [← kept]
      rfl
    · exact (c.keeps_completeZero r value spanned).profiles n
  · exact State.afterPeriod_grants (state.trans running) free
  · have high := State.posts_writeToRing_flight (lawful.counted_flight l overload) flies record (lawful.capacity q)
    have fits : ((c.writeToRing r record).port q).notices.length ≤ 8 := by
      rw [high.1, List.length_take]
      omega
    have later := (((c.portsWork_zeroWritten r record value).trans finished).trans frees.ports).posts (q := q) fits
    have owner : (m.profile r.profile).refCount = profile.refCount ∧ (m.profile r.profile).state = profile.state ∧
        (m.profile r.profile).owner = profile.owner := by
      rw [wroteProfile]
      exact ⟨rfl, rfl, rfl⟩
    obtain ⟨refs, lifecycle, owns⟩ := owner
    have posts : s.Posts v.afterPeriod q _ := high.trans (lawful.capacity q) later
    rw [refs, lifecycle, owns, state] at posts
    refine (congrArg (s.Posts _ q) ?_).mp posts
    simp only [List.append_assoc]
    rfl

end Sys2Proof.Proofs
end

section
/-! SUPPORT. The turn of a port request that has delivered a result: it ends, rotates, or goes on (R35, R82). -/

namespace Sys2Proof.Machine

/-- A request QUEUED again after its result, with its new delivered count and window side (R35, R81, R82). -/
def Request.turned (r : Request) (value : Int) : Request :=
  { r with state := .queued, delivered := r.deliveredNext, side := r.window.map (·.side value) }

theorem Request.queued_after (r : Request) (value : Int) : { r.after value with state := .queued } = r.turned value := by
  rw [Request.after, r.nextDelivered_eq]
  rfl

/-- The entries of a queue after a turn of its head. -/
def Request.turnedEntries (r : Request) (value : Int) (rest : List Request) : List Request :=
  if r.lastNext then rest
  else match r.run with
    | .contiguous => r.turned value :: rest
    | .interleaved => rest ++ [r.turned value]

/-- The turn of the head of port `p`'s queue in `w` leaves `v`. -/
structure State.TurnsTo (w v : State) (p : Port) (r : Request) (value : Int) : Prop where
  entries : (v.port p).entries = r.turnedEntries value (w.port p).entries.tail
  others : ∀ q, q ≠ p → (v.port q).entries = (w.port q).entries
  credit : ∀ q, (v.port q).credit = (w.port q).credit
  profile : ∀ n, v.profile n = if r.lastNext then w.profileAfter (·.isInFlight) n else w.profile n
  monitor : v.monitor = w.monitor
  arbiter : v.arbiter = w.arbiter
  state : v.engine.state = w.engine.state
  free : r.lastNext = true ∨ r.run = .interleaved → v.engine = w.engine.noFlight
  goesOn : ¬ (r.lastNext = true ∨ r.run = .interleaved) → v.flight = some (r.after value)

section

variable {w : State} {p : Port} {r : Request} {rest : List Request} (inFlight : w.engine.inFlight = some (.port p))
  (queue : (w.port p).queue = r :: rest) (value : Int)
include inFlight

/-- A request that ends with its result. -/
theorem State.turnsTo_finish (flight : w.FlightLawful) (counts : w.CountsMatch) (ends : r.lastNext = true) :
    w.TurnsTo w.finish p r value where
  entries := by
    rw [State.finish_entries flight.one, if_pos inFlight, Request.turnedEntries, if_pos ends]
  others q other := by
    rw [State.finish_entries flight.one, inFlight, if_neg (by simpa using Ne.symm other)]
  credit := w.finish_credit
  profile n := by
    rw [if_pos ends, State.finish_profileAfter counts]
  monitor := by
    have none := flight.inFlight_monitor.2 ⟨p, inFlight⟩
    have kept : w.monitor.queue.filter (!·.isInFlight) = w.monitor.queue :=
      List.filter_eq_self.2 fun x mem => by simpa using List.countP_eq_zero.1 none x mem
    rw [w.finish_monitor, kept]
  arbiter := w.finish_arbiter
  state := by
    rw [w.finish_engine]
    rfl
  free _ := w.finish_engine
  goesOn more := absurd (.inl ends) more

include queue

/-- A request that rotates (R35). -/
theorem State.turnsTo_rotate (source : r.source = .port p) (more : r.lastNext = false) (run : r.run = .interleaved) :
    w.TurnsTo (w.rotateFlight r fun x => { x.after value with state := .queued }) p r value := by
  have port := fun q => (congrArg (State.port · q) (State.rotateFlight_eq (s := w) source
    fun x => { x.after value with state := .queued })).trans (w.port_queueBy p q _ _)
  have rest' := State.rotateFlight_eq (s := w) source fun x => { x.after value with state := .queued }
  refine ⟨?_, fun q other => ?_, fun q => ?_, fun n => ?_, by rw [rest']; rfl, by rw [rest']; rfl, by rw [rest']; rfl,
    fun _ => by rw [rest']; rfl, fun goesOn => absurd (.inr run) goesOn⟩
  · rw [port p, if_pos rfl, Request.turnedEntries, more, run]
    simp only [PortState.entries, PortState.queueBy, queue, rotate, List.map_append, List.map_cons, List.map_nil, List.tail_cons,
      Bool.false_eq_true, if_false]
    rw [← r.queued_after value]
  · rw [port q, if_neg other]
  · rw [port q]
    split
    next same => subst same; rfl
    · rfl
  · rw [more, rest']
    rfl

/-- A request that goes on with its next result (R82). -/
theorem State.turnsTo_goesOn (more : r.lastNext = false) (run : r.run = .contiguous) :
    w.TurnsTo ((w.modFlight (·.after value)).beginOperation r) p r value := by
  have port := fun q => (congrArg (State.port · q) (State.goesOn_eq inFlight r (·.after value))).trans
    (w.port_queueBy p q _ _)
  have rest' := State.goesOn_eq inFlight r (·.after value)
  have engine : ((w.modFlight (·.after value)).beginOperation r).engine =
      w.engine.begin r.kind (w.profile r.profile) := by
    rw [rest']
    rfl
  refine ⟨?_, fun q other => ?_, fun q => ?_, fun n => ?_, by rw [rest']; rfl, by rw [rest']; rfl,
    by rw [engine, Engine.state_begin], fun stops => ?_, fun _ => ?_⟩
  · rw [port p, if_pos rfl, Request.turnedEntries, more, run]
    simp only [PortState.entries, PortState.queueBy, queue, modHead, List.map_cons, List.tail_cons, Bool.false_eq_true, if_false]
    rw [← r.queued_after value]
  · rw [port q, if_neg other]
  · rw [port q]
    split
    next same => subst same; rfl
    · rfl
  · rw [more, rest']
    rfl
  · rw [more, run] at stops
    simp at stops
  · rw [State.flight_port (p := p) (by rw [engine, Engine.inFlight_begin, inFlight]), port p, if_pos rfl]
    show (modHead _ (w.port p).queue).head? = _
    rw [queue]
    rfl

/-- The turn of a request that has delivered a result (R82). -/
theorem State.turnsTo_endTurn (flight : w.FlightLawful) (counts : w.CountsMatch) :
    w.TurnsTo (w.endTurn r value) p r value := by
  have source : r.source = .port p := flight.source p r (by rw [queue]; exact List.mem_cons_self)
  rcases w.endTurn_cases r value with ⟨ends, e⟩ | ⟨more, run, e⟩ | ⟨more, run, e⟩ <;> rw [e]
  · exact State.turnsTo_finish inFlight value flight counts (r.endsAt_eq ▸ ends)
  · exact State.turnsTo_rotate inFlight queue value source (r.endsAt_eq ▸ more) run
  · exact State.turnsTo_goesOn inFlight queue value (r.endsAt_eq ▸ more) run

end

end Sys2Proof.Machine
end

section
/-! SUPPORT. The delivery of a formed result (R79, R80, R82). -/

namespace Sys2Proof.Machine

section

variable {s : State} {p : Port} {r : Request} {rest : List Request} {formed : Formed} (flight : s.FlightLawful)
  (inFlight : s.engine.inFlight = some (.port p)) (queue : (s.port p).queue = r :: rest)
include flight inFlight queue

/-- The state in which the result of the head of port `p`'s queue is written stands as before, but for that port's ring and
notices. -/
theorem State.written_lawful (counts : s.CountsMatch) (record : ResultRecord) (value : Int) :
    (s.written r record value).FlightLawful ∧ (s.written r record value).CountsMatch ∧
      (s.written r record value).flight = some r ∧ (s.written r record value).live = s.live := by
  obtain ⟨engine, monitor, profile, same⟩ := s.written_rest r record value
  have live : (s.written r record value).live = s.live := State.live_of_queues same (by rw [monitor])
  refine ⟨flight.of_work (by rw [engine]) (by rw [monitor]) (by rw [profile]) same, fun n => ?_, ?_, live⟩
  · rw [profile, State.named, live]
    exact counts n
  · rw [State.flight_port (p := p) (by rw [engine, inFlight]), same, queue]
    rfl

/-- A delivery, and what the end of its turn leaves (R82). -/
theorem State.turnsTo_deliver (counts : s.CountsMatch) :
    (s.written r (r.deliveredRecord formed) formed.value).TurnsTo
      ((s.written r (r.deliveredRecord formed) formed.value).endTurn r formed.value) p r formed.value := by
  obtain ⟨engine, -, -, same⟩ := s.written_rest r (r.deliveredRecord formed) formed.value
  obtain ⟨lawful, matching, -, -⟩ :=
    State.written_lawful flight inFlight queue counts (r.deliveredRecord formed) formed.value
  exact State.turnsTo_endTurn (by rw [engine, inFlight]) ((same p).trans queue) formed.value lawful matching

/-- The ports after a delivery (R9, R82). -/
theorem State.portsWork_deliver (counts : s.CountsMatch) :
    (s.written r (r.deliveredRecord formed) formed.value).PortsWork
      ((s.written r (r.deliveredRecord formed) formed.value).endTurn r formed.value) fun q =>
        if r.lastNext = true ∧ (s.profile r.profile).refCount = 1 ∧ (s.profile r.profile).state = .retiring ∧
          (s.profile r.profile).owner = some (.port q) then [.profileRetired r.profile] else [] := by
  obtain ⟨lawful, matching, flies, -⟩ :=
    State.written_lawful flight inFlight queue counts (r.deliveredRecord formed) formed.value
  obtain ⟨-, -, profile, -⟩ := s.written_rest r (r.deliveredRecord formed) formed.value
  refine (State.portsWork_endTurn _ r formed.value).congr fun q => ?_
  rw [r.endsAt_eq, State.finishNotices, State.retiredNotices_drop matching,
    State.retireNotices_flight matching lawful flies, profile]
  cases r.lastNext <;> simp

end

/-- The period of an output that forms a port request's result delivers it (R82). -/
theorem exec_delivers {s : State} {p : Port} {r : Request} {rest : List Request} {tag : Byte} {formed : Formed} {l : LoadedSetup}
    {operation : OpStep} {raw : Int} {overload : Bool} (sound : formed.Sound) (lawful : s.Lawful)
    (converting : s.engine.state = .running ∨ s.engine.state = .halting) (inFlight : s.engine.inFlight = some (.port p))
    (queue : (s.port p).queue = r :: rest) (tagged : r.tag = some tag) (loaded : s.engine.loaded = some l)
    (range : InResultRange raw) (under : s.engine.step = some operation)
    (used : (s.counted l overload).useOutput r operation l raw (s.engine.overloadSpan l overload) =
      (s.counted l overload).deliver r formed) :
    ∃ t, exec (.outputPeriodEnd raw overload) s = .next t ∧ s.DeliversResult t p r tag formed.value formed.flags ∧
      (s.engine.state = .running → r.lastNext = true ∨ r.run = .interleaved →
        ∃ u, s.TurnEndsAt u l overload s.monitor (some p) ∧ t = u.grantPoint true) := by
  have flies : s.flight = some r := by rw [State.flight_port inFlight, queue]; rfl
  have source : r.source = .port p := lawful.flight.source p r (by rw [queue]; exact List.mem_cons_self)
  let c := s.counted l overload
  let w := c.written r (r.deliveredRecord formed) formed.value
  let v := c.deliver r formed
  have delivered : v = w.endTurn r formed.value := c.deliver_sound sound r
  have run : exec (.outputPeriodEnd raw overload) s = .next v.afterPeriod := by
    rw [exec_outputPeriodEnd overload range flies loaded under converting, used]
  obtain ⟨wroteEngine, wroteMonitor, wroteProfile, wroteQueue⟩ := c.written_rest r (r.deliveredRecord formed) formed.value
  have live : w.live = s.live := State.live_of_queues wroteQueue (congrArg Monitor.queue wroteMonitor)
  have turns : w.TurnsTo v p r formed.value := by
    rw [delivered]
    exact State.turnsTo_deliver (lawful.counted_flight l overload) inFlight queue (lawful.counted_counts l overload)
  have work := State.portsWork_deliver (formed := formed) (lawful.counted_flight l overload) inFlight queue
    (lawful.counted_counts l overload)
  rw [← c.deliver_sound sound r] at work
  have flight : v.FlightLawful := (lawful.counted_flight l overload).step (.delivers r formed flies)
  have room : v.RoomLaw := (lawful.counted_room l overload).deliver flies formed
  have wrote := State.written_port (s := c) source (r.deliveredRecord formed) formed.value
  have marks := State.written_marks (s := c) source (r.deliveredRecord formed) formed.value
  have state : v.engine.state = s.engine.state := turns.state.trans (by rw [wroteEngine]; rfl)
  have converts : v.engine.state = .running ∨ v.engine.state = .halting := by rw [state]; exact converting
  have free : r.lastNext = true ∨ r.run = .interleaved → v.engine.inFlight = none := fun stops => by
    rw [turns.free stops]
    rfl
  have busy : ¬ (r.lastNext = true ∨ r.run = .interleaved) → v.engine.inFlight ≠ none := fun goesOn none => by
    have flying := turns.goesOn goesOn
    rw [State.flight_free none] at flying
    cases flying
  have gives : v.engine.inFlight = none ∨ ∃ x, v.FlightLawful ∧ v.flight = some x ∧ x.finalMark = false := by
    by_cases stops : r.lastNext = true ∨ r.run = .interleaved
    · exact .inl (free stops)
    · refine .inr ⟨_, flight, turns.goesOn stops, ?_⟩
      have more := fun last => stops (.inl last)
      rw [Request.lastNext, Bool.or_eq_true] at more
      exact Bool.eq_false_iff.2 fun mark => more (.inl mark)
  have frees := State.frees_afterPeriod converts gives
  have credit : ∀ q, (v.port q).credit = (s.port q).credit - if some p = some q then 1 else 0 := fun q => by
    rw [turns.credit, (wrote q).2.2.2.1]
    by_cases same : q = p
    · subst same
      simp
      rfl
    · simp [same, Ne.symm same]
      rfl
  have weight : ∀ q, (v.port q).weight = (s.port q).weight := fun q => (work.weight q).trans (wrote q).2.2.2.2
  refine ⟨v.afterPeriod, run, ⟨?_, ?_, ?_, ?_, ?_, fun q other => ⟨?_, ?_, ?_⟩, fun n => ?_, fun q => ?_⟩,
    fun running stops => ⟨v, ?_, ?_⟩⟩
  · rw [frees.ports.ring, work.ring, (wrote p).2.1, if_pos rfl, Request.deliveredRecord, Request.resultRecord, tagged]
    rfl
  · rw [frees.ports.nextSeq, work.nextSeq, (marks p).1, if_pos rfl]
    rfl
  · rw [frees.ports.highWater, work.highWater, (marks p).2, if_pos rfl]
    rfl
  · rw [frees.entries, turns.entries, PortState.entries, wroteQueue p]
    rfl
  · refine State.charges_afterPeriod converts ?_ credit weight fun q => (lawful.creditLaw.sound q).2.1
    have freed : v.engine.inFlight = none ↔ r.lastNext = true ∨ r.run = .interleaved :=
      ⟨fun none => by_contra fun goesOn => busy goesOn none, free⟩
    simp [state, freed]
  · rw [frees.ports.ring, work.ring, (wrote q).2.1, if_neg other]
    exact List.append_nil _
  · rw [frees.ports.highWater, work.highWater, (marks q).2, if_neg other]
    rfl
  · rw [frees.entries, turns.others q other, PortState.entries, wroteQueue q]
    rfl
  · rw [frees.profile, turns.profile]
    split
    · exact State.profileAfter_congr live (record := fun n => (s.profile n).record) wroteProfile _ n
    · exact wroteProfile n
  · have posted := State.posts_written (s := c) source (r.deliveredRecord formed) formed.value (lawful.capacity q)
    have fits : (w.port q).notices.length ≤ 8 := by
      rw [posted.1, List.length_take]
      omega
    have posts : s.Posts v.afterPeriod q _ := posted.trans (lawful.capacity q) ((work.trans frees.ports).posts fits)
    rw [state] at posts
    refine (congrArg (s.Posts _ q) ?_).mp posts
    simp only [List.append_assoc]
    rfl
  · refine State.turnEndsAt_of ?_ ?_ (turns.monitor.trans wroteMonitor) credit weight
      (fun q => room.unreserved q (by rw [free stops]; exact nofun)) (fun x mem => flight.queued_of_free (free stops) mem)
      fun n => (c.keeps_deliver r formed).profiles n
    · rw [turns.free stops, wroteEngine]
    · rw [turns.arbiter, show w = _ from c.written_ports _ _ _]
      rfl
  · exact State.afterPeriod_grants (state.trans running) (free stops)

end Sys2Proof.Machine
end

section
/-! PROOF. The obligation about the results of port requests (chapter 4). -/

namespace Sys2Proof.Proofs
open Sys2Proof Sys2Proof.Machine

/-- Settles O37: each of the three ways of forming a result ends in one delivery. -/
theorem formedResultsAreDelivered : Obligations.FormedResultsAreDelivered := by
  unfold Obligations.FormedResultsAreDelivered
  intro s p r rest tag l raw overload lawful converting inFlight queue tagged loaded range clamp profile spanned result flagged
  have source : r.source = .port p := lawful.flight.source p r (by rw [queue]; exact List.mem_cons_self)
  have delivers : ∀ (operation : OpStep) (formed : Formed) (v : Int) (flags : ResultFlags), formed.Sound →
      s.engine.step = some operation →
      (s.counted l overload).useOutput r operation l raw (s.engine.overloadSpan l overload) =
        (s.counted l overload).deliver r formed →
      formed = ⟨v, flags⟩ → result v flags := fun operation formed v flags sound under used same => by
    have delivered := exec_delivers sound lawful converting inFlight queue tagged loaded range under used
    rw [same] at delivered
    exact delivered
  have unchopped : ∀ (v : Int) (flags : ResultFlags), s.engine.step = some .output →
      formUnchopped r.profile profile raw spanned = ⟨v, flags⟩ → result v flags := fun v flags under same =>
    delivers .output _ v flags (formUnchopped_sound _ _ _ _) under (State.useOutput_output source _ _ _ _) same
  have overrange : ∀ before after : Int, decide (after ≠ before) = decide (before ≠ after) := fun before after =>
    decide_eq_decide.2 ne_comm
  refine ⟨fun under fixed => unchopped _ _ under ?_, fun under user => ⟨fun method => unchopped _ _ under ?_,
    fun method absent => unchopped _ _ under ?_, fun rec method record => unchopped _ _ under ?_⟩, fun plus before under held => ?_⟩
  · rw [formUnchopped, if_pos fixed, formClamped, overrange]
    rfl
  · have raw' : offsetCorrected profile raw = (raw, .clear) := by
      unfold offsetCorrected
      split
      next stored _ => exact absurd stored method
      next stored _ => exact absurd stored method
      next => rfl
    rw [formUnchopped, if_neg user, raw', formClamped, overrange]
    rfl
  · have raw' : offsetCorrected profile raw = (raw, { ResultFlags.clear with offsetAbsent := true }) := by
      rw [offsetCorrected, method, absent]
    rw [formUnchopped, if_neg user, raw', formClamped, overrange]
    rfl
  · have raw' : offsetCorrected profile raw = (raw - rec.value, { ResultFlags.clear with offsetStale := rec.stale }) := by
      rw [offsetCorrected, method, record]
    rw [formUnchopped, if_neg user, raw', formClamped, overrange]
    rfl
  · refine delivers .chopMinusOutput _ _ _ (formChopped_sound plus raw (before || spanned)) under
      (State.useOutput_chopMinus (s := s.counted l overload) held _ _ _ _) ?_
    rw [formChopped, formClamped, overrange]
    rfl

end Sys2Proof.Proofs
end
